-- ==== Sys2Proof/Word.lean ====
section
/-! DEFINITION. The words the station's partners see: bytes on the line bus, in the program image and on the
record port (spec/12_formats.md R182). Everything else in the manual is described by named fields and counts, which are
`Nat` and `Int`. -/

namespace Sys2Proof

/-- One byte of a line frame or of the program image (R182). -/
abbrev Byte := BitVec 8

/-- The program id, which is the CRC-32 check value of a valid image (R176). -/
abbrev ProgramId := BitVec 32

/-- A line of characters of the display or of the record port. -/
abbrev Text := List Char

end Sys2Proof
end

