-- ==== Sys2Proof/Config.lean ====
section
/-! DEFINITION. The constants the manual fixes for every ESW-3608. No rule leaves a value free that an instruction
computes, so there is no uninterpreted constant here; the values the manual leaves open are marked choices
(notes/assumptions) or operands of the commands. -/

namespace Sys2Proof.Config

/-- Alarm sources 0 to 31 are the station's own (R27). -/
def localSources : Nat := 32
/-- All alarm sources, mirrors included (R27). -/
def alarmSources : Nat := 40
/-- The level of every STOP source (R28). -/
def stopLevel : Nat := 16
/-- The banner mask until the load ends and for an invalid program (R28, R32). -/
def defaultMask : Nat := 2
/-- The level of HOLD and NOTE sources until the load ends and for an invalid program (R28, R36). -/
def defaultLevel : Nat := 1

/-- Places of the transmit queue (R174). -/
def queuePlaces : Nat := 16
/-- The share of the transmit queue open to frames of classes 5 and 6 (R174). -/
def bulkPlaces : Nat := 8
/-- The unheard count at which LINE_ALONE is raised (R173). -/
def aloneAt : Nat := 3

/-- Default dwell limit in seconds (R40). -/
def dwellLimitDefault : Nat := 900
/-- Default offer timeout in ms (R46). -/
def offerTimeoutDefault : Nat := 1000
/-- Default transfer timeout in ms (R48). -/
def transferTimeoutDefault : Nat := 3000
/-- The roll-call timer in ms (R179). -/
def rollCallTime : Nat := 2000
/-- The restart chord in ms (R169). -/
def chordTime : Nat := 3000

/-- Entries of the suspect list (R10). -/
def suspectPlaces : Nat := 16
/-- Bound of the one-byte saturating counts (R2, R27, R173, R174, R177, R133, R148). -/
def byteCap : Nat := 255
/-- Bound of the saturating running counts (R63, R84). -/
def runningCap : Nat := 99999999
/-- Bound of a unit's pull count (R9). -/
def pullCountCap : Nat := 15
/-- Bound of a trim, in percent (R98). -/
def trimLimit : Int := 20
/-- The good-run count at which the trims decay (R97). -/
def decayAt : Nat := 8
/-- The peak, in cgf, below which no wire was hooked (R123, R126). -/
def hookPeak : Nat := 50
/-- The largest force, in cgf (R123). -/
def forceCap : Int := 60000
/-- Hook misses in a row that raise HOOK_MISS (R126). -/
def hookMissAt : Nat := 3
/-- Entries of the pull log (R132). -/
def pullLogPlaces : Nat := 64
/-- Entries of the failure log (R133). -/
def failureLogPlaces : Nat := 8
/-- Entries of the report assembly table (R149). -/
def assemblyPlaces : Nat := 4
/-- Pull lines of one assembly entry (R149). -/
def pullLinePlaces : Nat := 24
/-- Places of the report queue (R148). -/
def reportPlaces : Nat := 4
/-- Slots of an elevator's table (R135). -/
def slotPlaces : Nat := 50
/-- Rows and columns of the screen (R155). -/
def screenRows : Nat := 8
def screenColumns : Nat := 32
/-- The image format this part reads and its header's length (R186). -/
def imageFormat : Nat := 1
def imageHeaderLength : Nat := 12
/-- What the program port addresses (R186). -/
def imageSpace : Nat := 65536

end Sys2Proof.Config
end

