-- ==== Sys2Proof/Syntax.lean ====
section
/-! DEFINITION. The block's commands: `Instr` has one constructor for each row of spec/opcode_table.json, with the
operands the rules say the event carries. Before it stand the named values of the manual (R185 and the chapters that own
them), the payloads of line frames (R171, R184) and the program image (R176, R186). -/

namespace Sys2Proof

/-- R185: role. -/
inductive Role where | head | pull
deriving DecidableEq, Repr

/-- R18: the seven station states. -/
inductive StationState where | boot | rollcall | ready | run | paused | held | stopped
deriving DecidableEq, Repr

/-- R26: the head state. -/
inductive HeadState where | headOut | headIn
deriving DecidableEq, Repr

/-- R38: the eight stage states. -/
inductive StageState where | empty | feeding | receiving | loaded | finished | offering | handing | unloading
deriving DecidableEq, Repr

/-- R27: the classes of alarm sources, in rising order. -/
inductive AlarmClass where | note | hold | stop
deriving DecidableEq, Repr

/-- R27: the state of an alarm entry. -/
inductive AlarmState where | clear | active | acked
deriving DecidableEq, Repr

/-- R27, R184: the detail of an alarm entry. -/
inductive Detail where
  | none
  | unitWire (unit wire : Nat)
  | station (k : Nat)
  | lineSeq (q : Nat)
  | slot (n : Nat)
  | zone (n : Nat)
  | bondClass (n : Nat)
  | peer (station source : Nat)
deriving DecidableEq, Repr

/-- R27: the numbers of the station's own alarm sources. -/
abbrev Source := Nat
namespace Source
abbrev stopKey : Source := 0
abbrev duplicateStation : Source := 1
abbrev lineLayout : Source := 2
abbrev programInvalid : Source := 3
abbrev programMismatch : Source := 4
abbrev rosterGap : Source := 5
abbrev lineAlone : Source := 6
abbrev handoffTimeout : Source := 7
abbrev misfeed : Source := 8
abbrev nonStick1 : Source := 9
abbrev nonStick2 : Source := 10
abbrev searchFail2 : Source := 11
abbrev flameFail : Source := 12
abbrev trimLimit : Source := 13
abbrev processDrift : Source := 14
abbrev noCover : Source := 15
abbrev dwellLimit : Source := 16
abbrev hookMiss : Source := 17
abbrev confirmFail : Source := 18
abbrev heatPause : Source := 19
abbrev zoneSensor : Source := 20
abbrev wireLow : Source := 21
abbrev wireEnd : Source := 22
abbrev planInvalid : Source := 23
abbrev magazineEmpty : Source := 24
abbrev magazineFull : Source := 25
abbrev untrackedStrip : Source := 26
abbrev reportLoss : Source := 27
abbrev settingsClamped : Source := 28
abbrev suspectDrop : Source := 29
abbrev slotBlocked : Source := 30
abbrev missingDie : Source := 31
/-- The mirror entry of station `k` (R27: source 31 + k). -/
abbrev mirror (k : Nat) : Source := 31 + k
end Source

/-- R4: the causes of a REJECT. -/
inductive RejectCause where
  | noSurface | nonStick1 | nonStick2 | bondFail | aborted | pullFail | pullSacrifice | incomplete
deriving DecidableEq, Repr

/-- R3: a unit's status; the cause stands only with REJECT. -/
inductive UnitStatus where
  | isOpen | done | reject (cause : RejectCause) | skip
deriving DecidableEq, Repr

/-- R9, R125: the outcomes of a pull. -/
inductive PullOutcome where | held | pass | low | lift2 | lift1 | failNd | noHook
deriving DecidableEq, Repr

/-- R123, R185: the break code of a result. -/
inductive BreakCode where | noBreak | neck | span | heel | ballLift | stitchLift | unknown
deriving DecidableEq, Repr

/-- R116: the kind of a pull. -/
inductive PullKind where | suspect | plan | confirm | audit
deriving DecidableEq, Repr

/-- R116: the mode of a pull. -/
inductive PullMode where | nondestruct | destruct
deriving DecidableEq, Repr

/-- R10: the cause of a suspect. -/
inductive SuspectCause where | shortSink | saturated
deriving DecidableEq, Repr

/-- R51: why an OFFER is refused. -/
inductive RefuseReason where | notNeighbour | notRunning | stageBusy
deriving DecidableEq, Repr

/-- Section 5.3: a strip serial; `0000-00` is both 0. -/
structure Serial where
  magSeq : Nat
  slot : Nat
deriving DecidableEq, Repr

/-- R6: a unit's progress in one segment. -/
structure Progress where
  next : Nat
  startedBy : Nat
  finishedBy : Nat
  split : Nat
deriving DecidableEq, Repr

/-- R3: a unit entry. -/
structure UnitEntry where
  status : UnitStatus
  pulls : Nat
  worst : Option PullOutcome
  progress : List Progress
deriving DecidableEq, Repr

/-- R10: a suspect entry. -/
structure Suspect where
  unit : Nat
  wire : Nat
  cause : SuspectCause
deriving DecidableEq, Repr

/-- R129: a pull result. -/
structure PullResult where
  serial : Serial
  lineSeq : Nat
  unit : Nat
  wire : Nat
  bondClass : Nat
  bondedBy : Nat
  kind : PullKind
  mode : PullMode
  outcome : PullOutcome
  breakCode : BreakCode
  force : Nat
  overrange : Bool
  confirmFail : Bool
deriving DecidableEq, Repr

/-! ## Payloads of line frames (R171, R184) -/

/-- PRESENT: the sender's identity and its known set (R179). `known` lists station numbers. -/
structure PresentPayload where
  station : Nat
  role : Role
  infeed : Bool
  outfeed : Bool
  programId : ProgramId
  known : List Nat
deriving DecidableEq, Repr

/-- The summary of an ALARM frame (R33). -/
structure Summary where
  source : Nat
  alarmClass : AlarmClass
  level : Nat
deriving DecidableEq, Repr

/-- ALARM: the changed entry and the summary (R33). -/
structure AlarmPayload where
  source : Nat
  alarmClass : AlarmClass
  level : Nat
  newState : AlarmState
  detail : Detail
  summary : Option Summary
deriving DecidableEq, Repr

/-- STATE: the station as it stands when the sending begins (R175). -/
structure StatePayload where
  station : StationState
  head : HeadState
  stage : StageState
  ready : Bool
  highest : Option AlarmClass
deriving DecidableEq, Repr

/-- OFFER (R46). -/
structure OfferPayload where
  offerNumber : Nat
  serial : Serial
  lineSeq : Nat
  tracked : Bool
  units : Nat
deriving DecidableEq, Repr

/-- TAKE (R51). -/
structure TakePayload where
  offerNumber : Nat
  serial : Serial
  lineSeq : Nat
deriving DecidableEq, Repr

/-- REFUSE (R51). -/
structure RefusePayload where
  offerNumber : Nat
  reason : RefuseReason
deriving DecidableEq, Repr

/-- ARRIVED (R53). -/
structure ArrivedPayload where
  offerNumber : Nat
  lineSeq : Nat
deriving DecidableEq, Repr

/-- The header part of a record (R14, R184). -/
structure HeaderPart where
  serial : Serial
  lineSeq : Nat
  tracked : Bool
  dwell : Bool
  sample : Bool
  units : Nat
  segments : Nat
  dropped : Nat
deriving DecidableEq, Repr

/-- The content of a RECORD part (R14). -/
inductive PartContent where
  | header (h : HeaderPart)
  | unit (u : UnitEntry)
  | suspects (l : List Suspect)
deriving DecidableEq, Repr

/-- RECORD: a part number and its content (R14). -/
structure RecordPayload where
  number : Nat
  content : PartContent
deriving DecidableEq, Repr

/-- The payload of a line frame, by kind (R171). -/
inductive Payload where
  | stop
  | restart
  | present (p : PresentPayload)
  | alarm (p : AlarmPayload)
  | state (p : StatePayload)
  | lineStart
  | offer (p : OfferPayload)
  | take (p : TakePayload)
  | refuse (p : RefusePayload)
  | arrived (p : ArrivedPayload)
  | record (p : RecordPayload)
  | pullResult (p : PullResult)
deriving DecidableEq, Repr

/-- A line frame: sender, target (0 for a broadcast) and payload (R171). -/
structure Frame where
  sender : Nat
  target : Nat
  payload : Payload
deriving DecidableEq, Repr

/-! ## The program image (R176, R186)

A code field that names none of its values is `none`. -/

/-- R159, R160: the screen events. -/
inductive EventKind where
  | pageEnter | tick | stripChange | columnDone | unitChange | wireDone | pullDone | trimChange
  | alarmChange | stateChange | rosterChange | zoneSample | slotChange
deriving DecidableEq, Repr

/-- R158: the kind of a page. -/
inductive PageKind where | general | spool | failures
deriving DecidableEq, Repr

/-- R114: the audit mode. -/
inductive AuditMode where | off | wait | every
deriving DecidableEq, Repr

/-- R135: the direction of an elevator. -/
inductive Direction where | up | down
deriving DecidableEq, Repr

/-- R164: the format of a field. -/
inductive Format where | dec | sdec | hex | text | map
deriving DecidableEq, Repr

/-- R165: the source items, in the order of its table; the segment and spare maps are not among them
(notes/assumptions/49). -/
inductive SourceItem where
  | stationState | headState | stageState
  | stationNumber | role | endFlags
  | currentPage
  | serial | lineSequence | trackedFlag | dwellFlag | sampleFlag | droppedSuspects
  | columnPosition
  | unitMapRow
  | unitStatus | rejectCause | pullCount | worstPull
  | nextWire | startedBy | finishedBy | split
  | suspectUnit | suspectWire | suspectCause
  | firstTrim | secondTrim | goodRun
  | lastBondClass | lastBondSide | lastBondPower | lastBondSaturated | lastBondOutcome
  | lastBondSamples | lastBondSink | lastBondGenerator
  | zoneReading | zoneCause | zoneSet
  | wireStock | ballReady | wireCycle
  | wiresBonded | unitsDone | unitsRejected | fastCount
  | pullCycle | hookMissCount | auditCursor | auditCount | planState
  | confirmWire | confirmStation | confirmOrigin
  | pullLogUnit | pullLogWire | pullLogKind | pullLogOutcome | pullLogBreak | pullLogForce | pullLogBondedBy
  | failLogUnit | failLogWire | failLogKind | failLogOutcome | failLogBreak | failLogForce | failLogBondedBy
  | failLogCount | discardCounter
  | alarmState | alarmClass | alarmLevel | alarmCount | alarmDetail | alarmName
  | rosterPresence | rosterRole | rosterStation | rosterHead | rosterStage | rosterReady
  | unheardCount | lostFrames
  | clampedSettings
  | reportLost | freePlaces
  | inputSlot | outputSlot
  | outputSerial | outputGood | outputReject
  | magazineSequence | lineSequenceCounter
deriving DecidableEq, Repr

/-- R159: a trigger as the program gives it; `K` is its event kind. -/
structure TriggerRow (K : Type) where
  kind : K
  page : Nat
  first : Nat
  enable : Bool
deriving DecidableEq, Repr

/-- R161: a descriptor as the program gives it; `I` and `F` are its source item and format. -/
structure DescriptorRow (I F : Type) where
  item : I
  initIndex : Nat
  indexStep : Nat
  initRow : Nat
  column : Nat
  rowStep : Nat
  width : Nat
  format : F
  reload : Nat
  isRepeat : Bool
  chain : Bool
deriving DecidableEq, Repr

/-- R64: a wire entry. -/
structure WireRow where
  x1 : Int
  y1 : Int
  x2 : Int
  y2 : Int
  bondClass : Nat
  profile : Nat
deriving DecidableEq, Repr

/-- R64: a loop profile. -/
structure LoopProfile where
  loopHeight : Nat
  reverse : Nat
  loopFactor : Nat
deriving DecidableEq, Repr

/-- R85: the parameter set of one side of a bond class. -/
structure BondSet where
  impactForce : Nat
  bondForce : Nat
  nominalPower : Nat
  rampSteps : Nat
  minTime : Nat
  maxTime : Nat
  targetSink : Nat
  minSink : Nat
  maxSink : Nat
deriving DecidableEq, Repr

/-- R85, R114: a bond class. -/
structure BondClassRow where
  first : BondSet
  second : BondSet
  pullTest : Nat
  pullMin : Nat
deriving DecidableEq, Repr

/-- R101: a segment, written [first, last]. -/
structure Segment where
  first : Nat
  last : Nat
deriving DecidableEq, Repr

/-- R58: the settings of one heater zone. -/
structure ZoneSetting where
  enabled : Bool
  tSet : Int
  tLow : Int
  tHigh : Int
deriving DecidableEq, Repr

/-- R115: a plan entry; a mode code that names no mode is `none`. -/
structure PlanEntry where
  unit : Nat
  wire : Nat
  mode : Option PullMode
deriving DecidableEq, Repr

/-- R64: the head settings. -/
structure HeadSettings where
  rowPitch : Nat
  searchHeight : Nat
  searchDistance : Nat
  safeHeight : Nat
  tailAllowance : Nat
  spoolLength : Nat
  lowStock : Nat
deriving DecidableEq, Repr

/-- R114: the pull settings; `A` is the audit mode. -/
structure PullSettings (A : Type) where
  hookClearance : Nat
  hookDepth : Nat
  liftTravel : Nat
  gain : Nat
  holdTime : Nat
  auditMode : A
  auditMax : Nat
  auditSpacing : Nat
  planSpacing : Bool
  sampleInterval : Nat
deriving DecidableEq, Repr

/-- R135: the elevator settings; `D` is a direction. -/
structure MagazineSettings (D : Type) where
  inputSlots : Nat
  outputSlots : Nat
  inputDirection : D
  outputDirection : D
  pushTimeout : Nat
deriving DecidableEq, Repr

/-- The named fields of a bond program. In the image a code that names none of its values is `none` (`RawProgram`);
the loader settles it to a `Program` (R176, R177). -/
structure ProgramFields (K I F P A D : Type) where
  columns : Nat
  rows : Nat
  wires : List WireRow
  profiles : List LoopProfile
  head : HeadSettings
  classes : List BondClassRow
  segments : List Segment
  spares : List Nat
  levels : List Nat
  mask : Nat
  zones : List ZoneSetting
  coolOff : Int
  columnZones : List Int
  /-- seconds (R40) -/
  dwellLimit : Nat
  /-- milliseconds (R46) -/
  offerTimeout : Nat
  /-- milliseconds (R48) -/
  transferTimeout : Nat
  pull : PullSettings A
  planCount : Nat
  plan : List PlanEntry
  magazine : MagazineSettings D
  pageCount : Nat
  pageKinds : List P
  triggers : List (TriggerRow K)
  descriptors : List (DescriptorRow I F)
deriving DecidableEq, Repr

/-- The named fields as the image gives them. -/
abbrev RawProgram :=
  ProgramFields (Option EventKind) (Option SourceItem) (Option Format) (Option PageKind) (Option AuditMode)
    (Option Direction)

/-- The program as settled by the loader. -/
abbrev Program := ProgramFields EventKind SourceItem Format PageKind AuditMode Direction

/-- The program image as the program port gives it (R176, R186): whether the read ran to its end, the header's bytes, the
body's bytes, and the body's named fields. The manual gives no layout of the body, so bytes and fields stand side by side
(notes/assumptions/6). -/
structure Image where
  readOk : Bool
  header : List Byte
  body : List Byte
  fields : RawProgram
deriving DecidableEq, Repr

/-! ## Readings and other operands -/

/-- Section 3: what the strap pins give. -/
structure Straps where
  station : Nat
  role : Role
  infeed : Bool
  outfeed : Bool
deriving DecidableEq, Repr

/-- R39: the two strip sensors; `arrival` shows present, `exit` shows covered. -/
structure StripSensors where
  arrival : Bool
  exit : Bool
deriving DecidableEq, Repr

/-- R17, R147: the first reading of the stage port at power-on. -/
structure FirstReading where
  strip : Bool
  inputMagazine : Bool
  outputMagazine : Bool
deriving DecidableEq, Repr

/-- R169: the two keys of the restart chord. -/
inductive ChordKey where | ack | resume
deriving DecidableEq, Repr

/-- R135: the two elevators. -/
inductive LineEnd where | input | output
deriving DecidableEq, Repr

/-- R49, R139: the input pusher and the stage's pusher. -/
inductive PusherName where | input | stage
deriving DecidableEq, Repr

/-- R123: the break locator code of the process port; `other` names none of the five. -/
inductive LocatorCode where | neck | span | heel | ballLift | stitchLift | other
deriving DecidableEq, Repr

/-! ## The commands -/

/-- One constructor for each row of spec/opcode_table.json. -/
inductive Instr where
  /-- POWER_ON (R36): straps and the first reading of the stage port. -/
  | powerOn (straps : Straps) (reading : FirstReading)
  /-- LOAD_END (R19): the image the program port gave. -/
  | loadEnd (image : Image)
  /-- PAGE_KEY (R158). -/
  | pageKey
  /-- ACK_KEY (R167). -/
  | ackKey
  /-- HOLD_KEY (R21). -/
  | holdKey
  /-- RESUME_KEY (R23): with the strip sensors that R50 and R145 read at the press. -/
  | resumeKey (sensors : StripSensors)
  /-- STOP_BUTTON (R35). -/
  | stopButton
  /-- KEY_RELEASE (R169). -/
  | keyRelease (key : ChordKey)
  /-- CHORD_TIMER_EXPIRY (R169). -/
  | chordTimerExpiry
  /-- WARM_RESTART (R37). -/
  | warmRestart
  /-- STOP_FRAME (R35). -/
  | stopFrame (sender : Nat)
  /-- RESTART_FRAME (R181). -/
  | restartFrame (sender : Nat)
  /-- PRESENT_FRAME (R179). -/
  | presentFrame (sender : Nat) (p : PresentPayload)
  /-- ALARM_FRAME (R34). -/
  | alarmFrame (sender : Nat) (p : AlarmPayload)
  /-- STATE_FRAME (R45). -/
  | stateFrame (sender : Nat) (p : StatePayload)
  /-- LINE_START_FRAME (R20). -/
  | lineStartFrame (sender : Nat)
  /-- OFFER_FRAME (R51). -/
  | offerFrame (sender target : Nat) (p : OfferPayload)
  /-- TAKE_FRAME (R47). -/
  | takeFrame (sender target : Nat) (p : TakePayload)
  /-- REFUSE_FRAME (R47). -/
  | refuseFrame (sender target : Nat) (p : RefusePayload)
  /-- ARRIVED_FRAME (R49). -/
  | arrivedFrame (sender target : Nat) (p : ArrivedPayload)
  /-- RECORD_FRAME (R52). -/
  | recordFrame (sender target : Nat) (p : RecordPayload)
  /-- PULL_RESULT_FRAME (R95). -/
  | pullResultFrame (sender : Nat) (p : PullResult)
  /-- FRAME_DISCARD (R171): the bytes the line carried. -/
  | frameDiscard (bytes : List Byte)
  /-- FRAME_SEND_START (R172). -/
  | frameSendStart
  /-- ARBITRATION_LOST (R172). -/
  | arbitrationLost
  /-- FRAME_SEND_END (R173): whether the frame was acknowledged. -/
  | frameSendEnd (acked : Bool)
  /-- WAITING_FRAME_JOINS (R174). -/
  | waitingFrameJoins
  /-- BOUNDARY_TAKEN (R22). -/
  | boundaryTaken
  /-- ZONE_VISIT (R59): the converter's validity mark and the reading in °C. -/
  | zoneVisit (valid : Bool) (reading : Int)
  /-- DWELL_LIMIT_REACHED (R40). -/
  | dwellLimitReached
  /-- STAGE_CHOOSE_WORK (R41). -/
  | stageChooseWork
  /-- INDEX_MOTION_END (R42). -/
  | indexMotionEnd
  /-- OFFER_SEND (R46). -/
  | offerSend
  /-- OFFER_TIMER_EXPIRY (R47). -/
  | offerTimerExpiry
  /-- SENDER_TRANSFER_TIMEOUT (R50). -/
  | senderTransferTimeout
  /-- RECEIVER_TRANSFER_TIMEOUT (R54). -/
  | receiverTransferTimeout
  /-- ARRIVAL (R53). -/
  | arrival
  /-- STRIP_LEFT (R48). -/
  | stripLeft
  /-- UNLOAD_START (R143): the output slot's strip sensor. -/
  | unloadStart (slotSensor : Bool)
  /-- UNLOADING_PUSH_RETRY (R145). -/
  | unloadingPushRetry
  /-- UNLOADING_PUSH_TIMEOUT (R145). -/
  | unloadingPushTimeout
  /-- ELEVATOR_MOVE_START (R136). -/
  | elevatorMoveStart (which : LineEnd)
  /-- ELEVATOR_MOVE_END (R136): with the strip sensor of the slot reached (R138). -/
  | elevatorMoveEnd (which : LineEnd) (slotSensor : Bool)
  /-- NEW_MAGAZINE (R137, R142). -/
  | newMagazine (which : LineEnd)
  /-- MAGAZINE_REMOVED (R137, R142). -/
  | magazineRemoved (which : LineEnd)
  /-- FEEDING_PUSH_START (R139): with the slot's strip sensor, read again (R138). -/
  | feedingPushStart (slotSensor : Bool)
  /-- INK_MARK (R139). -/
  | inkMark (unit : Nat)
  /-- FEEDING_PUSH_TIMEOUT (R140). -/
  | feedingPushTimeout
  /-- WIRE_CYCLE_START (R67). -/
  | wireCycleStart
  /-- LEAD_FLAME_HEAD_READY (R69). -/
  | leadFlameHeadReady
  /-- FLAME_OFF_END (R68): the spark-current sense. -/
  | flameOffEnd (spark : Bool)
  /-- TO_FIRST_IN_POSITION (R70). -/
  | toFirstInPosition
  /-- SEARCH_FIRST_CONTACT (R71): the contact Z in 0.1 µm. -/
  | searchFirstContact (z : Int)
  /-- SEARCH_FIRST_LIMIT (R71). -/
  | searchFirstLimit
  /-- MISSING_DIE_RETURN_END (R71). -/
  | missingDieReturnEnd
  /-- DEMAND_INTERVAL (R88). -/
  | demandInterval
  /-- BOND_SAMPLE (R89): the Z reported, if the drive reported one, and the generator's power (R88). -/
  | bondSample (z : Option Int) (generator : Nat)
  /-- LOOP_LIFT_IN_POSITION (R73): the continuity sense. -/
  | loopLiftInPosition (continuity : Bool)
  /-- LOOP_MOTION_IN_POSITION (R73). -/
  | loopMotionInPosition
  /-- CUT_END (R73). -/
  | cutEnd
  /-- SEARCH_SECOND_CONTACT (R74): the contact Z in 0.1 µm. -/
  | searchSecondContact (z : Int)
  /-- SEARCH_SECOND_LIMIT (R74). -/
  | searchSecondLimit
  /-- TAIL_RISE_IN_POSITION (R76): the continuity sense. -/
  | tailRiseInPosition (continuity : Bool)
  /-- TAILING_END (R76). -/
  | tailingEnd
  /-- AUDIT_WAIT_CHOOSE (R120). -/
  | auditWaitChoose
  /-- AUDIT_SPACING_EXPIRY (R119). -/
  | auditSpacingExpiry
  /-- PULL_CYCLE_START (R121). -/
  | pullCycleStart
  /-- TO_WIRE_IN_POSITION (R122). -/
  | toWireInPosition
  /-- HOOK_ENGAGEMENT (R122). -/
  | hookEngagement
  /-- LOAD_CELL_SAMPLE (R123): the raw sample and the break locator code as it stands. -/
  | loadCellSample (raw : Nat) (locator : LocatorCode)
  /-- HOLD_TIMER_EXPIRY (R124). -/
  | holdTimerExpiry
  /-- LIFT_TRAVEL_LIMIT (R125). -/
  | liftTravelLimit
  /-- RELEASE_END (R127). -/
  | releaseEnd
  /-- REPORT_SEND_START (R154). -/
  | reportSendStart
  /-- REPORT_SEND_END (R154). -/
  | reportSendEnd
  /-- TICK (R160). -/
  | tick
  /-- FIELD_ENGINE_WALK (R162). -/
  | fieldEngineWalk
  /-- ROLL_CALL_TIMER_EXPIRY (R179). -/
  | rollCallTimerExpiry
  /-- PUSHER_RETURN_TO_REST (R49): which pusher came back. -/
  | pusherReturnToRest (which : PusherName)
deriving DecidableEq, Repr

end Sys2Proof
end

