-- ==== Sys2Proof/Machine/State.lean ====
section
/-! DEFINITION. What the station holds (spec/00_scope.md section 2 names the twelve blocks and what each owns), as plain
data, and `State.reset`, the machine as power-on leaves it (R36 and the power-on column of each block's own table). -/

namespace Sys2Proof.Machine

/-- Nothing the manual describes stops the machine: every trouble is an alarm entry, a REFUSE, a discard or a lost frame,
all of them state. So no command faults, and this type has no constructor (safe: it adds no behaviour). -/
inductive Fault where
deriving DecidableEq, Repr

/-- Why a command has no meaning. -/
inductive Refusal where
  /-- Raised by an arm of `exec` whose command has no meaning yet (safe: the machine stops). No arm raises it. -/
  | notModelled (mnemonic : String)
deriving DecidableEq, Repr

/-- A timer: stopped, running from the time it was started at (in ms), or expired. How long it has run is left out
(notes/assumptions/5): its expiry is a command. -/
inductive Timer where
  | stopped
  | running (ms : Nat)
  | expired
deriving DecidableEq, Repr

/-! ## Alarm unit (R27) -/

/-- R27: an alarm entry. Class of sources 0 to 31 is fixed by the source; `mirrored` is the class of a mirror entry. -/
@[ext]
structure AlarmEntry where
  state : AlarmState
  condition : Bool
  count : Nat
  detail : Detail
  level : Nat
  mirrored : AlarmClass
deriving DecidableEq, Repr

/-- R27, R32: the alarm table (40 entries, by source number) and the banner mask. -/
@[ext]
structure AlarmUnit where
  entries : List AlarmEntry
  mask : Nat
deriving DecidableEq, Repr

/-! ## Line unit (R171 to R181) -/

/-- What a block asks to be sent (R174). STATE and the summary of ALARM are filled when sending begins (R33, R175).
A RECORD part carries `handoff`, the offer number of the handoff it belongs to, a mark of this station's alone (R50). -/
inductive TxBody where
  | stop
  | restart
  | present (p : PresentPayload)
  | alarm (source : Nat) (alarmClass : AlarmClass) (level : Nat) (newState : AlarmState) (detail : Detail)
  | state
  | lineStart
  | offer (p : OfferPayload)
  | take (p : TakePayload)
  | refuse (p : RefusePayload)
  | arrived (p : ArrivedPayload)
  | record (handoff : Nat) (p : RecordPayload)
  | pullResult (p : PullResult)
deriving DecidableEq, Repr

/-- An entry of the transmit queue. `onLine` holds the contents fixed when its sending began, while it is on the line.
`givenUp` marks a RECORD part that stood on the line when its handoff was given up (R50). -/
structure TxEntry where
  target : Nat
  body : TxBody
  onLine : Option Payload
  givenUp : Bool
deriving DecidableEq, Repr

/-- R178: what a PRESENT frame tells of a station. -/
structure PeerIdentity where
  role : Role
  infeed : Bool
  outfeed : Bool
  programId : ProgramId
deriving DecidableEq, Repr

/-- R178: a roster entry; it is present when an identity stands, and the report waits in an absent one. -/
structure RosterEntry where
  identity : Option PeerIdentity
  report : Option StatePayload
deriving DecidableEq, Repr

/-- R171 to R181: the line unit. `waiting` holds the RECORD parts and the pull result that wait for room, in the order
their blocks began to wait (R174, R131). `roster` holds stations 1 to 8; this station's own entry is computed. -/
@[ext]
structure LineUnit where
  queue : List TxEntry
  waiting : List TxEntry
  unheard : Nat
  lost : Nat
  roster : List RosterEntry
  rollCallTimer : Timer
  ackOut : Bool
deriving DecidableEq, Repr

/-! ## Program loader (R176, R177) -/

/-- R176: the loaded program. -/
inductive Loaded where
  | loading
  | invalid
  | valid (id : ProgramId) (program : Program)
deriving DecidableEq, Repr

structure Loader where
  loaded : Loaded
  clamped : Nat
deriving DecidableEq, Repr

/-! ## Station control (R18 to R26, R37) -/

@[ext]
structure Control where
  station : StationState
  head : HeadState
  lineStarted : Bool
  holdRequest : Bool
  restartWaiting : Bool
deriving DecidableEq, Repr

/-! ## Stage unit (R1 to R17, R38 to R57) -/

/-- The parts a tracked record alone has (R1, R2, R10). Its units are the entries of `table`. -/
@[ext]
structure TrackedPart where
  segments : Nat
  dropped : Nat
  table : List UnitEntry
  suspects : List Suspect
deriving DecidableEq, Repr

/-- R1, R2, R12: a strip record, tracked when `tracked` stands. -/
@[ext]
structure StripRecord where
  serial : Serial
  lineSeq : Nat
  dwell : Bool
  sample : Bool
  tracked : Option TrackedPart
deriving DecidableEq, Repr

/-- R14: a record assembly: the parts taken, in part order, and the broken mark. -/
structure RecordAssembly where
  header : Option HeaderPart
  units : List UnitEntry
  suspects : Option (List Suspect)
  broken : Bool
deriving DecidableEq, Repr

/-- R51: the OFFER this station answered with TAKE. -/
structure KeptOffer where
  sender : Nat
  offer : OfferPayload
deriving DecidableEq, Repr

/-- R54: the expected-strip note. -/
structure StripNote where
  sender : Nat
  offerNumber : Nat
  serial : Serial
  lineSeq : Nat
deriving DecidableEq, Repr

/-- R48, R50, R56: how far the handoff push has come. -/
inductive HandoffPush where | notBegun | moving | gone | stopped
deriving DecidableEq, Repr

/-- R49: a pusher at rest, driving a strip, or on its way back to rest. -/
inductive Pusher where | rest | driving | returning
deriving DecidableEq, Repr

/-- R40: the dwell timer: whether it runs, whether this strip has reached the limit, and the dwell limit in force, in
seconds. -/
structure DwellTimer where
  isRunning : Bool
  reached : Bool
  limit : Nat
deriving DecidableEq, Repr

@[ext]
structure StageUnit where
  state : StageState
  record : Option StripRecord
  assembly : Option RecordAssembly
  kept : Option KeptOffer
  note : Option StripNote
  offerNumber : Nat
  permit : Bool
  offerTimer : Timer
  transferTimer : Timer
  dwell : DwellTimer
  column : Nat
  indexMotion : Option Nat
  coverWait : Bool
  working : Bool
  push : HandoffPush
  lastPartLeft : Bool
  closeWhenLeft : Bool
  pusher : Pusher
deriving DecidableEq, Repr

/-! ## Heat monitor (R58 to R62) -/

/-- R59: the cause of a zone. -/
inductive ZoneCause where | none | hot | cold
deriving DecidableEq, Repr

structure ZoneState where
  reading : Option Int
  lastInvalid : Bool
  cause : ZoneCause
deriving DecidableEq, Repr

@[ext]
structure HeatMonitor where
  zones : List ZoneState
  nextZone : Nat
  pauseRequest : Bool
deriving DecidableEq, Repr

/-! ## Wire sequencer (R63) -/

/-- R63: the wire cycle state. -/
inductive WireCycle where
  | idle | toFirst | searchFirst | bondFirst | looping | searchSecond | bondSecond | tailing | flaming
deriving DecidableEq, Repr

/-- Which reply the cycle awaits where one cycle state has several (R69, R71, R73, R74, R76). -/
inductive WireAwait where
  | none
  /-- the head on its way to safe height before a lead flame-off (R69) -/
  | leadHead
  /-- the fire of a flame-off (R68) -/
  | fire
  /-- Z on its way back to search height after a missing die (R71) -/
  | missingDieReturn
  /-- the lift that opens LOOPING (R73) -/
  | lift
  /-- the loop motion (R73) -/
  | loopMotion
  /-- a cut (R73, R74) -/
  | cut
  /-- the rise by the tail allowance (R76) -/
  | tailRise
  /-- the rise to safe height that tears the tail (R76) -/
  | tear
deriving DecidableEq, Repr

/-- R63: the debit mark. -/
inductive DebitMark where | due | taken | waived
deriving DecidableEq, Repr

/-- R63: the wire in flight. -/
structure WireInFlight where
  unit : Nat
  wire : Nat
  segment : Nat
  bondClass : Nat
  profile : Nat
  use : Nat
  bondEntered : Bool
  debit : DebitMark
  lead : Bool
deriving DecidableEq, Repr

@[ext]
structure WireSequencer where
  cycle : WireCycle
  awaits : WireAwait
  ballReady : Bool
  stock : Nat
  inFlight : Option WireInFlight
  wiresBonded : Nat
  unitsDone : Nat
  unitsRejected : Nat
deriving DecidableEq, Repr

/-! ## Energy unit (R84) -/

/-- R85: the side of a bond. -/
inductive Side where | first | second
deriving DecidableEq, Repr

/-- R84: the trims and the good-run count of a class. -/
structure TrimEntry where
  first : Int
  second : Int
  goodRun : Nat
deriving DecidableEq, Repr

/-- R84: the bond in progress. -/
structure Bond where
  bondClass : Nat
  side : Side
  trim : Int
  compensation : Int
  power : Nat
  saturated : Bool
  contactZ : Int
  samples : Nat
  sink : Nat
  generator : Option Nat
deriving DecidableEq, Repr

/-- R90, R94: how a bond ended. -/
inductive BondOutcome where | crush | sinkMet | fast | timed | short | aborted
deriving DecidableEq, Repr

/-- R84: the last bond record. -/
structure LastBond where
  bondClass : Nat
  side : Side
  power : Nat
  saturated : Bool
  outcome : BondOutcome
  samples : Nat
  sink : Nat
  generator : Option Nat
deriving DecidableEq, Repr

@[ext]
structure EnergyUnit where
  trims : List TrimEntry
  bond : Option Bond
  lastBond : Option LastBond
  fastCount : Nat
deriving DecidableEq, Repr

/-! ## Pull unit (R113) -/

/-- R113: the pull cycle state. -/
inductive PullCycle where | idle | toWire | hooking | lifting | holding | releasing
deriving DecidableEq, Repr

/-- R113: the pull in flight. `tare` is absent until the sample after hook engagement (R122). -/
structure PullInFlight where
  unit : Nat
  wire : Nat
  bondClass : Nat
  bondedBy : Nat
  kind : PullKind
  mode : PullMode
  tare : Option Nat
  peak : Nat
  force : Nat
  overrange : Bool
deriving DecidableEq, Repr

/-- R130: the pending confirm. -/
structure PendingConfirm where
  wire : Nat
  bondedBy : Nat
  origin : Nat
deriving DecidableEq, Repr

@[ext]
structure PullUnit where
  cycle : PullCycle
  inFlight : Option PullInFlight
  pairs : List (Nat × Nat)
  auditCount : Nat
  confirmTried : Bool
  pending : Option PendingConfirm
  cursor : Nat
  spacing : Timer
  holdTimer : Timer
  hookMiss : Nat
  planOn : Bool
  log : List PullResult
  failures : List PullResult
  discards : Nat
deriving DecidableEq, Repr

/-! ## Elevator unit (R135) -/

/-- R135: where an elevator can stand. -/
inductive Place where
  | slot (n : Nat)
  | exchange
deriving DecidableEq, Repr

/-- R135: an elevator's activity. -/
inductive Activity where | idle | moving | pushing | waitingResume
deriving DecidableEq, Repr

/-- R135: what both elevators hold. `position` is `none` for UNKNOWN, `destination` is where the move in progress goes,
`deferred` counts the new magazines sensed while a push or a release stood in the way (R137, R142). -/
@[ext]
structure Elevator where
  magazine : Bool
  position : Option Place
  target : Option Place
  activity : Activity
  destination : Option Place
  deferred : Nat
  pushTimer : Timer
deriving DecidableEq, Repr

/-- R137: an input slot. -/
inductive InputSlot where | unknown | vacant | taken | misfed
deriving DecidableEq, Repr

/-- R142: an output slot. -/
inductive OutputSlot where
  | empty
  | filled (serial : Serial) (good reject : Nat)
  | blocked
deriving DecidableEq, Repr

/-- R139: the feeding push in progress. -/
structure FeedingPush where
  slot : Nat
  segments : Nat
  magSeq : Nat
  marks : List Nat
deriving DecidableEq, Repr

/-- R143, R16: the strip being unloaded: its slot and the counts taken on entry to UNLOADING. -/
structure Unloading where
  slot : Nat
  good : Nat
  reject : Nat
deriving DecidableEq, Repr

@[ext]
structure ElevatorUnit where
  input : Elevator
  output : Elevator
  inputSlots : List InputSlot
  outputSlots : List OutputSlot
  magSeq : Nat
  lineSeqCounter : Nat
  feeding : Option FeedingPush
  unloading : Option Unloading
  inputPusher : Pusher
deriving DecidableEq, Repr

/-! ## Report unit (R148) -/

/-- R148: an entry of the report assembly table. -/
structure ReportEntry where
  lineSeq : Nat
  lines : List PullResult
  dropped : Nat
deriving DecidableEq, Repr

/-- R151, R152: the lines of a report, by their fields. -/
inductive ReportLine where
  | trackedHeader (serial : Serial) (lineSeq units segments : Nat) (dwell sample : Bool)
      (dropped suspects slot good reject lost : Nat)
  | untrackedHeader (serial : Serial) (lineSeq : Nat) (dwell : Bool) (slot good reject lost : Nat)
  | unit (number : Nat) (entry : UnitEntry)
  | pull (result : PullResult)
  | ending (lineSeq total pulls dropped : Nat)
deriving DecidableEq, Repr

/-- R148: the report unit. Of the four places of the queue, `sending`, `ready` (oldest first) and `reserved` are those in
use; the rest are FREE. -/
@[ext]
structure ReportUnit where
  table : List ReportEntry
  reserved : Bool
  ready : List (List ReportLine)
  sending : Option (List ReportLine)
  lost : Nat
deriving DecidableEq, Repr

/-! ## Screen unit (R155 to R170) -/

/-- R159: a trigger entry. -/
structure Trigger where
  row : TriggerRow EventKind
  enabled : Bool
  pending : Bool
deriving DecidableEq, Repr

/-- R161: a descriptor entry with its three working values. -/
structure Descriptor where
  row : DescriptorRow SourceItem Format
  index : Nat
  currentRow : Nat
  count : Nat
deriving DecidableEq, Repr

/-- R169: the two chord keys: whether each is down, and whether its chord has already been counted (or was begun in
BOOT), so that it must be released before it counts again. -/
structure ChordKeys where
  ackDown : Bool
  resumeDown : Bool
  ackCounted : Bool
  resumeCounted : Bool
deriving DecidableEq, Repr

@[ext]
structure ScreenUnit where
  buffer : List Text
  page : Nat
  pageCount : Nat
  pageKinds : List PageKind
  triggers : List Trigger
  descriptors : List Descriptor
  notice : Bool
  keys : ChordKeys
  chordTimer : Timer
deriving DecidableEq, Repr

/-! ## Port outputs (spec/00_scope.md section 3) -/

/-- The last demand to the XY drive. -/
inductive XYDemand where
  | none
  | moveTo (x y : Int)
  /-- back from the second-bond direction by `reverse`, then across (R73) -/
  | loopTo (reverse : Nat) (x y : Int)
  /-- along the span toward the first bond (R127) -/
  | hookClear (distance : Nat)
  /-- the motion ends where it stands (R128) -/
  | halt
deriving DecidableEq, Repr

/-- The last demand to the Z drive; heights are in µm above the stage surface. -/
inductive ZDemand where
  | none
  | moveTo (height : Int)
  /-- search downward with an impact force, at most a distance (R71) -/
  | search (force distance : Nat)
  /-- rise by a distance (R76) -/
  | riseBy (distance : Nat)
  /-- rise toward the lift travel limit above hook engagement (R123) -/
  | liftTo (travel : Nat)
  /-- hold the position (R124) -/
  | holdPosition
  /-- down to the hook level, then up to safe height (R127) -/
  | unhook (level safe : Int)
  /-- the motion in progress ends where it stands, and from there the head is sent to a height (R24, R82, R128) -/
  | haltThenMoveTo (height : Int)
deriving DecidableEq, Repr

/-- The last demand to the index drive: a column (R42). -/
inductive IndexDemand where
  | none
  | goTo (column : Nat)
  | halt
deriving DecidableEq, Repr

/-- The last demand to an elevator drive: a place, with the direction of the rack (R135, R136). -/
inductive ElevatorDemand where
  | none
  | goTo (place : Place) (direction : Direction)
  | halt
deriving DecidableEq, Repr

@[ext]
structure Ports where
  xy : XYDemand
  z : ZDemand
  /-- the bond force the Z drive is told to hold from the contact position (R86), until its release (R90, R94) -/
  bondForce : Option Nat
  /-- ultrasonic demand in ‰ (R88) -/
  ultrasonic : Nat
  clampClosed : Bool
  fire : Bool
  index : IndexDemand
  inputDrive : ElevatorDemand
  outputDrive : ElevatorDemand
deriving DecidableEq, Repr

/-! ## The station -/

@[ext]
structure State where
  straps : Straps
  control : Control
  alarms : AlarmUnit
  line : LineUnit
  loader : Loader
  stage : StageUnit
  heat : HeatMonitor
  wire : WireSequencer
  energy : EnergyUnit
  pull : PullUnit
  elevator : ElevatorUnit
  report : ReportUnit
  screen : ScreenUnit
  ports : Ports
  /-- the commands waiting to be taken, first in, first out -/
  pending : List Instr
deriving DecidableEq, Repr

/-! ## Power-on values -/

/-- R27: the class of the station's own sources 0 to 31. -/
def localClass (source : Nat) : AlarmClass :=
  if source ≤ 4 then .stop else if source ≤ 18 then .hold else .note

/-- R36: an alarm entry at power-on; a mirror entry has level 0 and class NOTE (DESIGN CHOICE, notes/assumptions/17,
unsafe). -/
def AlarmEntry.initial (source : Nat) : AlarmEntry where
  state := .clear
  condition := false
  count := 0
  detail := .none
  level := if source ≤ 4 then 16 else if source ≤ 31 then 1 else 0
  mirrored := .note

/-- The source numbers 0 to 39. -/
def sourceNumbers : List Nat :=
  [0, 1, 2, 3, 4, 5, 6, 7, 8, 9, 10, 11, 12, 13, 14, 15, 16, 17, 18, 19,
    20, 21, 22, 23, 24, 25, 26, 27, 28, 29, 30, 31, 32, 33, 34, 35, 36, 37, 38, 39]

def AlarmUnit.initial : AlarmUnit where
  entries := sourceNumbers.map AlarmEntry.initial
  mask := 2

/-- R178: an absent roster entry. -/
def RosterEntry.absent : RosterEntry := { identity := none, report := none }

def LineUnit.initial : LineUnit where
  queue := []
  waiting := []
  unheard := 0
  lost := 0
  roster := List.replicate 8 RosterEntry.absent
  rollCallTimer := .stopped
  ackOut := false

def Loader.initial : Loader := { loaded := .loading, clamped := 0 }

def Control.initial : Control where
  station := .boot
  head := .headOut
  lineStarted := false
  holdRequest := false
  restartWaiting := false

/-- R38: the stage with no strip sensed. -/
def StageUnit.initial : StageUnit where
  state := .empty
  record := none
  assembly := none
  kept := none
  note := none
  offerNumber := 0
  permit := false
  offerTimer := .stopped
  transferTimer := .stopped
  dwell := { isRunning := false, reached := false, limit := Config.dwellLimitDefault }
  column := 0
  indexMotion := none
  coverWait := false
  working := false
  push := .notBegun
  lastPartLeft := false
  closeWhenLeft := false
  pusher := .rest

/-- R59: the heat monitor at power-on. -/
def HeatMonitor.initial : HeatMonitor where
  zones := List.replicate 6 { reading := none, lastInvalid := false, cause := .none }
  nextZone := 1
  pauseRequest := false

/-- R63: the wire sequencer at power-on. -/
def WireSequencer.initial : WireSequencer where
  cycle := .idle
  awaits := .none
  ballReady := false
  stock := 0
  inFlight := none
  wiresBonded := 0
  unitsDone := 0
  unitsRejected := 0

/-- R84: the energy unit at power-on. -/
def EnergyUnit.initial : EnergyUnit where
  trims := List.replicate 16 { first := 0, second := 0, goodRun := 0 }
  bond := none
  lastBond := none
  fastCount := 0

/-- R113: the pull unit at power-on; its plan state is OFF until the load ends (DESIGN CHOICE, notes/assumptions/36,
unsafe). -/
def PullUnit.initial : PullUnit where
  cycle := .idle
  inFlight := none
  pairs := []
  auditCount := 0
  confirmTried := false
  pending := none
  cursor := 1
  spacing := .expired
  holdTimer := .stopped
  hookMiss := 0
  planOn := false
  log := []
  failures := []
  discards := 0

/-- R135: an elevator at power-on. -/
def Elevator.initial : Elevator where
  magazine := false
  position := none
  target := none
  activity := .idle
  destination := none
  deferred := 0
  pushTimer := .stopped

def ElevatorUnit.initial : ElevatorUnit where
  input := .initial
  output := .initial
  inputSlots := List.replicate 50 .unknown
  outputSlots := List.replicate 50 .empty
  magSeq := 0
  lineSeqCounter := 0
  feeding := none
  unloading := none
  inputPusher := .rest

/-- R148: the report unit at power-on. -/
def ReportUnit.initial : ReportUnit where
  table := []
  reserved := false
  ready := []
  sending := none
  lost := 0

/-- R155: a row of spaces. -/
def blankRow : Text := List.replicate 32 ' '

/-- R170: the screen unit at power-on, with no table loaded. -/
def ScreenUnit.initial : ScreenUnit where
  buffer := List.replicate 8 blankRow
  page := 1
  pageCount := 1
  pageKinds := [.general]
  triggers := []
  descriptors := []
  notice := false
  keys := { ackDown := false, resumeDown := false, ackCounted := false, resumeCounted := false }
  chordTimer := .stopped

/-- Nothing issued yet (DESIGN CHOICE, notes/assumptions/18, unsafe); the ultrasonic demand is 0 (R88). -/
def Ports.initial : Ports where
  xy := .none
  z := .none
  bondForce := none
  ultrasonic := 0
  clampClosed := false
  fire := false
  index := .none
  inputDrive := .none
  outputDrive := .none

/-- The straps of the reset state (DESIGN CHOICE, notes/assumptions/4, unsafe): POWER_ON samples the real ones. -/
def resetStraps : Straps := { station := 1, role := .head, infeed := false, outfeed := false }

/-- The station right after power-on with nothing sensed on its ports (R36), before any command. -/
def State.reset : State where
  straps := resetStraps
  control := .initial
  alarms := .initial
  line := .initial
  loader := .initial
  stage := .initial
  heat := .initial
  wire := .initial
  energy := .initial
  pull := .initial
  elevator := .initial
  report := .initial
  screen := .initial
  ports := .initial
  pending := []

end Sys2Proof.Machine
end

