-- ==== Sys2Proof/Machine/Operands.lean ====
section
/-! DEFINITION. What the blocks read: the settings of the loaded program with the defaults that serve without one, the
roster with this station's own entry (R178), the record on the stage, and small counting helpers (section 5.4). -/

namespace Sys2Proof.Machine

/-- Section 5.4: a counter that saturates at `cap`. -/
def bump (cap n : Nat) : Nat := if n < cap then n + 1 else n

/-- Section 5.4: a sum that saturates at `cap`. -/
def bumpBy (cap n by' : Nat) : Nat := min cap (n + by')

/-- The first `n` numbers from `i` upward. -/
def countFrom : Nat → Nat → List Nat
  | _, 0 => []
  | i, n + 1 => i :: countFrom (i + 1) n

/-- Replace the entry at position `i`, counted from 0. -/
def modifyAt {α : Type} (f : α → α) : Nat → List α → List α
  | _, [] => []
  | 0, x :: xs => f x :: xs
  | i + 1, x :: xs => x :: modifyAt f i xs

/-- The smallest of a list of numbers. -/
def smallest : List Nat → Option Nat
  | [] => none
  | x :: xs =>
    match smallest xs with
    | none => some x
    | some y => some (min x y)

/-- Section 5.4: the greatest integer whose square is not above `n`, found bit by bit from `2 ^ bits`. -/
def isqrtFrom (n : Nat) : Nat → Nat → Nat
  | 0, acc => acc
  | bits + 1, acc =>
    let next := acc + 2 ^ bits
    isqrtFrom n bits (if next * next ≤ n then next else acc)

/-- Section 5.4 `isqrt`. The squares of R66 are below `2 ^ 46`. -/
def isqrt (n : Nat) : Nat := isqrtFrom n 32 0

/-! ## The program's settings -/

/-- R105, R176: the valid program, if one is loaded. -/
def State.program? (s : State) : Option Program :=
  match s.loader.loaded with
  | .valid _ p => some p
  | _ => none

/-- R176: the program id of a valid image. -/
def State.programId? (s : State) : Option ProgramId :=
  match s.loader.loaded with
  | .valid id _ => some id
  | _ => none

/-- The setting `f` of the loaded program, or the default where there is none. -/
def State.setting {α : Type} (f : Program → α) (default : α) (s : State) : α :=
  match s.program? with
  | some p => f p
  | none => default

/-- R46: the offer timeout in ms. -/
def State.offerTimeout (s : State) : Nat := s.setting (·.offerTimeout) Config.offerTimeoutDefault

/-- R48: the transfer timeout in ms. -/
def State.transferTimeout (s : State) : Nat := s.setting (·.transferTimeout) Config.transferTimeoutDefault

/-- R40: the dwell limit in seconds. -/
def State.dwellLimit (s : State) : Nat := s.setting (·.dwellLimit) Config.dwellLimitDefault

/-- R135: the push timeout in ms. A push runs only with a valid program. -/
def State.pushTimeout (s : State) : Nat := s.setting (·.magazine.pushTimeout) 0

def State.columns (s : State) : Nat := s.setting (·.columns) 0
def State.rows (s : State) : Nat := s.setting (·.rows) 0

/-- R2: the program's number of units. -/
def unitCount (p : Program) : Nat := p.columns * p.rows

/-- Section 5.2: the unit in column `c` and row `r` of a strip with `rows` rows. -/
def unitIndex (rows c r : Nat) : Nat := (c - 1) * rows + r

/-- Section 5.2: the units of column `c`, row 1 first. -/
def columnUnits (rows c : Nat) : List Nat := countFrom ((c - 1) * rows + 1) rows

/-- Section 5.2: the column of a unit of a strip with `rows` rows. -/
def unitColumn (rows u : Nat) : Nat := if rows = 0 then 0 else (u - 1) / rows + 1

/-- Section 5.2: the row of a unit of a strip with `rows` rows. -/
def unitRow (rows u : Nat) : Nat := if rows = 0 then 0 else (u - 1) % rows + 1

/-- R101: a segment with no wire. -/
def noSegment : Segment := { first := 1, last := 0 }

/-- R101: the segment of station `k`. -/
def segmentOf (p : Program) (k : Nat) : Segment :=
  if k = 0 then noSegment else p.segments.getD (k - 1) noSegment

/-- R101: a segment is empty when its first wire is greater than its last. -/
def segmentEmpty (g : Segment) : Bool := decide (g.last < g.first)

/-- R103: the spare of station `k`, or 0. -/
def spareOf (p : Program) (k : Nat) : Nat := if k = 0 then 0 else p.spares.getD (k - 1) 0

/-- R64: the wire entry of wire `w`. -/
def wireRow? (p : Program) (w : Nat) : Option WireRow := if w = 0 then none else p.wires[w - 1]?

/-- R116: the bond class of wire `w`. -/
def wireClass (p : Program) (w : Nat) : Nat :=
  match wireRow? p w with
  | some r => r.bondClass
  | none => 0

def zeroBondSet : BondSet :=
  { impactForce := 0, bondForce := 0, nominalPower := 0, rampSteps := 0, minTime := 0, maxTime := 0, targetSink := 0,
    minSink := 0, maxSink := 0 }

/-- R85: bond class `c`. -/
def classOf (p : Program) (c : Nat) : BondClassRow :=
  p.classes.getD c { first := zeroBondSet, second := zeroBondSet, pullTest := 0, pullMin := 0 }

/-- R85: the parameter set of one side of a class. -/
def bondSet (p : Program) (c : Nat) (side : Side) : BondSet :=
  match side with
  | .first => (classOf p c).first
  | .second => (classOf p c).second

/-- R64: loop profile `n`. -/
def profileOf (p : Program) (n : Nat) : LoopProfile :=
  p.profiles.getD n { loopHeight := 0, reverse := 0, loopFactor := 0 }

/-- R58: the settings of zone `z`; without a valid program every zone is disabled. -/
def State.zoneSetting (s : State) (z : Nat) : ZoneSetting :=
  match s.program? with
  | some p => p.zones.getD (z - 1) { enabled := false, tSet := 0, tLow := 0, tHigh := 0 }
  | none => { enabled := false, tSet := 0, tLow := 0, tHigh := 0 }

/-- R58: the cool-off margin. -/
def State.coolOff (s : State) : Int := s.setting (·.coolOff) 0

/-- R58: the zone mapped to column `c`. -/
def zoneOfColumn (p : Program) (c : Nat) : Nat := (p.columnZones.getD (c - 1) 1).toNat

/-- R59: what the heat monitor keeps of zone `z`. -/
def HeatMonitor.zone (h : HeatMonitor) (z : Nat) : ZoneState :=
  h.zones.getD (z - 1) { reading := none, lastInvalid := false, cause := .none }

/-- R64: a head setting, 0 without a program. -/
def State.head (s : State) (f : HeadSettings → Nat) : Nat := s.setting (fun p => f p.head) 0

/-! ## Alarm entries -/

/-- R27: the entry of a source. -/
def AlarmUnit.entry (a : AlarmUnit) (source : Nat) : AlarmEntry :=
  a.entries.getD source (AlarmEntry.initial source)

/-- R27, R34: the class of a source; a mirror entry has the class its peer gave it. -/
def AlarmUnit.classOf (a : AlarmUnit) (source : Nat) : AlarmClass :=
  if source < 32 then localClass source else (a.entry source).mirrored

/-- R27: the event sources; all others, the mirrors among them, have a condition. -/
def isEvent (source : Nat) : Bool :=
  decide (source = 0 ∨ (7 ≤ source ∧ source ≤ 14) ∨ source = 17 ∨ source = 18 ∨ (26 ≤ source ∧ source ≤ 31))

/-- R28: a NOTE source of level 0 is disabled. -/
def AlarmUnit.disabled (a : AlarmUnit) (source : Nat) : Bool :=
  decide (localClass source = .note ∧ (a.entry source).level = 0)

/-- Whether the condition of a source is present (R29, R31). -/
def State.conditionOf (s : State) (source : Nat) : Bool := (s.alarms.entry source).condition

/-! ## Stations and roster -/

/-- The station numbers 1 to 8. -/
def stationNumbers : List Nat := [1, 2, 3, 4, 5, 6, 7, 8]

/-- R45: the ready-to-receive flag. -/
def State.readyToReceive (s : State) : Bool :=
  decide (s.stage.state = .empty ∧ (s.control.station = .run ∨ s.control.station = .paused))

/-- Of the sources listed that `keep` admits, the one of highest level, ties to the earlier in the list (R32, R33). -/
def AlarmUnit.highest (a : AlarmUnit) (keep : Nat → Bool) : List Nat → Option Nat
  | [] => none
  | i :: rest =>
    match a.highest keep rest with
    | none => if keep i then some i else none
    | some j => if keep i && decide ((a.entry j).level ≤ (a.entry i).level) then some i else some j

/-- The sources of the station's own. -/
def localSourceNumbers : List Nat := sourceNumbers.take 32

/-- R33: the local entry that is ACTIVE or ACKED with the highest level. -/
def AlarmUnit.highestLocal (a : AlarmUnit) : Option Nat :=
  a.highest (fun i => decide ((a.entry i).state ≠ .clear)) localSourceNumbers

/-- R175: the highest alarm class. -/
def AlarmUnit.highestClass (a : AlarmUnit) : Option AlarmClass := a.highestLocal.map a.classOf

/-- R33: the summary of the station's standing alarms. -/
def AlarmUnit.summary (a : AlarmUnit) : Option Summary :=
  a.highestLocal.map fun i => { source := i, alarmClass := a.classOf i, level := (a.entry i).level }

/-- R175: the STATE frame's contents as the station stands. -/
def State.ownReport (s : State) : StatePayload where
  station := s.control.station
  head := s.control.head
  stage := s.stage.state
  ready := s.readyToReceive
  highest := s.alarms.highestClass

/-- R178: this station's own identity, present from the end of a valid load. -/
def State.ownIdentity (s : State) : Option PeerIdentity :=
  s.programId?.map fun id =>
    { role := s.straps.role, infeed := s.straps.infeed, outfeed := s.straps.outfeed, programId := id }

/-- R178: the roster entry of station `k`, this station's own among them. -/
def State.rosterEntry (s : State) (k : Nat) : RosterEntry :=
  if k = s.straps.station then { identity := s.ownIdentity, report := some s.ownReport }
  else if k = 0 then .absent
  else s.line.roster.getD (k - 1) .absent

/-- R178: presence. -/
def State.present (s : State) (k : Nat) : Bool := (s.rosterEntry k).identity.isSome

/-- The stations present whose identity `f` admits. -/
def State.presentWith (s : State) (f : Nat → PeerIdentity → Bool) : List Nat :=
  stationNumbers.filter fun k =>
    match (s.rosterEntry k).identity with
    | some i => f k i
    | none => false

/-- R179: the OUTFEED station N; where two carry the flag, the lower (notes/assumptions/34). -/
def State.outfeedStation (s : State) : Option Nat := smallest (s.presentWith fun _ i => i.outfeed)

/-- R179: roll call is complete when the roster holds an OUTFEED station N and entries 1 to N are present. -/
def State.rollCallComplete (s : State) : Bool :=
  match s.outfeedStation with
  | some n => stationNumbers.all fun k => decide (n < k) || s.present k
  | none => false

/-- R179: the stations whose roster entries are present. -/
def State.knownSet (s : State) : List Nat := stationNumbers.filter s.present

/-- R92: a pull station stands downstream. A station whose state has not been heard is not known to be STOPPED
(notes/assumptions/13). -/
def State.pullDownstream (s : State) : Bool :=
  stationNumbers.any fun k =>
    decide (s.straps.station < k) &&
      match s.rosterEntry k with
      | { identity := some i, report := r } =>
        decide (i.role = .pull) && decide (r.map (·.station) ≠ some .stopped)
      | _ => false

/-- R43: cover exists when the spare is not 0, is present, shows head state IN and a station state other than STOPPED. -/
def State.coverBy (s : State) (spare : Nat) : Bool :=
  decide (spare ≠ 0) &&
    match s.rosterEntry spare with
    | { identity := some _, report := some r } => decide (r.head = .headIn ∧ r.station ≠ .stopped)
    | _ => false

/-! ## The record on the stage -/

/-- R2, R14: U, the number of units of the record, 0 when untracked. -/
def StripRecord.units (r : StripRecord) : Nat :=
  match r.tracked with
  | some t => t.table.length
  | none => 0

/-- The unit entry `u` of a unit table. -/
def TrackedPart.unit? (t : TrackedPart) (u : Nat) : Option UnitEntry := if u = 0 then none else t.table[u - 1]?

/-- The tracked part of the record on the stage. -/
def State.tracked? (s : State) : Option TrackedPart := s.stage.record.bind (·.tracked)

/-- The unit entry `u` of the record on the stage. -/
def State.unit? (s : State) (u : Nat) : Option UnitEntry := s.tracked?.bind (·.unit? u)

/-- The status of unit `u`. -/
def State.unitStatus? (s : State) (u : Nat) : Option UnitStatus := (s.unit? u).map (·.status)

/-- R5: a segment is complete for a unit when its next wire is one past its last, or when it is empty. -/
def segmentComplete (p : Program) (k : Nat) (g : Progress) : Bool :=
  segmentEmpty (segmentOf p k) || decide (g.next = (segmentOf p k).last + 1)

/-- R8: the station that bonded wire `w`, read from the progress entry of its segment; 0 when it is not bonded. -/
def readBonder (g : Progress) (w : Nat) : Nat :=
  if w < g.next then (if w < g.split then g.startedBy else g.finishedBy) else 0

/-- R8: the station that bonded wire `w` of a unit, over its segments from `k` upward. -/
def bonderFrom (p : Program) (w : Nat) : Nat → List Progress → Nat
  | _, [] => 0
  | k, g :: rest =>
    if (segmentOf p k).first ≤ w ∧ w ≤ (segmentOf p k).last then readBonder g w else bonderFrom p w (k + 1) rest

/-- R8: the bonded-by station of wire `w` on a unit. -/
def bondedBy (p : Program) (e : UnitEntry) (w : Nat) : Nat := bonderFrom p w 1 e.progress

end Sys2Proof.Machine
end

