-- ==== Sys2Proof/Machine/Flags.lean ====
section
/-! DEFINITION. The yes-or-no questions the rules ask of the state: STOP-class entries standing, the banner, boundaries,
who may change the record, the start conditions of cycles, waiting stages. -/

namespace Sys2Proof.Machine

/-- R25: a STOP-class entry, local or mirrored, is ACTIVE or ACKED. -/
def AlarmUnit.stopStands (a : AlarmUnit) : Bool :=
  sourceNumbers.any fun i => decide (a.classOf i = .stop) && decide ((a.entry i).state ≠ .clear)

/-- R32: the entry the banner shows. -/
def AlarmUnit.banner (a : AlarmUnit) : Option Nat :=
  a.highest (fun i => decide ((a.entry i).state = .active) && decide (a.mask < (a.entry i).level)) sourceNumbers

/-- R155: the banner is shown. -/
def State.bannerShown (s : State) : Bool := s.alarms.banner.isSome

/-- R23: the test of a RESUME in READY or HELD: no local HOLD-class entry is ACTIVE, and none is ACKED with its condition
present. -/
def AlarmUnit.resumePasses (a : AlarmUnit) : Bool :=
  localSourceNumbers.all fun i =>
    decide (a.classOf i ≠ .hold) ||
      (decide ((a.entry i).state ≠ .active) && !(decide ((a.entry i).state = .acked) && (a.entry i).condition))

/-- R42, R136: a motion of the index drive or of an elevator. -/
def State.moving (s : State) : Bool :=
  s.stage.indexMotion.isSome || decide (s.elevator.input.activity = .moving) ||
    decide (s.elevator.output.activity = .moving)

/-- R41: the working block has a cycle in flight: the wire sequencer of a HEAD, the pull unit of a PULL station. The other
block's cycle is always IDLE (R63, R113). -/
def State.cycleInFlight (s : State) : Bool :=
  decide (s.wire.cycle ≠ .idle) || decide (s.pull.cycle ≠ .idle)

/-- R22: the station is at a boundary. -/
def State.atBoundary (s : State) : Bool := !s.cycleInFlight && !s.moving

/-- R18: offers, TAKE answers, leave steps and unloading may begin. -/
def State.runOrPaused (s : State) : Bool := decide (s.control.station = .run ∨ s.control.station = .paused)

/-- R13: the wire sequencer and the energy unit may change the record. -/
def State.workMayChange (s : State) : Bool := decide (s.stage.state = .loaded)

/-- R13: the pull unit may change the record. -/
def State.pullMayChange (s : State) : Bool :=
  decide (s.stage.state = .loaded ∨ s.stage.state = .finished ∨ s.stage.state = .offering)

/-- R13: the dwell flag may be set. -/
def State.dwellMayChange (s : State) : Bool :=
  s.pullMayChange || decide (s.stage.state = .unloading)

/-- R67, R121: the conditions a cycle shares: RUN, no hold request, no pause request, no warm restart waiting, no index
motion. -/
def State.cycleMayStart (s : State) : Bool :=
  decide (s.control.station = .run) && !s.control.holdRequest && !s.heat.pauseRequest && !s.control.restartWaiting &&
    s.stage.indexMotion.isNone

/-- R67, R69: the start conditions of a wire other than the stock comparison. -/
def State.wireMayStart (s : State) : Bool :=
  s.cycleMayStart && decide (s.control.head = .headIn) && decide (s.stage.state = .loaded)

/-- R131: a pull result waits for room in the transmit queue. -/
def State.resultWaiting (s : State) : Bool :=
  s.line.waiting.any fun e =>
    match e.body with
    | .pullResult _ => true
    | _ => false

/-- R143: the output slot available, if there is one. -/
def State.outputSlot? (s : State) : Option Nat :=
  match s.elevator.output.position, s.elevator.output.target with
  | some (.slot m), some (.slot n) =>
    if s.elevator.output.magazine = true ∧ s.elevator.output.activity = .idle ∧ m = n ∧
        s.elevator.outputSlots[n - 1]? = some .empty then
      some n
    else none
  | _, _ => none

/-- R148: FREE places of the report queue. -/
def ReportUnit.free (r : ReportUnit) : Nat :=
  Config.reportPlaces - (r.ready.length + (if r.sending.isSome then 1 else 0) + (if r.reserved then 1 else 0))

/-- R153: the report unit can grant a place. Only an OUTFEED station's grants one. -/
def State.reportPlace (s : State) : Bool := s.straps.outfeed && decide (0 < s.report.free)

/-- R143: the conditions of unloading, for a stage in FINISHED at the OUTFEED station. -/
def State.unloadReady (s : State) : Bool :=
  s.runOrPaused && s.outputSlot?.isSome && s.reportPlace && s.stage.indexMotion.isNone && decide (s.pull.cycle = .idle) &&
    !s.resultWaiting

/-- R120, R143: a FINISHED stage is waiting: away from the OUTFEED while its offer permit is clear, at the OUTFEED while it lacks
any condition of R143 (notes/assumptions/58). -/
def State.stageWaits (s : State) : Bool :=
  decide (s.stage.state = .finished) && (if s.straps.outfeed then !s.unloadReady else !s.stage.permit)

/-- R173: the one station of a line of one. -/
def soleStation (p : Straps) : Bool := p.infeed && p.outfeed

end Sys2Proof.Machine
end

