-- ==== Sys2Proof/Machine/Ops.lean ====
section
/-! DEFINITION. The shared operations every command is built from: screen events (R159), requests to the transmit queue
(R174), alarm entries (R29 to R34), changes of the station, head and stage state with the news they cause, and the ports.
Each is one record update, so that what it leaves alone is seen by `rfl`. -/

namespace Sys2Proof.Machine

/-! ## Screen events -/

/-- R159: a trigger after an event of kind `k` on page `page`. -/
def Trigger.raised (k : EventKind) (page : Nat) (t : Trigger) : Trigger :=
  { t with pending := t.pending || (decide (t.row.kind = k) && t.enabled && decide (t.row.page = 0 ∨ t.row.page = page)) }

/-- R159: a screen event sets the pending flags of its triggers. -/
def ScreenUnit.raise (k : EventKind) (c : ScreenUnit) : ScreenUnit :=
  { c with triggers := c.triggers.map (Trigger.raised k c.page) }

/-- R156: the banner leaves: row 0 is set to spaces and PAGE_ENTER is raised. -/
def ScreenUnit.bannerLeft (c : ScreenUnit) : ScreenUnit :=
  ScreenUnit.raise .pageEnter { c with buffer := modifyAt (fun _ => blankRow) 0 c.buffer }

/-- Raise a screen event. -/
def State.event (k : EventKind) (s : State) : State := { s with screen := s.screen.raise k }

/-! ## The transmit queue -/

/-- R171: the class of a frame. -/
def TxBody.frameClass : TxBody → Nat
  | .stop => 0
  | .restart => 1
  | .present _ => 2
  | .alarm .. => 2
  | .state => 3
  | .lineStart => 3
  | .offer _ => 4
  | .take _ => 4
  | .refuse _ => 4
  | .arrived _ => 4
  | .record .. => 5
  | .pullResult _ => 6

/-- R183: the kind code of a frame, in the order of R171. -/
def TxBody.kindCode : TxBody → Nat
  | .stop => 0
  | .restart => 1
  | .present _ => 2
  | .alarm .. => 3
  | .state => 4
  | .lineStart => 5
  | .offer _ => 6
  | .take _ => 7
  | .refuse _ => 8
  | .arrived _ => 9
  | .record .. => 10
  | .pullResult _ => 11

/-- R174: the frames of classes 5 and 6. -/
def TxEntry.isBulk (e : TxEntry) : Bool := decide (5 ≤ e.body.frameClass)

/-- How many frames of classes 5 and 6 stand in the queue. -/
def LineUnit.bulkCount (l : LineUnit) : Nat := (l.queue.filter TxEntry.isBulk).length

/-- R174: a frame of class 5 or 6 has room. -/
def LineUnit.bulkRoom (l : LineUnit) : Bool :=
  decide (l.bulkCount < Config.bulkPlaces ∧ l.queue.length < Config.queuePlaces)

/-- R174: a queued frame into which a request merges: the STATE frame, or the ALARM frame of the same source, while it
waits. A frame on the line no longer waits (notes/assumptions/7). -/
def TxEntry.mergesWith (body : TxBody) (e : TxEntry) : Bool :=
  e.onLine.isNone &&
    match body, e.body with
    | .state, .state => true
    | .alarm i _ _ _ _, .alarm j _ _ _ _ => decide (i = j)
    | _, _ => false

/-- R174: a frame that may be removed to make room: a STATE or ALARM frame that waits. -/
def TxEntry.mayGo (e : TxEntry) : Bool :=
  e.onLine.isNone &&
    match e.body with
    | .state => true
    | .alarm .. => true
    | _ => false

/-- R174: replace the body of the first queued frame that `body` merges with, the older where a lost contest left two (DESIGN CHOICE,
notes/assumptions/80). -/
def mergeFrame (body : TxBody) : List TxEntry → List TxEntry
  | [] => []
  | e :: es => if e.mergesWith body then { e with body := body } :: es else e :: mergeFrame body es

/-- Remove the first frame that `p` admits. -/
def dropFirst (p : TxEntry → Bool) : List TxEntry → List TxEntry
  | [] => []
  | e :: es => if p e then es else e :: dropFirst p es

/-- R174: a request to queue a frame, the first case that holds deciding. A frame of class 5 or 6 waits behind those that
already wait. -/
def LineUnit.request (target : Nat) (body : TxBody) (l : LineUnit) : LineUnit :=
  let e : TxEntry := { target := target, body := body, onLine := none, givenUp := false }
  if l.queue.any (TxEntry.mergesWith body) then { l with queue := mergeFrame body l.queue }
  else if e.isBulk then
    if l.bulkRoom && l.waiting.isEmpty then { l with queue := l.queue ++ [e] }
    else { l with waiting := l.waiting ++ [e] }
  else if l.queue.length < Config.queuePlaces then { l with queue := l.queue ++ [e] }
  else if l.queue.any TxEntry.mayGo then
    { l with queue := dropFirst TxEntry.mayGo l.queue ++ [e], lost := bump Config.byteCap l.lost }
  else { l with lost := bump Config.byteCap l.lost }

/-- Ask the line unit to queue a frame; target 0 is a broadcast. -/
def State.send (target : Nat) (body : TxBody) (s : State) : State :=
  { s with line := s.line.request target body }

/-- R175, R178: a change of what this station reports queues a STATE frame and changes its own roster entry. -/
def State.announce (s : State) : State :=
  { s with line := s.line.request 0 .state, screen := s.screen.raise .rosterChange }

/-! ## Alarm entries -/

/-- R156: whether a change of an entry raises ALARM_CHANGE. -/
def AlarmEntry.shows (old new : AlarmEntry) : Bool :=
  decide (old.state ≠ new.state ∨ old.level ≠ new.level ∨ old.count ≠ new.count ∨ old.detail ≠ new.detail)

/-- The alarm table with entry `i` replaced. -/
def AlarmUnit.put (i : Nat) (e : AlarmEntry) (a : AlarmUnit) : AlarmUnit := { a with entries := a.entries.set i e }

/-- R33: the ALARM frame of a changed local entry. -/
def alarmBody (i : Nat) (e : AlarmEntry) : TxBody := .alarm i (localClass i) e.level e.state e.detail

/-- The screen after the alarm table went from `old` to `new`: ALARM_CHANGE where `shown`, and the banner's leaving
(R156). `classChanged` is whether the own roster entry changed with it (R178). -/
def ScreenUnit.afterAlarm (old new : AlarmUnit) (shown : Bool) (c : ScreenUnit) : ScreenUnit :=
  let c1 := if shown then c.raise .alarmChange else c
  let c2 := if old.banner.isSome && new.banner.isNone then c1.bannerLeft else c1
  if old.highestClass = new.highestClass then c2 else c2.raise .rosterChange

/-- The line unit after the alarm table went from `old` to `new`: the ALARM frame, where one is due (R33), and a STATE frame
at a change of the highest class (R175). -/
def LineUnit.afterAlarm (old new : AlarmUnit) (news : Option TxBody) (l : LineUnit) : LineUnit :=
  let l1 := match news with
    | some b => l.request 0 b
    | none => l
  if old.highestClass = new.highestClass then l1 else l1.request 0 .state

/-- Replace entry `i`, with the news and the screen effects of the change; `announced` says whether an ALARM frame is
due. -/
def State.putEntry (i : Nat) (e : AlarmEntry) (announced : Bool) (s : State) : State :=
  let new := s.alarms.put i e
  { s with
    alarms := new
    line := s.line.afterAlarm s.alarms new (if announced then some (alarmBody i e) else none)
    screen := s.screen.afterAlarm s.alarms new ((s.alarms.entry i).shows e) }

/-- R29: a local entry after a raise. -/
def AlarmEntry.raised (source : Nat) (d : Detail) (e : AlarmEntry) : AlarmEntry :=
  if isEvent source then
    { e with state := .active, count := bump Config.byteCap e.count, detail := d }
  else
    match e.state with
    | .clear => { e with state := .active, count := bump Config.byteCap e.count, condition := true, detail := d }
    | .active => { e with condition := true, detail := d }
    | .acked => { e with condition := true, detail := d }

/-- R21: whether a raise of `source` that leaves `e` sets the hold request. -/
def raiseHolds (source : Nat) (e : AlarmEntry) (st : StationState) : Bool :=
  decide (localClass source = .hold) && (decide (e.state = .active) || decide (st = .boot))

/-- R29: a raise of a local source. A disabled source disregards it (R28). A STOP-class entry that becomes ACTIVE takes the
station to STOPPED in `State.settle`, inside the same command (R24). -/
def State.raiseAlarm (source : Nat) (d : Detail) (s : State) : State :=
  if s.alarms.disabled source then s
  else
    let old := s.alarms.entry source
    let new := old.raised source d
    let s1 := s.putEntry source new (decide (old.state ≠ new.state ∨ old.count ≠ new.count))
    { s1 with control := { s1.control with
        holdRequest := s1.control.holdRequest || raiseHolds source new s1.control.station } }

/-- R31: an owner reports a condition gone. -/
def State.conditionGone (source : Nat) (s : State) : State :=
  let old := s.alarms.entry source
  match old.state with
  | .acked => s.putEntry source { old with state := .clear, condition := false } true
  | _ => s.putEntry source { old with condition := false } false

/-- R30: an entry after acknowledgement. -/
def AlarmEntry.acknowledged (source : Nat) (e : AlarmEntry) : AlarmEntry :=
  match e.state with
  | .active =>
    if isEvent source || decide (32 ≤ source) || e.condition then { e with state := .acked } else { e with state := .clear }
  | _ => e

/-- R30: acknowledge an entry. A local entry's change is announced, a mirror's is not. -/
def State.acknowledge (source : Nat) (s : State) : State :=
  let old := s.alarms.entry source
  s.putEntry source (old.acknowledged source) (decide (old.state = .active ∧ source < 32))

/-- R34: a mirror entry set by a peer's STOP or by a summary: class, level, detail. A summary of the source and level held but of
another class sets the entry anew (DESIGN CHOICE, notes/assumptions/79). -/
def AlarmEntry.mirroring (k : Nat) (m : Summary) (e : AlarmEntry) : AlarmEntry :=
  let cls : AlarmClass := if m.alarmClass = .stop then .stop else .note
  let level := if m.alarmClass = .stop then Config.stopLevel else m.level
  if e.state ≠ .clear ∧ e.detail = .peer k m.source ∧ e.level = level ∧ e.mirrored = cls then e
  else
    { state := .active, condition := true, count := bump Config.byteCap e.count, detail := .peer k m.source, level := level,
      mirrored := cls }

/-- R34: a mirror entry after a summary of none: CLEAR, condition absent, count and detail kept. The STOP class goes, and with
it the level of 16, for those of power-on; the level of a NOTE stays (DESIGN CHOICE, notes/assumptions/17). -/
def AlarmEntry.unmirrored (e : AlarmEntry) : AlarmEntry :=
  { e with
    state := .clear
    condition := false
    level := if e.mirrored = .stop then 0 else e.level
    mirrored := .note }

/-- R34: the mirror entry of station `k` after a summary. -/
def State.mirror (k : Nat) (summary : Option Summary) (s : State) : State :=
  let i := Source.mirror k
  let old := s.alarms.entry i
  match summary with
  | none => s.putEntry i old.unmirrored false
  | some m => s.putEntry i (old.mirroring k m) false

/-! ## Station, head and stage state -/

/-- R18: the station state changes: STATE_CHANGE, a STATE frame (R175), the refusal notice cleared (R157); the hold request
is cleared on entry to HELD (R21). -/
def State.setStation (st : StationState) (s : State) : State :=
  if st = s.control.station then s
  else
    { s with
      control := { s.control with
        station := st
        holdRequest := s.control.holdRequest && decide (st ≠ .held) }
      line := s.line.request 0 .state
      screen := (ScreenUnit.raise .stateChange { s.screen with notice := false }).raise .rosterChange }

/-- R26: the head state changes. -/
def State.setHead (h : HeadState) (s : State) : State :=
  if h = s.control.head then s
  else
    { s with
      control := { s.control with head := h }
      line := s.line.request 0 .state
      screen := (s.screen.raise .stateChange).raise .rosterChange }

/-- R38: the stage state changes. -/
def State.setStage (st : StageState) (s : State) : State :=
  if st = s.stage.state then s
  else
    { s with
      stage := { s.stage with state := st }
      line := s.line.request 0 .state
      screen := (s.screen.raise .stateChange).raise .rosterChange }

/-! ## The dwell timer and the strip's coming and going -/

/-- R40: the dwell timer starts from 0. -/
def State.startDwell (s : State) : State :=
  { s with stage := { s.stage with dwell := { s.stage.dwell with isRunning := true, reached := false } } }

/-- R40: the dwell timer stops, and DWELL_LIMIT's condition ends with it. -/
def State.stopDwell (s : State) : State :=
  let s1 := { s with stage := { s.stage with dwell := { s.stage.dwell with isRunning := false } } }
  if s1.conditionOf Source.dwellLimit then s1.conditionGone Source.dwellLimit else s1

/-- R113: the pull unit's items that belong to the strip begin again. -/
def State.freshStrip (s : State) : State :=
  { s with pull := { s.pull with pairs := [], auditCount := 0, confirmTried := false } }

/-- The stage takes a record and enters LOADED with the column position given (R38, R53, R55, R139): dwell timer from 0,
per-strip items of the pull unit emptied, STRIP_CHANGE raised. -/
def State.takeStrip (r : StripRecord) (column : Nat) (s : State) : State :=
  let s1 := s.setStage .loaded
  let s2 : State := { s1 with stage := { s1.stage with
    record := some r
    assembly := none
    kept := none
    note := none
    transferTimer := .stopped
    column := column
    coverWait := false
    working := false
    push := .notBegun
    lastPartLeft := false
    closeWhenLeft := false } }
  (s2.startDwell.freshStrip).event .stripChange

/-- The stage discards what it holds and enters EMPTY (R49, R50, R56, R144): the dwell timer stops, and STRIP_CHANGE is
raised where a record was discarded. -/
def State.emptyStage (s : State) : State :=
  let s1 := s.setStage .empty
  let s2 : State := { s1 with stage := { s1.stage with
    record := none
    assembly := none
    kept := none
    offerTimer := .stopped
    transferTimer := .stopped
    coverWait := false
    working := false
    push := .notBegun
    lastPartLeft := false
    closeWhenLeft := false } }
  let s3 := if s.stage.record.isSome then s2.event .stripChange else s2
  s3.stopDwell

/-! ## Ports -/

/-- R24, R73: the head is sent to safe height. -/
def State.headToSafe (s : State) : State :=
  { s with ports := { s.ports with z := .moveTo (s.head (·.safeHeight)) } }

end Sys2Proof.Machine
end

