-- ==== Sys2Proof/Machine/Records.lean ====
section
/-! DEFINITION. The strip record (spec/01_the_strip_record.md): its creation, the changes blocks ask of it and when each is
applied (R13), the parts it travels in, and its closing. -/

namespace Sys2Proof.Machine

/-! ## Changes to units -/

/-- Replace unit entry `u` of a record. -/
def StripRecord.setUnit (u : Nat) (e : UnitEntry) (r : StripRecord) : StripRecord :=
  { r with tracked := r.tracked.map fun t => { t with table := t.table.set (u - 1) e } }

/-- Replace unit entry `u` of the record on the stage. -/
def State.setUnit (u : Nat) (e : UnitEntry) (s : State) : State :=
  { s with stage := { s.stage with record := s.stage.record.map (StripRecord.setUnit u e) } }

/-- R4, R78: the wire sequencer or the energy unit asks for unit `u` to become REJECT. An OPEN unit of a LOADED stage becomes
REJECT with the cause, counted and shown; any other request changes nothing. -/
def State.requestReject (u : Nat) (cause : RejectCause) (s : State) : State :=
  match s.unit? u with
  | some e =>
    if s.workMayChange = true ∧ e.status = .isOpen then
      let s1 := s.setUnit u { e with status := .reject cause }
      { s1 with
        wire := { s1.wire with unitsRejected := bump Config.runningCap s1.wire.unitsRejected }
        screen := s1.screen.raise .unitChange }
    else s
  | none => s

/-- R4, R129: the pull unit asks for unit `u` to become REJECT, from OPEN or DONE. -/
def State.requestPullReject (u : Nat) (cause : RejectCause) (s : State) : State :=
  match s.unit? u with
  | some e =>
    if s.pullMayChange = true ∧ (e.status = .isOpen ∨ e.status = .done) then
      (s.setUnit u { e with status := .reject cause }).event .unitChange
    else s
  | none => s

/-- R9: the severity of a pull outcome; NO_HOOK makes no mark. -/
def severity : PullOutcome → Nat
  | .noHook => 0
  | .held => 1
  | .pass => 2
  | .low => 3
  | .lift2 => 4
  | .lift1 => 5
  | .failNd => 6

/-- R9: whichever of the present value and the new outcome is worse. -/
def worse (present : Option PullOutcome) (new : PullOutcome) : PullOutcome :=
  match present with
  | none => new
  | some o => if severity o < severity new then new else o

/-- R9: the pull mark on unit `u`. -/
def State.pullMark (u : Nat) (o : PullOutcome) (s : State) : State :=
  match s.unit? u with
  | some e =>
    if s.pullMayChange then
      s.setUnit u { e with pulls := bump Config.pullCountCap e.pulls, worst := some (worse e.worst o) }
    else s
  | none => s

/-! ## Suspects (R10) -/

/-- R10: a request to add a suspect, made while the stage is LOADED. -/
def State.addSuspect (u w : Nat) (cause : SuspectCause) (s : State) : State :=
  match s.stage.record with
  | some r =>
    match r.tracked with
    | some t =>
      if s.workMayChange = false ∨ t.suspects.any (fun x => decide (x.unit = u ∧ x.wire = w)) then s
      else if t.suspects.length < Config.suspectPlaces then
        let t' : TrackedPart := { t with suspects := t.suspects ++ [⟨u, w, cause⟩] }
        { s with stage := { s.stage with record := some { r with tracked := some t' } } }
      else
        let t' : TrackedPart := { t with dropped := bump Config.byteCap t.dropped }
        let s1 : State := { s with stage := { s.stage with record := some { r with tracked := some t' } } }
        s1.raiseAlarm Source.suspectDrop (.unitWire u w)
    | none => s
  | none => s

/-! ## Completion of a wire (R5, R7) -/

/-- R7: a progress entry after station `k` completes wire `w`: attribution first, then the next wire. -/
def Progress.completed (g : Progress) (k w first : Nat) : Progress :=
  let g1 : Progress :=
    if g.startedBy = 0 then { g with startedBy := k, finishedBy := k, split := first }
    else if k ≠ g.startedBy ∧ g.finishedBy = g.startedBy then { g with finishedBy := k, split := w }
    else g
  { g1 with next := g1.next + 1 }

/-- R5: every carried segment, from `k` upward, is complete. -/
def allComplete (p : Program) : Nat → List Progress → Bool
  | _, [] => true
  | k, g :: rest => segmentComplete p k g && allComplete p (k + 1) rest

/-- R5, R7: a unit entry after station `k` completes wire `w` of segment `seg`. -/
def UnitEntry.completed (p : Program) (e : UnitEntry) (k w seg : Nat) : UnitEntry :=
  let progress := modifyAt (fun g => Progress.completed g k w (segmentOf p seg).first) (seg - 1) e.progress
  { e with progress := progress, status := if allComplete p 1 progress then .done else e.status }

/-- R78: a wire completes at the end of TAILING. On a unit still OPEN its completion is recorded, counted and shown, and a
unit it makes DONE is counted and shown. -/
def State.completeWire (f : WireInFlight) (s : State) : State :=
  match s.program?, s.unit? f.unit with
  | some p, some e =>
    if s.workMayChange = true ∧ e.status = .isOpen then
      let e' := UnitEntry.completed p e s.straps.station f.wire f.segment
      let s1 := s.setUnit f.unit e'
      let isDone := decide (e'.status = .done)
      { s1 with
        wire := { s1.wire with
          wiresBonded := bump Config.runningCap s1.wire.wiresBonded
          unitsDone := if isDone then bump Config.runningCap s1.wire.unitsDone else s1.wire.unitsDone }
        screen := if isDone then (s1.screen.raise .wireDone).raise .unitChange else s1.screen.raise .wireDone }
    else s
  | _, _ => s

/-! ## Creation (R11, R12) -/

/-- R6: the progress entries at creation, for `n` segments from `k` upward. -/
def freshProgress (p : Program) : Nat → Nat → List Progress
  | _, 0 => []
  | k, n + 1 =>
    { next := (segmentOf p k).first, startedBy := 0, finishedBy := 0, split := (segmentOf p k).first } ::
      freshProgress p (k + 1) n

/-- R3, R11: the unit table at creation, for the units from `u` upward; a marked unit starts SKIP. -/
def freshTable (p : Program) (segments : Nat) (marks : List Nat) : Nat → Nat → List UnitEntry
  | _, 0 => []
  | u, n + 1 =>
    { status := if marks.contains u then .skip else .isOpen
      pulls := 0
      worst := none
      progress := freshProgress p 1 segments } :: freshTable p segments marks (u + 1) n

/-- R2: the sample flag is set when the line sequence is a whole multiple of the sampling interval. -/
def sampled (interval lineSeq : Nat) : Bool := decide (lineSeq % interval = 0)

/-- R2, R11: a tracked record created at infeed. -/
def freshRecord (p : Program) (serial : Serial) (lineSeq segments : Nat) (marks : List Nat) : StripRecord where
  serial := serial
  lineSeq := lineSeq
  dwell := false
  sample := sampled p.pull.sampleInterval lineSeq
  tracked := some
    { segments := segments, dropped := 0, table := freshTable p segments marks 1 (unitCount p), suspects := [] }

/-- R12: an untracked record made at this station. -/
def untrackedRecord (serial : Serial) (lineSeq : Nat) : StripRecord where
  serial := serial
  lineSeq := lineSeq
  dwell := false
  sample := false
  tracked := none

/-- Section 5.3: the serial of a strip whose origin is unknown. -/
def unknownSerial : Serial := { magSeq := 0, slot := 0 }

/-! ## The record's parts (R14) -/

/-- R14: the parts of a record, in part order. The header part of an untracked record carries 0 for the segments and the dropped
suspects (notes/assumptions/65). -/
def StripRecord.parts (r : StripRecord) : List RecordPayload :=
  let header (units segments dropped : Nat) (tracked : Bool) : RecordPayload :=
    ⟨0, .header ⟨r.serial, r.lineSeq, tracked, r.dwell, r.sample, units, segments, dropped⟩⟩
  match r.tracked with
  | some t =>
    header t.table.length t.segments t.dropped true ::
      (t.table.zipIdx.map (fun (e, i) => (⟨i + 1, .unit e⟩ : RecordPayload)) ++
        [⟨t.table.length + 1, .suspects t.suspects⟩])
  | none => [header 0 0 0 false, ⟨1, .suspects []⟩]

/-- R51: an empty assembly. -/
def RecordAssembly.fresh : RecordAssembly := { header := none, units := [], suspects := none, broken := false }

/-- R14: the number of the part due next. -/
def RecordAssembly.due (a : RecordAssembly) : Nat :=
  match a.header with
  | none => 0
  | some _ => 1 + a.units.length + (if a.suspects.isSome then 1 else 0)

/-- R14: the assembly is complete when the suspect part has been taken without a break. -/
def RecordAssembly.complete (a : RecordAssembly) : Bool := a.suspects.isSome && !a.broken

/-- R182: the content of a part suits its number for an offer of `units` units; a part that does not is handed to no
block. -/
def partFits (units : Nat) (p : RecordPayload) : Bool :=
  match p.content with
  | .header _ => decide (p.number = 0)
  | .unit _ => decide (1 ≤ p.number ∧ p.number ≠ units + 1)
  | .suspects _ => decide (1 ≤ p.number ∧ (units < p.number))

/-- R14, R52: a part due next, taken into the assembly where it is consistent with the OFFER and the header part. DEDUCED
(notes/assumptions/63): a header part with another U than the OFFER's breaks the assembly. -/
def RecordAssembly.addPart (o : OfferPayload) (p : RecordPayload) (a : RecordAssembly) : RecordAssembly :=
  match p.content, a.header with
  | .header h, none =>
    if h.serial = o.serial ∧ h.lineSeq = o.lineSeq ∧ h.tracked = o.tracked ∧ h.units = o.units then
      { a with header := some h }
    else { a with broken := true }
  | .unit e, some h =>
    if p.number ≤ h.units ∧ e.progress.length = h.segments then { a with units := a.units ++ [e] }
    else { a with broken := true }
  | .suspects l, some h =>
    if p.number = h.units + 1 ∧ l.all (fun x => decide (x.unit ≤ h.units)) then { a with suspects := some l }
    else { a with broken := true }
  | _, _ => { a with broken := true }

/-- R14, R52: a RECORD part at the receiver. A broken or complete assembly takes no further parts; a part out of order
breaks it. -/
def RecordAssembly.takePart (o : OfferPayload) (p : RecordPayload) (a : RecordAssembly) : RecordAssembly :=
  if a.broken || a.complete then a
  else if !partFits o.units p then a
  else if p.number ≠ a.due then { a with broken := true }
  else a.addPart o p

/-- R14: the record of a complete, unbroken assembly. -/
def RecordAssembly.record? (a : RecordAssembly) : Option StripRecord :=
  match a.broken, a.header, a.suspects with
  | false, some h, some l =>
    some ⟨h.serial, h.lineSeq, h.dwell, h.sample,
      if h.tracked then some ⟨h.segments, h.dropped, a.units, l⟩ else none⟩
  | _, _, _ => none

/-! ## Closing (R16) -/

/-- R16: an OPEN unit becomes REJECT INCOMPLETE. -/
def UnitEntry.closed (e : UnitEntry) : UnitEntry :=
  if e.status = .isOpen then { e with status := .reject .incomplete } else e

/-- R16: the record closed on entry to UNLOADING. -/
def StripRecord.closed (r : StripRecord) : StripRecord :=
  { r with tracked := r.tracked.map fun t => { t with table := t.table.map UnitEntry.closed } }

/-- R16: the good count, the number of DONE units. -/
def StripRecord.goodCount (r : StripRecord) : Nat :=
  match r.tracked with
  | some t => (t.table.filter fun e => decide (e.status = .done)).length
  | none => 0

/-- R16: whether a unit counts as a reject. -/
def UnitEntry.isReject (e : UnitEntry) : Bool :=
  match e.status with
  | .reject _ => true
  | .skip => true
  | _ => false

/-- R16: the reject count, the number of REJECT and SKIP units. -/
def StripRecord.rejectCount (r : StripRecord) : Nat :=
  match r.tracked with
  | some t => (t.table.filter UnitEntry.isReject).length
  | none => 0

end Sys2Proof.Machine
end

