-- ==== Sys2Proof/Machine/Stop.lean ====
section
/-! DEFINITION. Entering STOPPED and what it ends (R24, R42, R82, R94, R128, R136), the roll call's judgement of the roster
(R104, R179, R180), entering ROLLCALL and READY, leaving STOPPED (R25), and `State.settle`, which brings the station state
into line with the STOP-class entries at the end of every command that can change one. -/

namespace Sys2Proof.Machine

/-! ## The debit (R79) -/

/-- R79: after a debit the stock is compared with the low-stock threshold. -/
def State.judgeStock (s : State) : State :=
  if s.wire.stock < s.head (·.lowStock) ∧ s.conditionOf Source.wireLow = false then s.raiseAlarm Source.wireLow .none else s

/-- R79: the debit of the wire in flight: a DUE mark takes the use from the stock, a WAIVED one leaves it. -/
def State.debit (s : State) : State :=
  match s.wire.inFlight with
  | some f =>
    if f.debit = .due then
      State.judgeStock { s with wire := { s.wire with
        stock := s.wire.stock - f.use
        inFlight := some { f with debit := .taken } } }
    else s
  | none => s

/-! ## What a STOP ends -/

/-- R94: a bond in progress ends without an outcome; one that ends before its first sample leaves sink 0 (DESIGN CHOICE,
notes/assumptions/81) and no generator power (DEDUCED, notes/assumptions/25). -/
def EnergyUnit.abortBond (u : EnergyUnit) : EnergyUnit :=
  match u.bond with
  | some b =>
    { u with
      bond := none
      lastBond := some ⟨b.bondClass, b.side, b.power, b.saturated, .aborted, b.samples, b.sink, b.generator⟩ }
  | none => u

/-- R82: whether an abort in this cycle rejects the unit and takes the debit: BOND_FIRST was entered, and the wire's tail has
not been torn yet. -/
def abortCharges (w : WireSequencer) : Bool :=
  match w.inFlight with
  | some f => f.bondEntered && decide (w.cycle ≠ .flaming)
  | none => false

/-- R24, R82: a STOP sends the head of a cycle in flight to safe height; a cut or a return after a missing die first ends
where it stands (notes/assumptions/48). -/
def State.abortZ (s : State) : ZDemand :=
  if s.wire.awaits = .cut ∨ s.wire.awaits = .missingDieReturn then .haltThenMoveTo (s.head (·.safeHeight))
  else .moveTo (s.head (·.safeHeight))

/-- R24, R128: a STOP sends the head of a pull in flight to safe height; a lift under way first stops, and the release motion
first ends where it stands (notes/assumptions/48). -/
def State.abandonZ (s : State) : ZDemand :=
  match s.pull.cycle with
  | .toWire | .hooking => .moveTo (s.head (·.safeHeight))
  | .lifting | .holding | .releasing => .haltThenMoveTo (s.head (·.safeHeight))
  | .idle => s.ports.z

/-- R24, R82, R94: a STOP ends the wire cycle in flight. Ball-ready becomes false even where the cycle is IDLE
(notes/assumptions/11), and the demands to the XY drive and the wire clamp stand (notes/assumptions/56). -/
def State.abortWire (s : State) : State :=
  let s0 := if abortCharges s.wire then
      match s.wire.inFlight with
      | some f => (s.requestReject f.unit .aborted).debit
      | none => s
    else s
  let busy := decide (s.wire.cycle ≠ .idle)
  { s0 with
    wire := { s0.wire with cycle := .idle, awaits := .none, inFlight := none, ballReady := false }
    energy := s0.energy.abortBond
    ports := { s0.ports with
      bondForce := none
      ultrasonic := 0
      fire := false
      z := if busy then s.abortZ else s0.ports.z } }

/-- R24, R128: a STOP ends the pull cycle in flight and sends the head to safe height; before RELEASING nothing of it is kept,
and in RELEASING the release motion ends where it stands (notes/assumptions/48). The XY demand stands elsewhere
(notes/assumptions/56). -/
def State.abandonPull (s : State) : State :=
  { s with
    pull := { s.pull with cycle := .idle, inFlight := none, holdTimer := .stopped }
    ports := { s.ports with
      xy := if s.pull.cycle = .releasing then .halt else s.ports.xy
      z := s.abandonZ } }

/-- R42: a STOP halts an index motion; the strip then stands at no known column. -/
def State.haltIndex (s : State) : State :=
  if s.stage.indexMotion.isSome then
    { s with
      stage := { s.stage with indexMotion := none, column := 0, working := false }
      ports := { s.ports with index := .halt } }
  else s

/-- R136: a STOP halts an elevator move; the position is forgotten and the target kept. -/
def Elevator.halted (e : Elevator) : Elevator :=
  if e.activity = .moving then { e with activity := .idle, position := none, destination := none } else e

/-- R136: the demand to an elevator drive at a STOP. -/
def haltDrive (e : Elevator) (d : ElevatorDemand) : ElevatorDemand := if e.activity = .moving then .halt else d

/-- R136: a STOP halts both elevators. -/
def State.haltElevators (s : State) : State :=
  { s with
    elevator := { s.elevator with input := s.elevator.input.halted, output := s.elevator.output.halted }
    ports := { s.ports with
      inputDrive := haltDrive s.elevator.input s.ports.inputDrive
      outputDrive := haltDrive s.elevator.output s.ports.outputDrive } }

/-- R179: leaving ROLLCALL into STOPPED stops the roll-call timer. -/
def State.stopRollCall (s : State) : State :=
  if s.control.station = .rollcall then { s with line := { s.line with rollCallTimer := .stopped } } else s

/-- R24: the station enters STOPPED at once, and the work in progress is ended. A push runs on. -/
def State.enterStopped (s : State) : State :=
  (s.stopRollCall.abortWire.abandonPull.haltIndex.haltElevators).setStation .stopped

/-! ## Roll call -/

/-- R179: this station's PRESENT frame. Without a program id it sends none (R176). -/
def State.sendPresent (s : State) : State :=
  match s.programId? with
  | some id =>
    s.send 0 (.present ⟨s.straps.station, s.straps.role, s.straps.infeed, s.straps.outfeed, id, s.knownSet⟩)
  | none => s

/-- R180: the lowest present station whose program id differs. A station without a program id compares none
(notes/assumptions/15). -/
def State.mismatch (s : State) : Option Nat :=
  match s.programId? with
  | some id => smallest (s.presentWith fun _ i => decide (i.programId ≠ id))
  | none => none

/-- R104: whether the map entry of station `k` breaches the layout of a line whose OUTFEED station is `n`. -/
def State.mapBreach (s : State) (p : Program) (n k : Nat) : Bool :=
  !segmentEmpty (segmentOf p k) &&
    (decide (n < k) ||
      (decide (spareOf p k ≠ 0) &&
        (decide (n < spareOf p k) ||
          decide ((s.rosterEntry (spareOf p k)).identity.map (·.role) = some .pull))))

/-- R104: the station numbers whose map entries breach. -/
def State.mapBreaches (s : State) (n : Nat) : List Nat :=
  match s.program? with
  | some p => stationNumbers.filter (s.mapBreach p n)
  | none => []

/-- The stations of a list above its smallest: of two that carry one mark, the higher (R180). -/
def aboveSmallest (l : List Nat) : List Nat :=
  match smallest l with
  | some m => l.filter fun k => decide (m < k)
  | none => []

/-- R180: the stations found in layout breach once roll call is complete with OUTFEED station `n`. -/
def State.completeBreaches (s : State) (n : Nat) : List Nat :=
  (if (s.presentWith fun k i => decide (k = 1) && i.infeed) = [] then [1] else []) ++
    (if (s.presentWith fun k i => decide (k ≤ n) && decide (i.role = .head)) = [] then [n] else []) ++
      s.mapBreaches n

/-- R180: the stations found in layout breach. -/
def State.layoutBreaches (s : State) : List Nat :=
  let above := match s.outfeedStation with
    | some n => s.presentWith fun k _ => decide (n < k)
    | none => []
  let whole := match s.rollCallComplete, s.outfeedStation with
    | true, some n => s.completeBreaches n
    | _, _ => []
  (s.presentWith fun k i => i.infeed && decide (k ≠ 1)) ++ aboveSmallest (s.presentWith fun _ i => i.outfeed) ++ above ++
    aboveSmallest (s.presentWith fun _ i => decide (i.role = .pull)) ++ whole

/-- R180: a finding raises its condition with the station as detail; no finding reports it gone. -/
def State.judgeFinding (source : Nat) (finding : Option Nat) (s : State) : State :=
  match finding with
  | some k => s.raiseAlarm source (.station k)
  | none => s.conditionGone source

/-- R179: ROSTER_GAP's condition ends when roll call becomes complete. -/
def State.judgeGap (s : State) : State :=
  if s.rollCallComplete && s.conditionOf Source.rosterGap then s.conditionGone Source.rosterGap else s

/-- R180: in every state except BOOT roll call judges the roster. -/
def State.judgeRoster (s : State) : State :=
  if s.control.station = .boot then s
  else
    let s1 := s.judgeFinding Source.programMismatch s.mismatch
    (s1.judgeFinding Source.lineLayout (smallest s1.layoutBreaches)).judgeGap

/-- R20, R179: a complete roll call with no STOP-class entry standing takes ROLLCALL to READY and stops the timer. -/
def State.tryReady (s : State) : State :=
  if s.control.station = .rollcall ∧ s.rollCallComplete = true ∧ s.alarms.stopStands = false then
    State.setStation .ready { s with line := { s.line with rollCallTimer := .stopped } }
  else s

/-- R179, R180: entering ROLLCALL: a PRESENT frame, the roll-call timer, and a judgement of the roster, after which the
station may be READY at once. -/
def State.enterRollCall (s : State) : State :=
  let s1 := s.setStation .rollcall
  let s2 := s1.sendPresent
  let s3 := { s2 with line := { s2.line with rollCallTimer := .running Config.rollCallTime } }
  s3.judgeRoster.tryReady

/-! ## Leaving STOPPED, and the settling of the station state -/

/-- R25: the state a station enters when it leaves STOPPED. -/
def State.leaveStopped (s : State) : State :=
  if s.control.lineStarted then s.setStation .held
  else if s.rollCallComplete then s.setStation .ready
  else s.enterRollCall

/-- R24: a STOP-class entry that stands outside BOOT takes the station to STOPPED. -/
def State.settleStop (s : State) : State :=
  if s.control.station ≠ .boot ∧ s.control.station ≠ .stopped ∧ s.alarms.stopStands = true then s.enterStopped else s

/-- R24, R25: the station state after a command that may have changed a STOP-class entry: STOPPED at once where one stands,
out of STOPPED where none does. In BOOT nothing is acted on (R19). -/
def State.settle (s : State) : State :=
  if s.control.station = .stopped ∧ s.alarms.stopStands = false then s.leaveStopped.settleStop else s.settleStop

end Sys2Proof.Machine
end

