-- ==== Sys2Proof/Machine/Heat.lean ====
section
/-! DEFINITION. The heat monitor (spec/03_stage_handoff_and_heat.md, 3.7): visits, causes, the pause request, its two
alarms, and the compensation temperature it hands the energy unit. -/

namespace Sys2Proof.Machine

/-- R59: whether a reading counts: the converter marks it valid and it lies within -40 to 500 °C. -/
def readingCounts (valid : Bool) (reading : Int) : Bool := valid && decide (-40 ≤ reading ∧ reading ≤ 500)

/-- R59: a zone after a visit, its cause aside. -/
def ZoneState.visited (counts : Bool) (reading : Int) (z : ZoneState) : ZoneState :=
  { z with reading := if counts then some reading else z.reading, lastInvalid := !counts }

/-- R58: a reading lies within the recovery band of a zone. -/
def inBand (g : ZoneSetting) (coolOff r : Int) : Bool := decide (g.tLow + coolOff ≤ r ∧ r ≤ g.tHigh - coolOff)

/-- R60: the cause of a zone after a judgement of what its last visit gave. A zone with no reading is judged as an invalid
one. -/
def judgedCause (g : ZoneSetting) (coolOff : Int) (z : ZoneState) : ZoneCause :=
  if g.enabled = false then .none
  else
    match z.lastInvalid, z.reading with
    | false, some r =>
      if g.tHigh < r then .hot else if r < g.tLow then .cold else if inBand g coolOff r then .none else z.cause
    | _, _ => .cold

/-- The zone numbers 1 to 6. -/
def zoneNumbers : List Nat := [1, 2, 3, 4, 5, 6]

/-- Zone `z` is enabled. -/
def State.zoneEnabled (s : State) (z : Nat) : Bool := (s.zoneSetting z).enabled

/-- R61: some enabled zone has a cause other than NONE. -/
def State.anyCause (s : State) : Bool :=
  zoneNumbers.any fun z => s.zoneEnabled z && decide ((s.heat.zone z).cause ≠ .none)

/-- R61: a zone's last visit gave a valid reading within its recovery band. -/
def State.recovered (s : State) (z : Nat) : Bool :=
  match (s.heat.zone z).lastInvalid, (s.heat.zone z).reading with
  | false, some r => inBand (s.zoneSetting z) s.coolOff r
  | _, _ => false

/-- R61: every enabled zone has recovered. -/
def State.allRecovered (s : State) : Bool := zoneNumbers.all fun z => !s.zoneEnabled z || s.recovered z

/-- R61: the pause request after a judgement. -/
def State.pauseJudged (s : State) : Bool := s.anyCause || (s.heat.pauseRequest && !s.allRecovered)

/-- R61: an enabled zone's last visit gave an invalid reading. -/
def State.sensorBad (s : State) (z : Nat) : Bool := s.zoneEnabled z && (s.heat.zone z).lastInvalid

/-- R61: the pause request takes its value after a judgement, and HEAT_PAUSE follows it; `fresh` is the zone to name where
the judgement gave an enabled zone a new cause. -/
def State.judgePause (fresh : Option Nat) (s : State) : State :=
  let s1 : State := { s with heat := { s.heat with pauseRequest := s.pauseJudged } }
  match s.pauseJudged, fresh with
  | true, some z => s1.raiseAlarm Source.heatPause (.zone z)
  | true, none => s1
  | false, _ => if s.heat.pauseRequest then s1.conditionGone Source.heatPause else s1

/-- R61: ZONE_SENSOR at a visit of zone `z`. -/
def State.judgeSensor (z : Nat) (s : State) : State :=
  if s.sensorBad z then s.raiseAlarm Source.zoneSensor (.zone z)
  else if s.conditionOf Source.zoneSensor && !zoneNumbers.any s.sensorBad then s.conditionGone Source.zoneSensor
  else s

/-- R60: the cause `z` would have after a judgement of its entry `e`. -/
def State.causeOf (s : State) (z : Nat) (e : ZoneState) : ZoneCause := judgedCause (s.zoneSetting z) s.coolOff e

/-- R60, R61: a judged zone `z` whose entry was `old`. -/
def State.judgeZone (z : Nat) (s : State) : State :=
  let old := s.heat.zone z
  let cause := s.causeOf z old
  let s1 : State := { s with heat := { s.heat with
    zones := s.heat.zones.set (z - 1) { old with cause := cause } } }
  let fresh := if cause ≠ old.cause ∧ cause ≠ .none then some z else none
  (s1.judgePause fresh).judgeSensor z

/-- R59: the zone visited after zone `z`. -/
def nextZone (z : Nat) : Nat := if z < 6 then z + 1 else 1

/-- ZONE_VISIT (R59 to R61): the reading is stored, and after the load's end judged. -/
def execZoneVisit (valid : Bool) (reading : Int) (s : State) : Host.Outcome State Fault Refusal :=
  .next <|
    let z := s.heat.nextZone
    let s1 : State := { s with
      heat := { s.heat with
        zones := modifyAt (ZoneState.visited (readingCounts valid reading) reading) (z - 1) s.heat.zones
        nextZone := nextZone z }
      screen := s.screen.raise .zoneSample }
    if s.loader.loaded = .loading then s1 else s1.judgeZone z

/-- R60: the entries after the judgement at the end of the load. -/
def State.judgedZones (s : State) : List ZoneState :=
  zoneNumbers.map fun z => { s.heat.zone z with cause := s.causeOf z (s.heat.zone z) }

/-- R60, R61: at the end of the load every zone is judged at once. HEAT_PAUSE and ZONE_SENSOR are raised at most once, for
the lowest-numbered zone. A zone whose visits were all invalid raises ZONE_SENSOR (notes/assumptions/47). -/
def State.judgeAllZones (s : State) : State :=
  let s1 : State := { s with heat := { s.heat with zones := s.judgedZones } }
  let s2 := s1.judgePause (zoneNumbers.find? fun z => s1.zoneEnabled z && decide ((s1.heat.zone z).cause ≠ .none))
  match zoneNumbers.find? s2.sensorBad with
  | some z => s2.raiseAlarm Source.zoneSensor (.zone z)
  | none => s2

/-- R62: the compensation temperature of zone `z`. -/
def State.compensationTemperature (s : State) (z : Nat) : Int :=
  match s.zoneEnabled z, (s.heat.zone z).lastInvalid, (s.heat.zone z).reading with
  | true, false, some r => r
  | _, _, _ => (s.zoneSetting z).tSet

end Sys2Proof.Machine
end

