-- ==== Sys2Proof/Machine/Energy.lean ====
section
/-! DEFINITION. The energy unit (spec/05_bond_energy_and_trims.md): the start of a bond and what it latches, the demand and
sample cadences, the end of a bond and its consequences, and the trims that pull results change. -/

namespace Sys2Proof.Machine

/-! ## The start of a bond (R86, R87) -/

/-- R86: the trim of a side. -/
def TrimEntry.side (e : TrimEntry) (side : Side) : Int :=
  match side with
  | .first => e.first
  | .second => e.second

/-- R84: the trim entry of a class. -/
def EnergyUnit.trimOf (u : EnergyUnit) (c : Nat) : TrimEntry := u.trims.getD c { first := 0, second := 0, goodRun := 0 }

/-- R86: the zone deficit of a zone. -/
def State.deficit (s : State) (z : Nat) : Int := max 0 ((s.zoneSetting z).tSet - s.compensationTemperature z)

/-- R86: the compensation of a deficit, in percent. -/
def compensation (d : Int) : Int := min 10 (d / 5)

/-- R87: the product of nominal power and factor. -/
def powerProduct (pn : Nat) (t c : Int) : Int := (pn : Int) * (100 + t + c)

/-- R87: the saturated mark. -/
def isSaturated (pn : Nat) (t c : Int) : Bool := decide (100000 < powerProduct pn t c)

/-- R87: the effective power in ‰. -/
def effectivePower (pn : Nat) (t c : Int) : Nat :=
  if isSaturated pn t c then 1000 else (powerProduct pn t c / 100).toNat

/-- R86: the zone mapped to the current column. -/
def State.bondZone (s : State) : Nat := s.setting (fun p => zoneOfColumn p s.stage.column) 1

/-- R85: the parameter set of one side of a class of the loaded program. -/
def State.bondSet (s : State) (c : Nat) (side : Side) : BondSet := s.setting (fun p => Machine.bondSet p c side) zeroBondSet

/-- R86: the bond in progress as it begins; its sink reads 0 until a sample is taken (DESIGN CHOICE, notes/assumptions/81). -/
def State.newBond (s : State) (c : Nat) (side : Side) (contactZ : Int) : Bond :=
  let t := (s.energy.trimOf c).side side
  let comp := compensation (s.deficit s.bondZone)
  let pn := (s.bondSet c side).nominalPower
  ⟨c, side, t, comp, effectivePower pn t comp, isSaturated pn t comp, contactZ, 0, 0, none⟩

/-- R86: a bond begins: it is latched, and the Z drive is told to hold the bond force. -/
def State.startBond (c : Nat) (side : Side) (contactZ : Int) (s : State) : State :=
  { s with
    energy := { s.energy with bond := some (s.newBond c side contactZ) }
    ports := { s.ports with bondForce := some (s.bondSet c side).bondForce } }

/-! ## Demand and samples (R88, R89) -/

/-- R88: the demand of interval `i` of a bond of power `p` with `ramp` ramp steps. -/
def demandAt (p ramp i : Nat) : Nat := if i ≤ ramp ∧ ramp ≠ 0 then p * i / ramp else p

/-- The wire cycle is in BOND_FIRST or BOND_SECOND. -/
def WireSequencer.bonding (w : WireSequencer) : Bool := decide (w.cycle = .bondFirst ∨ w.cycle = .bondSecond)

/-- DEMAND_INTERVAL (R88): the demand of the interval after the last sample. -/
def execDemandInterval (s : State) : Host.Outcome State Fault Refusal :=
  .next <|
    match s.energy.bond with
    | some b =>
      if s.wire.bonding then
        { s with ports := { s.ports with
          ultrasonic := demandAt b.power (s.bondSet b.bondClass b.side).rampSteps (b.samples + 1) } }
      else s
    | none => s

/-- R89: the sink at a sample: the fall below the contact position, from 0 to 500; an unreported sample keeps the last. -/
def sinkOf (contactZ : Int) (z : Option Int) (last : Nat) : Nat :=
  match z with
  | some z => min 500 (contactZ - z).toNat
  | none => last

/-- R89: the bond after a sample. -/
def Bond.sampled (z : Option Int) (generator : Nat) (b : Bond) : Bond :=
  { b with samples := b.samples + 1, sink := sinkOf b.contactZ z b.sink, generator := some generator }

/-! ## The end of a bond (R90 to R93) -/

/-- R90: the tests of a sample, in order. -/
def judgeSample (g : BondSet) (e sink : Nat) : Option BondOutcome :=
  if g.maxSink < sink then some .crush
  else if g.targetSink ≤ sink then (if g.minTime ≤ e then some .sinkMet else some .fast)
  else if e = g.maxTime then (if g.minSink ≤ sink then some .timed else some .short)
  else none

/-- R92: a suspect is asked for only while the unit is OPEN. -/
def State.askSuspect (u w : Nat) (cause : SuspectCause) (s : State) : State :=
  if s.unitStatus? u = some .isOpen then s.addSuspect u w cause else s

/-- R91 to R93: the consequence of an outcome. -/
def State.bondConsequence (o : BondOutcome) (saturated : Bool) (u w : Nat) (s : State) : State :=
  match o, saturated with
  | .crush, _ => s.requestReject u .bondFail
  | .short, true => s.requestReject u .bondFail
  | .short, false => if s.pullDownstream then s.askSuspect u w .shortSink else s.requestReject u .bondFail
  | .sinkMet, true => s.askSuspect u w .saturated
  | .timed, true => s.askSuspect u w .saturated
  | .fast, true => s.askSuspect u w .saturated
  | _, _ => s

/-- R90: the bond ends: the demand goes to 0, the force is released, the values pass to the last bond, and a FAST bond is
counted (R91). -/
def State.closeBond (b : Bond) (o : BondOutcome) (s : State) : State :=
  { s with
    energy := { s.energy with
      bond := none
      lastBond := some ⟨b.bondClass, b.side, b.power, b.saturated, o, b.samples, b.sink, b.generator⟩
      fastCount := if o = .fast then bump Config.runningCap s.energy.fastCount else s.energy.fastCount }
    ports := { s.ports with ultrasonic := 0, bondForce := none } }

/-- R72, R73, R75, R76: the phase a bond's end opens: LOOPING with its lift, or TAILING with its rise, the clamp open. DEDUCED
(notes/assumptions/64): the loop height stands above the stage surface, as the search height does. -/
def State.afterBond (side : Side) (f : WireInFlight) (s : State) : State :=
  match side with
  | .first =>
    { s with
      wire := { s.wire with cycle := .looping, awaits := .lift }
      ports := { s.ports with
        z := .moveTo (s.setting (fun p => (profileOf p f.profile).loopHeight) 0)
        clampClosed := false } }
  | .second =>
    { s with
      wire := { s.wire with cycle := .tailing, awaits := .tailRise }
      ports := { s.ports with z := .riseBy (s.head (·.tailAllowance)), clampClosed := false } }

/-- BOND_SAMPLE (R89 to R93): a sample is taken and judged at once. -/
def execBondSample (z : Option Int) (generator : Nat) (s : State) : Host.Outcome State Fault Refusal :=
  .next <|
    match s.energy.bond, s.wire.inFlight with
    | some b, some f =>
      if s.wire.bonding then
        let b' := b.sampled z generator
        match judgeSample (s.bondSet b'.bondClass b'.side) b'.samples b'.sink with
        | some o => ((s.closeBond b' o).bondConsequence o b'.saturated f.unit f.wire).afterBond b'.side f
        | none => { s with energy := { s.energy with bond := some b' } }
      else s
    | _, _ => s

/-! ## Trims (R95 to R99) -/

/-- R96: what a result asks of the two trims. -/
def trimDelta (o : PullOutcome) (b : BreakCode) : Int × Int :=
  match o, b with
  | .lift1, _ => (2, 0)
  | .lift2, _ => (0, 2)
  | .low, .neck => (-1, 0)
  | .low, .heel => (0, -1)
  | .failNd, .ballLift => (2, 0)
  | .failNd, .stitchLift => (0, 2)
  | .failNd, .neck => (-1, 0)
  | .failNd, .heel => (0, -1)
  | _, _ => (0, 0)

/-- R98: a change that would carry a trim beyond its limits. -/
def beyondLimit (d t : Int) : Bool := decide (Config.trimLimit < t + d ∨ t + d < -Config.trimLimit)

/-- R98: a trim changed by `d`, held at its limits. -/
def moveTrim (d t : Int) : Int := max (-Config.trimLimit) (min Config.trimLimit (t + d))

/-- R97: one step toward 0. -/
def decayTrim (t : Int) : Int := if 0 < t then t - 1 else if t < 0 then t + 1 else 0

/-- R97: HELD and PASS are the good results. -/
def isGoodResult (o : PullOutcome) : Bool := decide (o = .held ∨ o = .pass)

/-- R96 to R98: a class's entry after a result. -/
def TrimEntry.taught (o : PullOutcome) (b : BreakCode) (e : TrimEntry) : TrimEntry :=
  if o = .noHook then e
  else if isGoodResult o then
    if e.goodRun + 1 < Config.decayAt then { e with goodRun := e.goodRun + 1 }
    else ⟨decayTrim e.first, decayTrim e.second, 0⟩
  else ⟨moveTrim (trimDelta o b).1 e.first, moveTrim (trimDelta o b).2 e.second, 0⟩

/-- R98: whether a result carries one of a class's trims beyond its limits. -/
def TrimEntry.limitPassed (o : PullOutcome) (b : BreakCode) (e : TrimEntry) : Bool :=
  beyondLimit (trimDelta o b).1 e.first || beyondLimit (trimDelta o b).2 e.second

/-- R95: whether the energy unit takes a PULL_RESULT. -/
def State.takesResult (s : State) (r : PullResult) : Bool :=
  decide (s.straps.role = .head ∧ r.bondedBy = s.straps.station ∧ r.bondClass ≤ 15 ∧ s.control.station ≠ .boot) &&
    s.program?.isSome

/-- R96 to R98: the trims of the result's class. -/
def State.updateTrims (r : PullResult) (s : State) : State :=
  let old := s.energy.trimOf r.bondClass
  let new := old.taught r.outcome r.breakCode
  let s1 : State := { s with energy := { s.energy with trims := s.energy.trims.set r.bondClass new } }
  let s2 := if new = old then s1 else s1.event .trimChange
  if old.limitPassed r.outcome r.breakCode then s2.raiseAlarm Source.trimLimit (.bondClass r.bondClass) else s2

/-- R95 to R99: the energy unit at a PULL_RESULT. -/
def State.learnResult (r : PullResult) (s : State) : State :=
  if s.takesResult r then
    let s1 := s.updateTrims r
    if r.confirmFail then s1.raiseAlarm Source.processDrift (.unitWire r.unit r.wire) else s1
  else s

end Sys2Proof.Machine
end

