-- ==== Sys2Proof/Machine/Formats.lean ====
section
/-! DEFINITION. What the station's partners see byte by byte (spec/12_formats.md): the two checks, the line frame and its
payloads, the codes, and the image header. Numbers stand with their most significant byte first (R182). -/

namespace Sys2Proof.Machine

/-! ## Bytes and checks (R182) -/

/-- One byte of a number. -/
def byteOf (n : Nat) : Byte := BitVec.ofNat 8 n

/-- A number of two bytes. -/
def bytes2 (n : Nat) : List Byte := [byteOf (n / 256), byteOf n]

/-- The number two bytes hold. -/
def num2 (a b : Byte) : Nat := a.toNat * 256 + b.toNat

/-- A number of four bytes. -/
def bytes4 (n : Nat) : List Byte := [byteOf (n / 16777216), byteOf (n / 65536), byteOf (n / 256), byteOf n]

/-- The number four bytes hold. -/
def num4 (a b c d : Byte) : Nat := ((a.toNat * 256 + b.toNat) * 256 + c.toNat) * 256 + d.toNat

/-- One bit of the CRC-16, most significant bit first. -/
def crc16Bit (c : BitVec 16) : BitVec 16 := if c.msb then (c <<< 1) ^^^ 0x1021#16 else c <<< 1

/-- Apply a step a number of times. -/
def iterate {α : Type} (f : α → α) : Nat → α → α
  | 0, x => x
  | n + 1, x => iterate f n (f x)

/-- The CRC-16 after one more byte. -/
def crc16Byte (c : BitVec 16) (b : Byte) : BitVec 16 := iterate crc16Bit 8 (c ^^^ (b.setWidth 16 <<< 8))

/-- R182: the CRC-16 of a header and payload. -/
def crc16 (l : List Byte) : BitVec 16 := l.foldl crc16Byte 0xFFFF#16

/-- One bit of the CRC-32, least significant bit first: the generator 04C11DB7 reflected. -/
def crc32Bit (c : BitVec 32) : BitVec 32 := if c.getLsbD 0 then (c >>> 1) ^^^ 0xEDB88320#32 else c >>> 1

/-- The CRC-32 after one more byte. -/
def crc32Byte (c : BitVec 32) (b : Byte) : BitVec 32 := iterate crc32Bit 8 (c ^^^ b.setWidth 32)

/-- R182: the CRC-32 of an image body. -/
def crc32 (l : List Byte) : BitVec 32 := l.foldl crc32Byte 0xFFFFFFFF#32 ^^^ 0xFFFFFFFF#32

/-! ## Codes (R185) -/

/-- The position of a value in a list of a field's values, in code order from 0. -/
def codeIn {α : Type} [DecidableEq α] (l : List α) (x : α) : Nat := l.idxOf x

def roleCodes : List Role := [.head, .pull]
def stationCodes : List StationState := [.boot, .rollcall, .ready, .run, .paused, .held, .stopped]
def headCodes : List HeadState := [.headOut, .headIn]
def stageCodes : List StageState := [.empty, .feeding, .receiving, .loaded, .finished, .offering, .handing, .unloading]
def classCodes : List (Option AlarmClass) := [none, some .note, some .hold, some .stop]
def alarmStateCodes : List AlarmState := [.clear, .active, .acked]
def outcomeCodes : List (Option PullOutcome) :=
  [none, some .held, some .pass, some .low, some .lift2, some .lift1, some .failNd, some .noHook]
def breakCodes : List BreakCode := [.noBreak, .neck, .span, .heel, .ballLift, .stitchLift, .unknown]
def kindCodes : List PullKind := [.suspect, .plan, .confirm, .audit]
def modeCodes : List PullMode := [.nondestruct, .destruct]
/-- R184: the byte of a single flag; a value other than 0 or 1 names none (notes/assumptions/68). -/
def flagCodes : List Bool := [false, true]
def suspectCodes : List SuspectCause := [.shortSink, .saturated]
/-- R184: reason codes start at 1; any other names no reason (notes/assumptions/68). -/
def reasonCodes : List RefuseReason := [.notNeighbour, .notRunning, .stageBusy]

/-- R185: a unit status and its cause in one byte, the status in the high four bits. -/
def statusByte (s : UnitStatus) : Nat :=
  match s with
  | .isOpen => 0
  | .done => 16
  | .reject c =>
    32 + (codeIn [.noSurface, .nonStick1, .nonStick2, .bondFail, .aborted, .pullFail, .pullSacrifice, .incomplete] c + 1)
  | .skip => 48

/-! ## Payloads (R184) -/

def serialBytes (x : Serial) : List Byte := bytes2 x.magSeq ++ [byteOf x.slot]

/-- Two flags, bit 0 first. -/
def flagByte (a b : Bool) : Nat := (if a then 1 else 0) + (if b then 2 else 0)

/-- The known set, bit k - 1 for station k. -/
def knownByte (l : List Nat) : Nat :=
  (stationNumbers.map fun k => if l.contains k then 2 ^ (k - 1) else 0).sum

/-- R184: detail kind and value, first byte first: a line sequence in the first two value bytes, a peer's station before its source
(notes/assumptions/67). -/
def detailBytes (d : Detail) : List Byte :=
  match d with
  | .none => [0, 0, 0, 0]
  | .unitWire u w => byteOf 1 :: byteOf u :: bytes2 w
  | .station k => [byteOf 2, byteOf k, 0, 0]
  | .lineSeq q => byteOf 3 :: (bytes2 q ++ [0])
  | .slot n => [byteOf 4, byteOf n, 0, 0]
  | .zone n => [byteOf 5, byteOf n, 0, 0]
  | .bondClass n => [byteOf 6, byteOf n, 0, 0]
  | .peer k i => [byteOf 7, byteOf k, byteOf i, 0]

def classByte (c : AlarmClass) : Byte := byteOf (codeIn classCodes (some c))

/-- R184: the summary's three bytes; class and level are 0 beside source 255 (notes/assumptions/66). -/
def summaryBytes (m : Option Summary) : List Byte :=
  match m with
  | some m => [byteOf m.source, classByte m.alarmClass, byteOf m.level]
  | none => [byteOf 255, 0, 0]

/-- R184: the four bytes of a progress entry. -/
def progressBytes (g : Progress) : List Byte :=
  [byteOf g.next, byteOf g.split, byteOf (g.startedBy % 16 + g.finishedBy * 16),
    byteOf (g.next / 256 % 2 + g.split / 256 % 2 * 2)]

/-- R184: the two bytes of a suspect entry. -/
def suspectBytes (x : Suspect) : List Byte :=
  [byteOf (x.unit - 1 + codeIn suspectCodes x.cause * 128), byteOf (x.wire - 1)]

def partBytes (c : PartContent) : List Byte :=
  match c with
  | .header h =>
    serialBytes h.serial ++ bytes2 h.lineSeq ++
      [byteOf (flagByte h.tracked h.dwell + (if h.sample then 4 else 0)), byteOf h.units, byteOf h.segments,
        byteOf h.dropped]
  | .unit e =>
    byteOf (statusByte e.status) :: byteOf (e.pulls * 16 + codeIn outcomeCodes e.worst) :: e.progress.flatMap progressBytes
  | .suspects l => byteOf l.length :: l.flatMap suspectBytes

def resultBytes (r : PullResult) : List Byte :=
  serialBytes r.serial ++ bytes2 r.lineSeq ++ byteOf r.unit :: bytes2 r.wire ++
    [byteOf r.bondClass, byteOf r.bondedBy, byteOf (codeIn kindCodes r.kind * 16 + codeIn modeCodes r.mode),
      byteOf (codeIn outcomeCodes (some r.outcome)), byteOf (codeIn breakCodes r.breakCode)] ++ bytes2 r.force ++
    [byteOf (flagByte r.overrange r.confirmFail)]

/-- R184: the payload of a frame. -/
def payloadBytes : Payload → List Byte
  | .stop => []
  | .restart => []
  | .present p =>
    [byteOf p.station, byteOf (codeIn roleCodes p.role), byteOf (flagByte p.infeed p.outfeed)] ++
      bytes4 p.programId.toNat ++ [byteOf (knownByte p.known)]
  | .alarm p =>
    [byteOf p.source, classByte p.alarmClass, byteOf p.level, byteOf (codeIn alarmStateCodes p.newState)] ++
      detailBytes p.detail ++ summaryBytes p.summary
  | .state p =>
    [byteOf (codeIn stationCodes p.station), byteOf (codeIn headCodes p.head), byteOf (codeIn stageCodes p.stage),
      byteOf (codeIn flagCodes p.ready), byteOf (codeIn classCodes p.highest)]
  | .lineStart => []
  | .offer p =>
    byteOf p.offerNumber :: serialBytes p.serial ++ bytes2 p.lineSeq ++ [byteOf (codeIn flagCodes p.tracked), byteOf p.units]
  | .take p => byteOf p.offerNumber :: serialBytes p.serial ++ bytes2 p.lineSeq
  | .refuse p => [byteOf p.offerNumber, byteOf (codeIn reasonCodes p.reason + 1)]
  | .arrived p => byteOf p.offerNumber :: bytes2 p.lineSeq
  | .record p => byteOf p.number :: partBytes p.content
  | .pullResult p => resultBytes p

/-- R171, R183: the class and kind code of a payload. -/
def payloadCodes : Payload → Nat × Nat
  | .stop => (0, 0)
  | .restart => (1, 1)
  | .present _ => (2, 2)
  | .alarm _ => (2, 3)
  | .state _ => (3, 4)
  | .lineStart => (3, 5)
  | .offer _ => (4, 6)
  | .take _ => (4, 7)
  | .refuse _ => (4, 8)
  | .arrived _ => (4, 9)
  | .record _ => (5, 10)
  | .pullResult _ => (6, 11)

/-- R183: the header and payload of a frame, the part its check covers. -/
def frameBody (f : Frame) : List Byte :=
  [byteOf (payloadCodes f.payload).1, byteOf (payloadCodes f.payload).2, byteOf f.sender, byteOf f.target,
    byteOf (payloadBytes f.payload).length] ++ payloadBytes f.payload

/-- The two bytes of a CRC-16. -/
def crcBytes (l : List Byte) : List Byte := bytes2 (crc16 l).toNat

/-- R183: the bytes of a frame. -/
def frameBytes (f : Frame) : List Byte := frameBody f ++ crcBytes (frameBody f)

/-- R182: the bits of a byte in the order they are sent, most significant bit first. -/
def byteBits (b : Byte) : List Bool := [7, 6, 5, 4, 3, 2, 1, 0].map fun i => b.getLsbD i

/-- R182: the bits of bytes in the order they are sent. -/
def bitsOf (l : List Byte) : List Bool := l.flatMap byteBits

/-- R182, R183: the bits of a frame in the order they are sent. -/
def frameBits (f : Frame) : List Bool := bitsOf (frameBytes f)

/-! ## Receiving (R171, R182) -/

/-- R182: the byte whose bits these are, most significant bit first. -/
def byteOfBits (l : List Bool) : Byte := byteOf (l.foldl (fun n b => n * 2 + b.toNat) 0)

/-- R182: the bytes that bits on the line make, eight by eight. -/
def bytesOfBits : List Bool → List Byte
  | a :: b :: c :: d :: e :: f :: g :: h :: rest => byteOfBits [a, b, c, d, e, f, g, h] :: bytesOfBits rest
  | _ => []

/-- R171: the class of a kind code. -/
def classOfKind (kind : Nat) : Option Nat := [0, 1, 2, 2, 3, 3, 4, 4, 4, 4, 5, 6][kind]?

/-- R184: whether a payload length agrees with its kind; a RECORD part's, with the header layout for part 0 and with one of the other
two for any other part (notes/assumptions/70), a unit part with 1 to 8 progress entries. -/
def lengthAgrees (kind : Nat) (payload : List Byte) : Bool :=
  match kind with
  | 10 =>
    match payload with
    | [] => false
    | n :: _ =>
      if n = 0 then decide (payload.length = 10)
      else decide ((payload.length % 4 = 3 ∧ 7 ≤ payload.length ∧ payload.length ≤ 35) ∨ (payload.length % 2 = 0 ∧ payload.length ≤ 34))
  | _ => decide (([0, 0, 8, 11, 5, 0, 8, 6, 2, 3, 0, 16][kind]?) = some payload.length)

/-- R171, R183: a frame as bytes whose check is good and whose class, kind and payload length agree: its kind, sender, target
and payload. Such a frame is acknowledged. -/
def goodFrame (l : List Byte) : Option (Nat × Nat × Nat × List Byte) :=
  match l with
  | cls :: kind :: sender :: target :: len :: rest =>
    if rest.length = len.toNat + 2 ∧ crcBytes (l.take (len.toNat + 5)) = l.drop (len.toNat + 5) ∧
        classOfKind kind.toNat = some cls.toNat ∧ lengthAgrees kind.toNat (rest.take len.toNat) = true ∧
        1 ≤ sender.toNat ∧ sender.toNat ≤ 8 then
      some (kind.toNat, sender.toNat, target.toNat, rest.take len.toNat)
    else none
  | _ => none

/-- The flag at a bit of a byte. -/
def flagAt (b : Byte) (i : Nat) : Bool := b.getLsbD i

/-- R184: the known set of a byte. -/
def knownOf (b : Byte) : List Nat := stationNumbers.filter fun k => b.getLsbD (k - 1)

/-- R184: the detail its four bytes hold, placed as `detailBytes` does; a kind above 7 names none (notes/assumptions/68), and
unused value bytes are disregarded (notes/assumptions/69). -/
def detailOf (kind a b c : Byte) : Option Detail :=
  match kind.toNat with
  | 0 => some .none
  | 1 => some (.unitWire a.toNat (num2 b c))
  | 2 => some (.station a.toNat)
  | 3 => some (.lineSeq (num2 a b))
  | 4 => some (.slot a.toNat)
  | 5 => some (.zone a.toNat)
  | 6 => some (.bondClass a.toNat)
  | 7 => some (.peer a.toNat b.toNat)
  | _ => none

/-- An alarm class that must be there: code 0, none, names no value here (notes/assumptions/61). -/
def classFrom (b : Byte) : Option AlarmClass := (classCodes[b.toNat]?).join

/-- R182, R184: the summary its three bytes hold; source 255 stands for none, and its class code must name a value all the
same, while its level byte is disregarded (notes/assumptions/66); beside another source code 0 names none
(notes/assumptions/61). -/
def summaryOf (i c l : Byte) : Option (Option Summary) :=
  match classCodes[c.toNat]? with
  | some cls => if i.toNat = 255 then some none else cls.map fun x => some ⟨i.toNat, x, l.toNat⟩
  | none => none

/-- R185: the status and cause of a byte; a cause with another status than REJECT, and REJECT with none, name no value
(notes/assumptions/62). -/
def statusOf (b : Byte) : Option UnitStatus :=
  match b.toNat / 16, b.toNat % 16 with
  | 0, 0 => some .isOpen
  | 1, 0 => some .done
  | 2, n =>
    if n = 0 then none
    else (([.noSurface, .nonStick1, .nonStick2, .bondFail, .aborted, .pullFail, .pullSacrifice, .incomplete] :
      List RejectCause)[n - 1]?).map .reject
  | 3, 0 => some .skip
  | _, _ => none

/-- R184: the progress entries of a unit part; bits 2 to 7 of an entry's last byte are disregarded (notes/assumptions/69). -/
def progressOf : List Byte → Option (List Progress)
  | [] => some []
  | a :: b :: c :: d :: rest =>
    (progressOf rest).map fun l =>
      ⟨a.toNat + (if d.getLsbD 0 then 256 else 0), c.toNat % 16, c.toNat / 16,
        b.toNat + (if d.getLsbD 1 then 256 else 0)⟩ :: l
  | _ => none

/-- R184: the entries of a suspect part; bit 6 of an entry's first byte is disregarded (notes/assumptions/69). -/
def suspectsOf : List Byte → Option (List Suspect)
  | [] => some []
  | a :: b :: rest =>
    (suspectsOf rest).map fun l =>
      ⟨a.toNat % 64 + 1, b.toNat + 1, if a.getLsbD 7 then .saturated else .shortSink⟩ :: l
  | _ => none

/-- R184: a RECORD part of number `n`, its layout told by the number and the length; a count byte that disagrees with the entries is
content that does not fit (notes/assumptions/70). A pull count and a worst outcome that do not go together, and the outcome NO_HOOK,
are taken as they stand (DESIGN CHOICE, notes/assumptions/76). -/
def partOf (n : Nat) (l : List Byte) : Option PartContent :=
  if n = 0 then
    match l with
    | [a, b, c, d, e, f, u, g, x] =>
      some (.header ⟨⟨num2 a b, c.toNat⟩, num2 d e, flagAt f 0, flagAt f 1, flagAt f 2, u.toNat, g.toNat, x.toNat⟩)
    | _ => none
  else if l.length % 2 = 0 then
    match l with
    | st :: po :: rest =>
      match statusOf st, outcomeCodes[po.toNat % 16]?, progressOf rest with
      | some status, some worst, some progress => some (.unit ⟨status, po.toNat / 16, worst, progress⟩)
      | _, _, _ => none
    | _ => none
  else
    match l with
    | n :: rest =>
      match suspectsOf rest with
      | some x => if x.length = n.toNat then some (.suspects x) else none
      | none => none
    | [] => none

/-- R184, R185: the payload its bytes hold, for a kind code; a code that names no value gives none, an outcome code 0 too
(notes/assumptions/61) and a single flag's byte other than 0 or 1 (notes/assumptions/68). Unused bits of a flag byte are disregarded
(notes/assumptions/69), and numbers are handed on as they stand (notes/assumptions/71). -/
def payloadFrom (kind : Nat) (l : List Byte) : Option Payload :=
  match kind, l with
  | 0, [] => some .stop
  | 1, [] => some .restart
  | 2, [st, r, f, a, b, c, d, k] =>
    (roleCodes[r.toNat]?).map fun role =>
      .present ⟨st.toNat, role, flagAt f 0, flagAt f 1, BitVec.ofNat 32 (num4 a b c d), knownOf k⟩
  | 3, [i, c, lv, ns, dk, d1, d2, d3, si, sc, sl] =>
    match classFrom c, alarmStateCodes[ns.toNat]?, detailOf dk d1 d2 d3, summaryOf si sc sl with
    | some cls, some st, some d, some m => some (.alarm ⟨i.toNat, cls, lv.toNat, st, d, m⟩)
    | _, _, _, _ => none
  | 4, [a, b, c, d, e] =>
    match stationCodes[a.toNat]?, headCodes[b.toNat]?, stageCodes[c.toNat]?, flagCodes[d.toNat]?, classCodes[e.toNat]? with
    | some st, some h, some g, some r, some cls => some (.state ⟨st, h, g, r, cls⟩)
    | _, _, _, _, _ => none
  | 5, [] => some .lineStart
  | 6, [n, a, b, c, d, e, t, u] =>
    (flagCodes[t.toNat]?).map fun tr => .offer ⟨n.toNat, ⟨num2 a b, c.toNat⟩, num2 d e, tr, u.toNat⟩
  | 7, [n, a, b, c, d, e] => some (.take ⟨n.toNat, ⟨num2 a b, c.toNat⟩, num2 d e⟩)
  | 8, [n, r] => if r = 0 then none else (reasonCodes[r.toNat - 1]?).map fun x => .refuse ⟨n.toNat, x⟩
  | 9, [n, d, e] => some (.arrived ⟨n.toNat, num2 d e⟩)
  | 10, n :: rest => (partOf n.toNat rest).map fun c => .record ⟨n.toNat, c⟩
  | 11, [a, b, c, d, e, u, w1, w2, cl, bb, km, o, br, f1, f2, fl] =>
    match kindCodes[km.toNat / 16]?, modeCodes[km.toNat % 16]?, (outcomeCodes[o.toNat]?).join, breakCodes[br.toNat]? with
    | some k, some m, some out, some brk =>
      some (.pullResult ⟨⟨num2 a b, c.toNat⟩, num2 d e, u.toNat, num2 w1 w2, cl.toNat, bb.toNat, k, m, out, brk, num2 f1 f2,
        flagAt fl 0, flagAt fl 1⟩)
    | _, _, _, _ => none
  | _, _ => none

/-- R171, R182: the frame that bytes on the line hold, if their check, agreement and codes are good. -/
def decodeFrame (l : List Byte) : Option Frame :=
  match goodFrame l with
  | some (kind, sender, target, payload) => (payloadFrom kind payload).map fun p => ⟨sender, target, p⟩
  | none => none

/-! ## The image header (R186) -/

/-- R186: the fields of an image header. -/
structure ImageHeader where
  format : Nat
  length : Nat
  bodyLength : Nat
  check : BitVec 32
deriving DecidableEq, Repr

/-- R186: the header its twelve bytes hold. -/
def imageHeader (l : List Byte) : Option ImageHeader :=
  match l with
  | a :: b :: c :: d :: e :: f :: g :: h :: i :: j :: k :: m :: _ =>
    some ⟨num2 a b, num2 c d, num4 e f g h, BitVec.ofNat 32 (num4 i j k m)⟩
  | _ => none

end Sys2Proof.Machine
end

