-- ==== Sys2Proof/Machine/Report.lean ====
section
/-! DEFINITION. The report unit (spec/09_strip_reports.md): filing pull results, closing a strip's results, composing its
report, the record port, and the text of a report's lines (R187). -/

namespace Sys2Proof.Machine

/-- Section 5.3: the forward distance from `a` to `b` on the circle of 65535 line sequences. -/
def forwardDistance (a b : Nat) : Nat := (b + 65535 - a) % 65535

/-- Section 5.3: sequence `a` is before sequence `b`. -/
def seqBefore (a b : Nat) : Bool := decide (1 ≤ forwardDistance a b ∧ forwardDistance a b ≤ 32767)

/-- R149: place a result in the entry of its line sequence, where one stands. -/
def fileInto (r : PullResult) : List ReportEntry → List ReportEntry
  | [] => []
  | e :: es =>
    if e.lineSeq = r.lineSeq then
      (if e.lines.length < Config.pullLinePlaces then { e with lines := e.lines ++ [r] }
        else { e with dropped := bump Config.byteCap e.dropped }) :: es
    else e :: fileInto r es

/-- R149: file a result at the OUTFEED station. -/
def State.fileResult (r : PullResult) (s : State) : State :=
  if s.straps.outfeed = false ∨ s.control.station = .boot ∨ r.lineSeq = 0 then s
  else if s.report.table.any (fun e => decide (e.lineSeq = r.lineSeq)) then
    { s with report := { s.report with table := fileInto r s.report.table } }
  else if s.report.table.length < Config.assemblyPlaces then
    { s with report := { s.report with table := s.report.table ++ [⟨r.lineSeq, [r], 0⟩] } }
  else
    State.raiseAlarm Source.reportLoss (.lineSeq r.lineSeq)
      { s with report := { s.report with lost := bump Config.byteCap s.report.lost } }

/-- R150: what an entry counts for when it is lost. -/
def ReportEntry.size (e : ReportEntry) : Nat := e.lines.length + e.dropped

/-- R150, R152: an entry's results are added to the lost count, and REPORT_LOSS is raised. -/
def State.loseEntry (e : ReportEntry) (s : State) : State :=
  State.raiseAlarm Source.reportLoss (.lineSeq e.lineSeq)
    { s with report := { s.report with lost := bumpBy Config.byteCap s.report.lost e.size } }

/-- R150: lose each of a list of entries, in the table's order (notes/assumptions/59). -/
def State.loseEntries : List ReportEntry → State → State
  | [], s => s
  | e :: es, s => (s.loseEntry e).loseEntries es

/-- R150 step 1: free the entries before line sequence `q`. -/
def State.freeOrphans (q : Nat) (s : State) : State :=
  if q = 0 then s
  else
    State.loseEntries (s.report.table.filter fun e => seqBefore e.lineSeq q)
      { s with report := { s.report with table := s.report.table.filter fun e => !seqBefore e.lineSeq q } }

/-- R150 step 2: the strip's own entry, if one stands. -/
def ReportUnit.ownEntry (u : ReportUnit) (q : Nat) : Option ReportEntry :=
  if q = 0 then none else u.table.find? fun e => decide (e.lineSeq = q)

/-- R151: the unit lines, from unit `u` upward. -/
def unitLines : Nat → List UnitEntry → List ReportLine
  | _, [] => []
  | u, e :: es => .unit u e :: unitLines (u + 1) es

/-- R151: the report of a tracked record. -/
def trackedReport (r : StripRecord) (t : TrackedPart) (u : Unloading) (lost : Nat) (pulls : List PullResult)
    (dropped : Nat) : List ReportLine :=
  .trackedHeader r.serial r.lineSeq t.table.length t.segments r.dwell r.sample t.dropped t.suspects.length u.slot u.good
      u.reject lost ::
    (unitLines 1 t.table ++ pulls.map .pull ++
      [.ending r.lineSeq (1 + t.table.length + pulls.length + 1) pulls.length dropped])

/-- R152: the report of an untracked record. -/
def untrackedReport (r : StripRecord) (u : Unloading) (lost : Nat) : List ReportLine :=
  [.untrackedHeader r.serial r.lineSeq r.dwell u.slot 0 0 lost, .ending r.lineSeq 2 0 0]

/-- The composed report takes the reserved place, behind the reports READY or SENDING; the lost count returns to 0. -/
def ReportUnit.place (lines : List ReportLine) (u : ReportUnit) : ReportUnit :=
  { u with ready := u.ready ++ [lines], reserved := false, lost := 0 }

/-- R150 to R152: the report unit closes the strip handed to it by the elevator unit. -/
def State.composeReport (r : StripRecord) (u : Unloading) (s : State) : State :=
  let s1 := s.freeOrphans r.lineSeq
  let own := s1.report.ownEntry r.lineSeq
  let s2 : State := { s1 with report := { s1.report with
    table := s1.report.table.filter fun e => decide (r.lineSeq = 0) || decide (e.lineSeq ≠ r.lineSeq) } }
  match r.tracked with
  | some t =>
    let pulls := (own.map (·.lines)).getD []
    let dropped := (own.map (·.dropped)).getD 0
    { s2 with report := s2.report.place (trackedReport r t u s2.report.lost pulls dropped) }
  | none =>
    let s3 := match own with
      | some e => s2.loseEntry e
      | none => s2
    { s3 with report := s3.report.place (untrackedReport r u s3.report.lost) }

/-! ## The record port (R154) -/

/-- REPORT_SEND_START (R154): an idle port takes the oldest READY report. -/
def execReportSendStart (s : State) : Host.Outcome State Fault Refusal :=
  .next <|
    match s.report.sending, s.report.ready with
    | none, r :: rest => { s with report := { s.report with sending := some r, ready := rest } }
    | _, _ => s

/-- REPORT_SEND_END (R154): the last character has left, and the place becomes FREE. -/
def execReportSendEnd (s : State) : Host.Outcome State Fault Refusal :=
  .next { s with report := { s.report with sending := none } }

end Sys2Proof.Machine
end

