-- ==== Sys2Proof/Machine/Magazines.lean ====
section
/-! DEFINITION. The elevators and magazines (spec/08_magazines.md): slot tables, new magazines, moves, the feeding push and
the unloading push. -/

namespace Sys2Proof.Machine

/-! ## Slots and targets -/

/-- R135: an input slot entry changes. -/
def State.setInputSlot (n : Nat) (v : InputSlot) (s : State) : State :=
  { s with
    elevator := { s.elevator with inputSlots := s.elevator.inputSlots.set (n - 1) v }
    screen := s.screen.raise .slotChange }

/-- R135: an output slot entry changes. -/
def State.setOutputSlot (n : Nat) (v : OutputSlot) (s : State) : State :=
  { s with
    elevator := { s.elevator with outputSlots := s.elevator.outputSlots.set (n - 1) v }
    screen := s.screen.raise .slotChange }

/-- Change the input elevator. -/
def State.setInput (f : Elevator → Elevator) (s : State) : State :=
  { s with elevator := { s.elevator with input := f s.elevator.input } }

/-- Change the output elevator. -/
def State.setOutput (f : Elevator → Elevator) (s : State) : State :=
  { s with elevator := { s.elevator with output := f s.elevator.output } }

/-- Set an elevator's target. -/
def Elevator.aim (p : Place) (e : Elevator) : Elevator := { e with target := some p }

/-- R141: the target becomes the slot after `n`, or EXCHANGE with MAGAZINE_EMPTY raised when the magazine is spent. -/
def State.nextInput (n : Nat) (s : State) : State :=
  if n < s.setting (·.magazine.inputSlots) 0 then s.setInput (Elevator.aim (.slot (n + 1)))
  else (s.setInput (Elevator.aim .exchange)).raiseAlarm Source.magazineEmpty .none

/-- R146: the target becomes the slot after `n`, or EXCHANGE with MAGAZINE_FULL raised when the magazine is full. -/
def State.nextOutput (n : Nat) (s : State) : State :=
  if n < s.setting (·.magazine.outputSlots) 0 then s.setOutput (Elevator.aim (.slot (n + 1)))
  else (s.setOutput (Elevator.aim .exchange)).raiseAlarm Source.magazineFull .none

/-! ## New magazines (R137, R142) -/

/-- R137: the magazine sequence rises by one, from 9999 to 1. -/
def nextMagSeq (n : Nat) : Nat := if n < 9999 then n + 1 else 1

/-- R139: the line sequence counter advances by one, from 65535 to 1. -/
def nextLineSeq (n : Nat) : Nat := if n < 65535 then n + 1 else 1

/-- R137: what a new magazine at the input elevator does. -/
def State.newInputMagazine (s : State) : State :=
  let s1 : State := { s with
    elevator := { s.elevator with
      magSeq := nextMagSeq s.elevator.magSeq
      inputSlots := List.replicate Config.slotPlaces .unknown
      input := s.elevator.input.aim (.slot 1) }
    screen := s.screen.raise .slotChange }
  s1.conditionGone Source.magazineEmpty

/-- R142: what a new magazine at the output elevator does. -/
def State.newOutputMagazine (s : State) : State :=
  let s1 : State := { s with
    elevator := { s.elevator with
      outputSlots := List.replicate Config.slotPlaces .empty
      output := s.elevator.output.aim (.slot 1) }
    screen := s.screen.raise .slotChange }
  s1.conditionGone Source.magazineFull

/-- Apply a step `n` times. -/
def repeatStep (f : State → State) : Nat → State → State
  | 0, s => s
  | n + 1, s => repeatStep f n (f s)

/-- R137: the input elevator's activity becomes IDLE, and the new magazines sensed meanwhile are taken. -/
def State.inputIdle (s : State) : State :=
  let s1 := s.setInput fun e => { e with activity := .idle, deferred := 0 }
  repeatStep State.newInputMagazine s.elevator.input.deferred s1

/-- R142: the output elevator's activity becomes IDLE, and the new magazines sensed meanwhile are taken. -/
def State.outputIdle (s : State) : State :=
  let s1 := s.setOutput fun e => { e with activity := .idle, deferred := 0 }
  repeatStep State.newOutputMagazine s.elevator.output.deferred s1

/-- R137: a push or a release stands in the way of a new magazine. -/
def Elevator.busy (e : Elevator) : Bool := decide (e.activity = .pushing ∨ e.activity = .waitingResume)

/-- R137: the input's magazine-present sensor turns present. -/
def State.senseInput (s : State) : State :=
  if s.straps.infeed = false ∨ s.elevator.input.magazine = true then s
  else
    let s1 := s.setInput fun e => { e with magazine := true }
    if s.elevator.input.busy then s1.setInput fun e => { e with deferred := e.deferred + 1 } else s1.newInputMagazine

/-- R142: the output's magazine-present sensor turns present. -/
def State.senseOutput (s : State) : State :=
  if s.straps.outfeed = false ∨ s.elevator.output.magazine = true then s
  else
    let s1 := s.setOutput fun e => { e with magazine := true }
    if s.elevator.output.busy then s1.setOutput fun e => { e with deferred := e.deferred + 1 } else s1.newOutputMagazine

/-- NEW_MAGAZINE (R137, R142), in every station state. -/
def execNewMagazine (which : LineEnd) (s : State) : Host.Outcome State Fault Refusal :=
  .next <|
    match which with
    | .input => s.senseInput
    | .output => s.senseOutput

/-- MAGAZINE_REMOVED (R137, R142). -/
def execMagazineRemoved (which : LineEnd) (s : State) : Host.Outcome State Fault Refusal :=
  .next <|
    match which with
    | .input =>
      if s.straps.infeed = false ∨ s.elevator.input.magazine = false then s
      else (s.setInput fun e => { e with magazine := false }).raiseAlarm Source.magazineEmpty .none
    | .output =>
      if s.straps.outfeed = false ∨ s.elevator.output.magazine = false then s
      else (s.setOutput fun e => { e with magazine := false }).raiseAlarm Source.magazineFull .none

/-! ## Moves (R136, R138, R142) -/

/-- R136: whether a move of `e` may begin: IDLE, a target that differs from the position, RUN, the pusher of its end at
rest, and a magazine for a move to a slot. -/
def moveMayStart (e : Elevator) (pusher : Pusher) (st : StationState) : Bool :=
  decide (e.activity = .idle ∧ e.target ≠ e.position ∧ st = .run ∧ pusher = .rest) &&
    match e.target with
    | some (.slot _) => e.magazine
    | some .exchange => true
    | none => false

/-- R136: an elevator that begins its move. -/
def Elevator.depart (e : Elevator) : Elevator := { e with activity := .moving, destination := e.target }

/-- R135, R136: the drive's demand for a target, with the direction of its rack. -/
def driveTo (p : Option Place) (d : Direction) : ElevatorDemand :=
  match p with
  | some p => .goTo p d
  | none => .none

/-- ELEVATOR_MOVE_START (R136). -/
def execElevatorMoveStart (which : LineEnd) (s : State) : Host.Outcome State Fault Refusal :=
  .next <|
    match which with
    | .input =>
      if s.straps.infeed && moveMayStart s.elevator.input s.elevator.inputPusher s.control.station then
        { s with
          elevator := { s.elevator with input := s.elevator.input.depart }
          ports := { s.ports with inputDrive := driveTo s.elevator.input.target (s.setting (·.magazine.inputDirection) .up) } }
      else s
    | .output =>
      if s.straps.outfeed && moveMayStart s.elevator.output s.stage.pusher s.control.station then
        { s with
          elevator := { s.elevator with output := s.elevator.output.depart }
          ports := { s.ports with outputDrive := driveTo s.elevator.output.target (s.setting (·.magazine.outputDirection) .up) } }
      else s

/-- R136: an elevator whose drive reports in position. -/
def Elevator.arrive (e : Elevator) : Elevator :=
  { e with activity := .idle, position := e.destination, destination := none }

/-- The slot an elevator stands at as its target, with its magazine present. -/
def Elevator.slotReached (e : Elevator) : Option Nat :=
  match e.position with
  | some (.slot n) => if e.target = e.position ∧ e.magazine = true then some n else none
  | _ => none

/-- R138: the input slot reached is judged: an UNKNOWN one by its sensor, one already judged is passed. -/
def State.judgeInputSlot (present : Bool) (s : State) : State :=
  match s.elevator.input.slotReached with
  | some n =>
    match s.elevator.inputSlots[n - 1]? with
    | some .unknown => if present then s else (s.setInputSlot n .vacant).nextInput n
    | _ => s.nextInput n
  | none => s

/-- R142: the output slot reached is judged: at an EMPTY one the elevator waits, any other is passed. -/
def State.judgeOutputSlot (s : State) : State :=
  match s.elevator.output.slotReached with
  | some n => if s.elevator.outputSlots[n - 1]? = some .empty then s else s.nextOutput n
  | none => s

/-- ELEVATOR_MOVE_END (R136): the position becomes the place the move went to, and the slot reached is judged. -/
def execElevatorMoveEnd (which : LineEnd) (slotSensor : Bool) (s : State) : Host.Outcome State Fault Refusal :=
  .next <|
    match which with
    | .input =>
      if s.elevator.input.activity = .moving then (s.setInput Elevator.arrive).judgeInputSlot slotSensor else s
    | .output =>
      if s.elevator.output.activity = .moving then (s.setOutput Elevator.arrive).judgeOutputSlot else s

/-! ## Feeding (R138 to R141) -/

/-- R138: the slot whose strip may be pushed now: the stage EMPTY, RUN, the magazine present, the elevator IDLE at a slot
not yet judged, its own pusher at rest (DESIGN CHOICE, notes/assumptions/82), and the stage's pusher at rest too, since the stage
takes no push before (R49). A slot the elevator already stands at when a new magazine comes is judged here (notes/assumptions/50). -/
def State.feedSlot? (s : State) : Option Nat :=
  match s.elevator.input.slotReached with
  | some n =>
    if s.straps.infeed = true ∧ s.stage.state = .empty ∧ s.control.station = .run ∧ s.elevator.input.activity = .idle ∧
        s.elevator.inputSlots[n - 1]? = some .unknown ∧ s.elevator.inputPusher = .rest ∧ s.stage.pusher = .rest then
      some n
    else none
  | none => none

/-- FEEDING_PUSH_START (R138, R139): the slot's strip sensor is read again; with the strip gone the slot is VACANT, with it
present the push begins and segments carried is latched. -/
def execFeedingPushStart (slotSensor : Bool) (s : State) : Host.Outcome State Fault Refusal :=
  .next <|
    match s.feedSlot?, s.outfeedStation with
    | some n, some last =>
      if slotSensor then
        let s1 := s.setStage .feeding
        { s1 with elevator := { s1.elevator with
            input := { s1.elevator.input with activity := .pushing, pushTimer := .running s.pushTimeout }
            feeding := some ⟨n, last, s.elevator.magSeq, []⟩
            inputPusher := .driving } }
      else (s.setInputSlot n .vacant).nextInput n
    | _, _ => s

/-- INK_MARK (R139): a marked unit joins the mark set of the push. -/
def execInkMark (unit : Nat) (s : State) : Host.Outcome State Fault Refusal :=
  .next <|
    match s.elevator.feeding with
    | some f =>
      if f.marks.contains unit then s
      else { s with elevator := { s.elevator with feeding := some { f with marks := f.marks ++ [unit] } } }
    | none => s

/-- R139: the feeding push ends with an arrival, in the order of its five steps. -/
def State.feedingEnd (s : State) : State :=
  match s.elevator.feeding, s.program? with
  | some f, some p =>
    let q := nextLineSeq s.elevator.lineSeqCounter
    let s1 : State := { s with elevator := { s.elevator with lineSeqCounter := q } }
    let s2 := s1.setInputSlot f.slot .taken
    let s3 := s2.takeStrip (freshRecord p ⟨f.magSeq, f.slot⟩ q f.segments f.marks) 1
    let s4 : State := { s3 with elevator := { s3.elevator with
      feeding := none
      inputPusher := .rest
      input := { s3.elevator.input with pushTimer := .stopped } } }
    (s4.nextInput f.slot).inputIdle
  | _, _ => s

/-- FEEDING_PUSH_TIMEOUT (R140). -/
def execFeedingPushTimeout (s : State) : Host.Outcome State Fault Refusal :=
  .next <|
    match s.elevator.feeding with
    | some f =>
      if s.stage.state = .feeding then
        let s1 := s.emptyStage.setInputSlot f.slot .misfed
        let s2 : State := { s1 with elevator := { s1.elevator with
          feeding := none
          inputPusher := .returning
          input := { s1.elevator.input with activity := .waitingResume, pushTimer := .expired } } }
        s2.raiseAlarm Source.misfeed (.slot f.slot)
      else s
    | none => s

/-- Whether an entry is ACTIVE: it keeps a release of R50, R54, R140 or R145 waiting. -/
def State.isActive (source : Nat) (s : State) : Bool := decide ((s.alarms.entry source).state = .active)

/-- R140: at RESUME an input elevator in WAITING_RESUME is released to the next slot. -/
def State.releaseInput (s : State) : State :=
  if s.elevator.input.activity = .waitingResume ∧ s.isActive Source.misfeed = false then
    match s.elevator.input.position with
    | some (.slot n) => (s.nextInput n).inputIdle
    | _ => s.inputIdle
  else s

/-! ## Unloading (R142 to R146) -/

/-- R49, R143: the slot into which a FINISHED stage begins unloading, its pusher at rest. -/
def State.unloadSlot? (s : State) : Option Nat :=
  if s.straps.outfeed = true ∧ s.stage.state = .finished ∧ s.unloadReady = true ∧ s.stage.pusher = .rest then
    s.outputSlot?
  else none

/-- R144: an unloading push begins. -/
def State.startUnloadPush (s : State) : State :=
  { s with
    stage := { s.stage with pusher := .driving }
    elevator := { s.elevator with
      output := { s.elevator.output with activity := .pushing, pushTimer := .running s.pushTimeout } } }

/-- UNLOAD_START (R143): the output slot's strip sensor is read; a slot in use is BLOCKED, a free one takes the strip. -/
def execUnloadStart (slotSensor : Bool) (s : State) : Host.Outcome State Fault Refusal :=
  .next <|
    match s.unloadSlot?, s.stage.record with
    | some n, some r =>
      if slotSensor then
        ((s.setOutputSlot n .blocked).raiseAlarm Source.slotBlocked (.slot n)).nextOutput n
      else
        let r' := r.closed
        let s1 := s.setStage .unloading
        let s2 : State := { s1 with
          stage := { s1.stage with record := some r' }
          report := { s1.report with reserved := true }
          elevator := { s1.elevator with unloading := some ⟨n, r'.goodCount, r'.rejectCount⟩ } }
        s2.startUnloadPush
    | _, _ => s

/-- R144: the unloading push ends with the strip gone, in the order of its four steps. `pusher` is the stage pusher
afterwards (notes/assumptions/19). -/
def State.finishUnload (pusher : Pusher) (s : State) : State :=
  match s.elevator.unloading, s.stage.record with
  | some u, some r =>
    let s1 := s.setOutputSlot u.slot (.filled r.serial u.good u.reject)
    let s2 := (s1.composeReport r u).emptyStage
    let s3 : State := { s2 with
      stage := { s2.stage with pusher := pusher }
      elevator := { s2.elevator with
        unloading := none
        output := { s2.elevator.output with pushTimer := .stopped } } }
    (s3.nextOutput u.slot).outputIdle
  | _, _ => s

/-- UNLOADING_PUSH_TIMEOUT (R145). -/
def execUnloadingPushTimeout (s : State) : Host.Outcome State Fault Refusal :=
  .next <|
    match s.elevator.unloading with
    | some u =>
      if s.stage.state = .unloading ∧ s.elevator.output.activity = .pushing then
        let s1 : State := { s with
          stage := { s.stage with pusher := .returning }
          elevator := { s.elevator with
            output := { s.elevator.output with activity := .waitingResume, pushTimer := .expired } } }
        s1.raiseAlarm Source.misfeed (.slot u.slot)
      else s
    | none => s

/-- R145: at RESUME an output elevator in WAITING_RESUME reads the stage's sensors. -/
def State.releaseOutput (sensors : StripSensors) (s : State) : State :=
  if s.elevator.output.activity = .waitingResume ∧ s.isActive Source.misfeed = false then
    match sensors.exit, sensors.arrival with
    | true, _ => s
    | false, false => s.finishUnload s.stage.pusher
    | false, true => s.outputIdle
  else s

/-- R142, R145: the slot of a new unloading push: the one the elevator stands at as its target. -/
def State.retrySlot? (s : State) : Option Nat :=
  if s.stage.state = .unloading ∧ s.runOrPaused = true ∧ s.elevator.output.activity = .idle ∧ s.stage.pusher = .rest then
    s.elevator.output.slotReached
  else none

/-- UNLOADING_PUSH_RETRY (R145): a new unloading push begins; the slot sensor is not read again. -/
def execUnloadingPushRetry (s : State) : Host.Outcome State Fault Refusal :=
  .next <|
    match s.retrySlot?, s.elevator.unloading with
    | some n, some u =>
      State.startUnloadPush { s with elevator := { s.elevator with unloading := some { u with slot := n } } }
    | _, _ => s

end Sys2Proof.Machine
end

