-- ==== Sys2Proof/Machine/Work.lean ====
section
/-! DEFINITION. What work a strip holds for the station's working block: the next wire of a HEAD (R65, R106) and the next
pull of a PULL station (R116 to R120), and which columns have work (R41). -/

namespace Sys2Proof.Machine

/-! ## Wires -/

/-- R106: this station works segment `k`: it is a HEAD with its head IN, and the segment is its own or that of a lower
station whose spare it is. -/
def State.worksSegment (s : State) (p : Program) (k : Nat) : Bool :=
  decide (s.straps.role = .head ∧ s.control.head = .headIn) &&
    (decide (k = s.straps.station) || (decide (k < s.straps.station) && decide (spareOf p k = s.straps.station)))

/-- R65: the lowest next wire, with its segment, among the segments this station works that are incomplete on a unit, over
the unit's progress entries from segment `k` upward. -/
def State.lowestWire (s : State) (p : Program) : Nat → List Progress → Option (Nat × Nat)
  | _, [] => none
  | k, g :: rest =>
    let later := s.lowestWire p (k + 1) rest
    if s.worksSegment p k && !segmentComplete p k g then
      match later with
      | some (w, j) => if w < g.next then some (w, j) else some (g.next, k)
      | none => some (g.next, k)
    else later

/-- R65: the next wire on unit `u`: its unit, wire and segment. -/
def State.wireOnUnit (s : State) (p : Program) (t : TrackedPart) (u : Nat) : Option (Nat × Nat × Nat) :=
  match t.unit? u with
  | some e =>
    if e.status = .isOpen then (s.lowestWire p 1 e.progress).map fun (w, k) => (u, w, k) else none
  | none => none

/-- R65: the next wire of column `c`. -/
def State.nextWire (s : State) (c : Nat) : Option (Nat × Nat × Nat) :=
  match s.program?, s.tracked? with
  | some p, some t => (columnUnits p.rows c).findSome? (s.wireOnUnit p t)
  | _, _ => none

/-! ## Pulls -/

/-- A pull of the work list: unit, wire, kind, mode (R116). -/
structure PullChoice where
  unit : Nat
  wire : Nat
  kind : PullKind
  mode : PullMode
deriving DecidableEq, Repr

/-- R117: a unit takes pulls while it is OPEN or DONE. -/
def pullable (e : UnitEntry) : Bool := decide (e.status = .isOpen ∨ e.status = .done)

/-- R118: the pending confirm qualifies on a unit. -/
def State.confirmQualifies (s : State) (p : Program) (q : Nat) (e : UnitEntry) : Option PendingConfirm :=
  match s.pull.pending with
  | some c =>
    if s.pull.confirmTried = false ∧ c.origin ≠ q ∧ pullable e = true ∧ bondedBy p e c.wire = c.bondedBy then some c
    else none
  | none => none

/-- R119: the audit candidate found from the cursor among `n` wires still to look at. -/
def State.candidateFrom (s : State) (p : Program) (u : Nat) (e : UnitEntry) : Nat → Nat → Option Nat
  | _, 0 => none
  | w, n + 1 =>
    if s.pull.pairs.contains (u, w) = false ∧ bondedBy p e w ≠ 0 then some w
    else s.candidateFrom p u e (if w < p.wires.length then w + 1 else 1) n

/-- R119: the audit candidate on a unit. -/
def State.auditCandidate (s : State) (p : Program) (u : Nat) (e : UnitEntry) : Option Nat :=
  s.candidateFrom p u e s.pull.cursor p.wires.length

/-- R119: a unit is DONE and the strip has audits left; the spacing timer is asked apart. -/
def State.auditWanted (s : State) (p : Program) (e : UnitEntry) : Bool :=
  decide (e.status = .done ∧ s.pull.auditCount < p.pull.auditMax)

/-- R119: the audit spacing timer has expired. -/
def State.spacingExpired (s : State) : Bool := decide (s.pull.spacing = .expired)

/-- R119: the audit pull a unit is open for. -/
def State.openAudit (s : State) (p : Program) (u : Nat) (e : UnitEntry) : Option PullChoice :=
  if s.auditWanted p e && s.spacingExpired then
    (s.auditCandidate p u e).map fun w => ⟨u, w, .audit, .destruct⟩
  else none

/-- R115, R116: the plan pulls on unit `u`, in plan order. -/
def planPulls (p : Program) (u : Nat) : List PullChoice :=
  (p.plan.take p.planCount).filterMap fun x =>
    match x.mode with
    | some m => if x.unit = u then some ⟨u, x.wire, .plan, m⟩ else none
    | none => none

/-- R116: the work list of unit `u`. -/
def State.workList (s : State) (p : Program) (r : StripRecord) (t : TrackedPart) (u : Nat) (e : UnitEntry) :
    List PullChoice :=
  let suspects : List PullChoice :=
    (t.suspects.filter fun x => decide (x.unit = u)).map fun x => ⟨u, x.wire, .suspect, .nondestruct⟩
  let confirm : List PullChoice :=
    match s.confirmQualifies p r.lineSeq e with
    | some c => [⟨u, c.wire, .confirm, .destruct⟩]
    | none => []
  let plan := if r.sample && s.pull.planOn then planPulls p u else []
  let audit := if p.pull.auditMode = .every then (s.openAudit p u e).toList else []
  suspects ++ confirm ++ plan ++ audit

/-- R117: a pull of the work list is open. -/
def State.pullOpen (s : State) (p : Program) (e : UnitEntry) (c : PullChoice) : Bool :=
  pullable e && !s.pull.pairs.contains (c.unit, c.wire) && decide (bondedBy p e c.wire ≠ 0)

/-- R117: the first open pull on unit `u`. -/
def State.pullOnUnit (s : State) (p : Program) (r : StripRecord) (t : TrackedPart) (u : Nat) : Option PullChoice :=
  match t.unit? u with
  | some e => (s.workList p r t u e).find? (s.pullOpen p e)
  | none => none

/-- R117: the next pull of column `c`. -/
def State.nextPull (s : State) (c : Nat) : Option PullChoice :=
  match s.program?, s.stage.record with
  | some p, some r =>
    match r.tracked with
    | some t => (columnUnits p.rows c).findSome? (s.pullOnUnit p r t)
    | none => none
  | _, _ => none

/-- R119: in mode EVERY a column has work while the spacing timer keeps back an audit that would be chosen on it. -/
def State.auditHeld (s : State) (c : Nat) : Bool :=
  match s.program?, s.tracked? with
  | some p, some t =>
    decide (p.pull.auditMode = .every) && !s.spacingExpired &&
      (columnUnits p.rows c).any fun u =>
        match t.unit? u with
        | some e => s.auditWanted p e && (s.auditCandidate p u e).isSome
        | none => false
  | _, _ => false

/-- R120: in mode WAIT, the audit on the first unit open for one, in unit-index order, while the stage waits. -/
def State.waitAudit (s : State) : Option PullChoice :=
  match s.program?, s.tracked? with
  | some p, some t =>
    if p.pull.auditMode = .wait ∧ s.stageWaits = true then
      (countFrom 1 t.table.length).findSome? fun u =>
        match t.unit? u with
        | some e => s.openAudit p u e
        | none => none
    else none
  | _, _ => none

/-! ## Columns -/

/-- R41: column `c` has work for this station's working block. -/
def State.columnHasWork (s : State) (c : Nat) : Bool :=
  match s.straps.role with
  | .head => (s.nextWire c).isSome
  | .pull => (s.nextPull c).isSome || s.auditHeld c

/-- R41: the lowest-numbered column that has work. -/
def State.workColumn (s : State) : Option Nat := (countFrom 1 s.columns).find? s.columnHasWork

end Sys2Proof.Machine
end

