-- ==== Sys2Proof/Machine/Pull.lean ====
section
/-! DEFINITION. The pull unit (spec/07_pull_verification.md): the judgement of the plan, the start of a pull, its phases,
and the making of a result. -/

namespace Sys2Proof.Machine

/-! ## Choosing (R119 to R121) -/

/-- R41, R121: the next pull of the current column, where the stage would have that column worked. -/
def State.currentPull (s : State) : Option PullChoice :=
  if s.workColumn = some s.stage.column then s.nextPull s.stage.column else none

/-- R120: the audit of mode WAIT, where its unit lies in the current column. -/
def State.currentWaitAudit (s : State) : Option PullChoice :=
  match s.waitAudit with
  | some c => if unitColumn s.rows c.unit = s.stage.column then some c else none
  | none => none

/-- R121: the pull a cycle may begin on: in LOADED the next pull, in FINISHED an audit of mode WAIT. -/
def State.pullChoice (s : State) : Option PullChoice :=
  match s.stage.state with
  | .loaded => s.currentPull
  | .finished => s.currentWaitAudit
  | _ => none

/-- AUDIT_WAIT_CHOOSE (R120): the pull unit asks the stage for an index motion to the audit's column. -/
def execAuditWaitChoose (s : State) : Host.Outcome State Fault Refusal :=
  .next <|
    match s.waitAudit with
    | some c =>
      if s.straps.role = .pull ∧ s.control.station = .run ∧ s.stage.indexMotion = none ∧ s.pull.cycle = .idle ∧
          unitColumn s.rows c.unit ≠ s.stage.column then
        { s with
          stage := { s.stage with indexMotion := some (unitColumn s.rows c.unit), working := false }
          ports := { s.ports with index := .goTo (unitColumn s.rows c.unit) } }
      else s
    | none => s

/-- AUDIT_SPACING_EXPIRY (R119). -/
def execAuditSpacingExpiry (s : State) : Host.Outcome State Fault Refusal :=
  .next { s with pull := { s.pull with spacing := .expired } }

/-! ## The phases of a pull (R121, R122) -/

/-- R122: the profile's loop height of wire `w`. -/
def State.loopHeightOf (s : State) (w : Nat) : Nat :=
  s.setting (fun p => match wireRow? p w with
    | some r => (profileOf p r.profile).loopHeight
    | none => 0) 0

/-- R122: the hook height of wire `w`. -/
def State.hookHeight (s : State) (w : Nat) : Nat := s.loopHeightOf w + s.setting (·.pull.hookClearance) 0

/-- R122: the hook level of wire `w`, not below 0. -/
def State.hookLevel (s : State) (w : Nat) : Nat := s.loopHeightOf w - s.setting (·.pull.hookDepth) 0

/-- R122: the hook point of a wire, floors of half the sums. -/
def hookPoint (r : WireRow) : Int × Int := ((r.x1 + r.x2) / 2, (r.y1 + r.y2) / 2)

/-- R116, R121: the pull in flight of a choice. -/
def pullInFlight (p : Program) (e : UnitEntry) (c : PullChoice) : PullInFlight :=
  ⟨c.unit, c.wire, wireClass p c.wire, bondedBy p e c.wire, c.kind, c.mode, none, 0, 0, false⟩

/-- R122: the move to the hook point and hook height. -/
def State.moveToWire (p : Program) (c : PullChoice) (s : State) : State :=
  let h := hookPoint ((wireRow? p c.wire).getD ⟨0, 0, 0, 0, 0, 0⟩)
  { s with ports := { s.ports with
    xy := .moveTo h.1 (((unitRow p.rows c.unit : Int) - 1) * (p.head.rowPitch : Int) + h.2)
    z := .moveTo (s.hookHeight c.wire) } }

/-- PULL_CYCLE_START (R121, R122). -/
def execPullCycleStart (s : State) : Host.Outcome State Fault Refusal :=
  .next <|
    if s.straps.role = .pull ∧ s.pull.cycle = .idle ∧ s.cycleMayStart = true ∧ s.resultWaiting = false then
      match s.program?, s.pullChoice with
      | some p, some c =>
        match s.unit? c.unit with
        | some e =>
          State.moveToWire p c { s with
            stage := { s.stage with working := s.stage.working || decide (s.stage.state = .loaded) }
            pull := { s.pull with cycle := .toWire, inFlight := some (pullInFlight p e c) } }
        | none => s
      | _, _ => s
    else s

/-- TO_WIRE_IN_POSITION (R122). -/
def execToWireInPosition (s : State) : Host.Outcome State Fault Refusal :=
  .next <|
    match s.pull.inFlight with
    | some f =>
      if s.pull.cycle = .toWire then
        { s with
          pull := { s.pull with cycle := .hooking }
          ports := { s.ports with z := .moveTo (s.hookLevel f.wire) } }
      else s
    | none => s

/-- HOOK_ENGAGEMENT (R122): the next sample is the tare, and the lift begins. -/
def execHookEngagement (s : State) : Host.Outcome State Fault Refusal :=
  .next <|
    match s.pull.inFlight with
    | some f =>
      if s.pull.cycle = .hooking then
        { s with
          pull := { s.pull with cycle := .lifting, inFlight := some { f with tare := none } }
          ports := { s.ports with z := .liftTo (s.setting (·.pull.liftTravel) 0) } }
      else s
    | none => s

/-! ## Results (R129 to R133) -/

/-- R133: the outcomes that are failures. -/
def isFailure (o : PullOutcome) : Bool := decide (o = .failNd ∨ o = .low ∨ o = .lift1 ∨ o = .lift2)

/-- R130: the outcomes of a destructive failure. -/
def breaksDoubt (o : PullOutcome) : Bool := decide (o = .low ∨ o = .lift1 ∨ o = .lift2)

/-- R129: the result of a pull in flight. -/
def resultOf (r : StripRecord) (f : PullInFlight) (o : PullOutcome) (b : BreakCode) : PullResult :=
  ⟨r.serial, r.lineSeq, f.unit, f.wire, f.bondClass, f.bondedBy, f.kind, f.mode, o, b, f.peak, f.overrange,
    decide (f.kind = .confirm) && breaksDoubt o⟩

/-- R129 step 1: the pair enters the pulled-pair list. -/
def State.enterPair (x : PullResult) (s : State) : State :=
  { s with pull := { s.pull with pairs := s.pull.pairs ++ [(x.unit, x.wire)] } }

/-- R124, R125: the cause for which an outcome rejects its unit, if it does. -/
def rejectOf (o : PullOutcome) : Option RejectCause :=
  match o with
  | .held => none
  | .noHook => none
  | .pass => some .pullSacrifice
  | .failNd => some .pullFail
  | .low => some .pullFail
  | .lift1 => some .pullFail
  | .lift2 => some .pullFail

/-- R129 step 2: the pull mark and the change of status. -/
def State.markUnit (x : PullResult) (s : State) : State :=
  if x.outcome = .noHook then s
  else
    let s1 := s.pullMark x.unit x.outcome
    match rejectOf x.outcome with
    | some cause => s1.requestPullReject x.unit cause
    | none => s1

/-- R130: the pending confirm after a result. -/
def confirmAfter (x : PullResult) (slot : Option PendingConfirm) : Option PendingConfirm :=
  match x.kind with
  | .confirm => if x.outcome = .pass ∨ breaksDoubt x.outcome = true then none else slot
  | .suspect => slot
  | _ =>
    if x.mode = .destruct ∧ breaksDoubt x.outcome = true ∧ slot = none then some ⟨x.wire, x.bondedBy, x.lineSeq⟩ else slot

/-- R119: the wire index after `w`, from W to 1. -/
def cursorAfter (wires w : Nat) : Nat := if w < wires then w + 1 else 1

/-- R129 step 3: the confirm slot with CONFIRM_FAIL, and what an audit changes. -/
def State.settleConfirm (x : PullResult) (s : State) : State :=
  let s1 : State := { s with pull := { s.pull with
    pending := confirmAfter x s.pull.pending
    confirmTried := s.pull.confirmTried || decide (x.kind = .confirm) } }
  let s2 := if x.confirmFail then s1.raiseAlarm Source.confirmFail (.unitWire x.unit x.wire) else s1
  if x.kind = .audit then
    { s2 with pull := { s2.pull with
      cursor := cursorAfter (s2.setting (·.wires.length) 0) x.wire
      auditCount := s2.pull.auditCount + 1
      spacing := .running (s2.setting (·.pull.auditSpacing) 0) } }
  else s2

/-- R129 step 4, R126: the hook-miss count. -/
def State.countHookMiss (x : PullResult) (s : State) : State :=
  if x.outcome = .noHook then
    if s.pull.hookMiss + 1 < Config.hookMissAt then { s with pull := { s.pull with hookMiss := s.pull.hookMiss + 1 } }
    else
      State.raiseAlarm Source.hookMiss (.unitWire x.unit x.wire) { s with pull := { s.pull with hookMiss := 0 } }
  else { s with pull := { s.pull with hookMiss := 0 } }

/-- R132: the pull log with a result, a ring of 64. -/
def logResult (x : PullResult) (l : List PullResult) : List PullResult :=
  if l.length < Config.pullLogPlaces then l ++ [x] else l.drop 1 ++ [x]

/-- R133: the failure log and the discard counter after a result. -/
def PullUnit.logFailure (x : PullResult) (u : PullUnit) : PullUnit :=
  if isFailure x.outcome then
    if u.failures.length < Config.failureLogPlaces then { u with failures := u.failures ++ [x] }
    else { u with discards := bump Config.byteCap u.discards }
  else u

/-- R129 step 5: the logs. -/
def State.enterLogs (x : PullResult) (s : State) : State :=
  { s with pull := PullUnit.logFailure x { s.pull with log := logResult x s.pull.log } }

/-- R131: a frame of class 6 joins the queue at once. -/
def LineUnit.bulkJoins (l : LineUnit) : Bool := l.bulkRoom && l.waiting.isEmpty

/-- R129 step 6, R131: the result is broadcast, and handed to the station's own report unit when it is queued. -/
def State.sendResult (x : PullResult) (s : State) : State :=
  let s1 := s.send 0 (.pullResult x)
  if s.line.bulkJoins then s1.fileResult x else s1

/-- R129: a result and its effects, in order. -/
def State.makeResult (x : PullResult) (s : State) : State :=
  ((((((s.enterPair x).markUnit x).settleConfirm x).countHookMiss x).enterLogs x).sendResult x).event .pullDone

/-- R127: the cycle enters RELEASING. -/
def State.enterReleasing (f : PullInFlight) (s : State) : State :=
  { s with
    pull := { s.pull with cycle := .releasing, holdTimer := .stopped }
    ports := { s.ports with
      xy := .hookClear (s.setting (·.pull.hookClearance) 0)
      z := .unhook (s.hookLevel f.wire) (s.head (·.safeHeight)) } }

/-- R127: an outcome is decided. -/
def State.decidePull (f : PullInFlight) (o : PullOutcome) (b : BreakCode) (s : State) : State :=
  match s.stage.record with
  | some r => (s.makeResult (resultOf r f o b)).enterReleasing f
  | none => s.enterReleasing f

/-! ## Force and outcomes (R123 to R126) -/

/-- R123: the force of a sample before its limit, in cgf. -/
def rawForce (gain : Nat) (tare raw : Nat) : Nat := (Int.tdiv (((raw : Int) - tare) * gain) 4096).toNat

/-- R123: a pull in flight after a sample. -/
def PullInFlight.sampled (gain tare raw : Nat) (f : PullInFlight) : PullInFlight :=
  let force := min 60000 (rawForce gain tare raw)
  { f with
    force := force
    peak := max f.peak force
    overrange := f.overrange || decide (60000 < rawForce gain tare raw) }

/-- R123: a break shows. -/
def PullInFlight.breakSeen (f : PullInFlight) : Bool :=
  decide (Config.hookPeak ≤ f.peak ∧ f.force < f.peak / 4)

/-- R123: the break code a locator code gives. -/
def breakOf (c : LocatorCode) : BreakCode :=
  match c with
  | .neck => .neck
  | .span => .span
  | .heel => .heel
  | .ballLift => .ballLift
  | .stitchLift => .stitchLift
  | .other => .unknown

/-- R125: PASS or LOW, by the peak. -/
def passOrLow (pullMin peak : Nat) : PullOutcome := if pullMin ≤ peak then .pass else .low

/-- R124, R125: the outcome of a break. -/
def breakOutcome (mode : PullMode) (pullMin peak : Nat) (b : BreakCode) : PullOutcome :=
  match mode with
  | .nondestruct => .failNd
  | .destruct =>
    match b with
    | .ballLift => .lift1
    | .stitchLift => .lift2
    | _ => passOrLow pullMin peak

/-- R124 to R126: the outcome at the lift travel limit. -/
def limitOutcome (mode : PullMode) (pullMin peak : Nat) : PullOutcome :=
  if peak < Config.hookPeak then .noHook
  else
    match mode with
    | .nondestruct => .failNd
    | .destruct => passOrLow pullMin peak

/-- R85: the pull test force of a class. -/
def State.pullTestOf (s : State) (c : Nat) : Nat := s.setting (fun p => (classOf p c).pullTest) 0

/-- R85: the pull minimum force of a class. -/
def State.pullMinOf (s : State) (c : Nat) : Nat := s.setting (fun p => (classOf p c).pullMin) 0

/-- R123 to R125: a sample is judged: a break decides the pull, and the test force ends the lift of a nondestructive one. -/
def State.judgePullSample (f : PullInFlight) (locator : LocatorCode) (s : State) : State :=
  let s1 : State := { s with pull := { s.pull with inFlight := some f } }
  if f.breakSeen then
    s1.decidePull f (breakOutcome f.mode (s.pullMinOf f.bondClass) f.peak (breakOf locator)) (breakOf locator)
  else if f.mode = .nondestruct ∧ s.pull.cycle = .lifting ∧ s.pullTestOf f.bondClass ≤ f.force then
    { s1 with
      pull := { s1.pull with cycle := .holding, holdTimer := .running (s.setting (·.pull.holdTime) 0) }
      ports := { s1.ports with z := .holdPosition } }
  else s1

/-- LOAD_CELL_SAMPLE (R122 to R125). -/
def execLoadCellSample (raw : Nat) (locator : LocatorCode) (s : State) : Host.Outcome State Fault Refusal :=
  .next <|
    match s.pull.inFlight with
    | some f =>
      if s.pull.cycle = .lifting ∨ s.pull.cycle = .holding then
        match f.tare with
        | none => { s with pull := { s.pull with inFlight := some { f with tare := some raw } } }
        | some tare => s.judgePullSample (f.sampled (s.setting (·.pull.gain) 0) tare raw) locator
      else s
    | none => s

/-- HOLD_TIMER_EXPIRY (R124). -/
def execHoldTimerExpiry (s : State) : Host.Outcome State Fault Refusal :=
  .next <|
    match s.pull.inFlight with
    | some f => if s.pull.cycle = .holding then s.decidePull f .held .noBreak else s
    | none => s

/-- LIFT_TRAVEL_LIMIT (R124 to R126). -/
def execLiftTravelLimit (s : State) : Host.Outcome State Fault Refusal :=
  .next <|
    match s.pull.inFlight with
    | some f =>
      if s.pull.cycle = .lifting then s.decidePull f (limitOutcome f.mode (s.pullMinOf f.bondClass) f.peak) .noBreak else s
    | none => s

/-- RELEASE_END (R127). -/
def execReleaseEnd (s : State) : Host.Outcome State Fault Refusal :=
  .next <|
    if s.pull.cycle = .releasing then { s with pull := { s.pull with cycle := .idle, inFlight := none } } else s

/-! ## The plan (R115) -/

/-- R115: an entry breaches by itself: its unit, wire or mode. -/
def planEntryBad (p : Program) (x : PlanEntry) : Bool :=
  decide (x.unit < 1 ∨ unitCount p < x.unit ∨ x.wire < 1 ∨ p.wires.length < x.wire) || x.mode.isNone

/-- R115: some entry of the plan stands on unit `u` and wire `w`. -/
def planHas (plan : List PlanEntry) (u w : Nat) : Bool := plan.any fun y => decide (y.unit = u ∧ y.wire = w)

/-- R115: neighbouring wires with the spacing setting on, or three in a row. -/
def planCrowded (p : Program) (plan : List PlanEntry) : Bool :=
  plan.any fun x =>
    planHas plan x.unit (x.wire + 1) && (p.pull.planSpacing || planHas plan x.unit (x.wire + 2))

/-- R115: the plan is valid. -/
def planValid (p : Program) : Bool :=
  decide (p.planCount ≤ 8) && !(p.plan.take p.planCount).any (planEntryBad p) && !planCrowded p (p.plan.take p.planCount)

end Sys2Proof.Machine
end

