-- ==== Sys2Proof/Machine/Stage.lean ====
section
/-! DEFINITION. The stage unit (spec/03_stage_handoff_and_heat.md, 3.1 to 3.5): arrivals and dwell, choosing columns, the
leave step and cover, the handoff on both sides, and what RESUME and a warm restart do to the stage. -/

namespace Sys2Proof.Machine

/-- Change the stage unit without changing its state. -/
def State.setStageUnit (f : StageUnit → StageUnit) (s : State) : State := { s with stage := f s.stage }

/-- The line sequence of the record on the stage, 0 without one. -/
def State.recordSeq (s : State) : Nat :=
  match s.stage.record with
  | some r => r.lineSeq
  | none => 0

/-! ## Dwell (R40) -/

/-- R2, R13: the dwell flag is set where the stage state lets it. -/
def State.setDwellFlag (s : State) : State :=
  if s.dwellMayChange then
    s.setStageUnit fun g => { g with record := g.record.map fun r => { r with dwell := true } }
  else s

/-- DWELL_LIMIT_REACHED (R40): once for each strip. -/
def execDwellLimitReached (s : State) : Host.Outcome State Fault Refusal :=
  .next <|
    if s.stage.dwell.isRunning = true ∧ s.stage.dwell.reached = false then
      let s1 := s.setStageUnit fun g => { g with dwell := { g.dwell with reached := true } }
      (s1.raiseAlarm Source.dwellLimit (.lineSeq s1.recordSeq)).setDwellFlag
    else s

/-! ## Index motions (R42) -/

/-- R42: an index motion to column `c` begins. -/
def State.startIndex (c : Nat) (s : State) : State :=
  { s with
    stage := { s.stage with indexMotion := some c, working := false }
    ports := { s.ports with index := .goTo c } }

/-- INDEX_MOTION_END (R42). -/
def execIndexMotionEnd (s : State) : Host.Outcome State Fault Refusal :=
  .next <|
    match s.stage.indexMotion with
    | some c => s.setStageUnit fun g => { g with column := c, indexMotion := none }
    | none => s

/-! ## The leave step and cover (R43, R44) -/

/-- R43: this station's own segment is incomplete on an OPEN unit. -/
def State.ownWorkLeft (s : State) (p : Program) (t : TrackedPart) : Bool :=
  t.table.any fun e =>
    decide (e.status = .isOpen) &&
      match e.progress[s.straps.station - 1]? with
      | some g => !segmentComplete p s.straps.station g
      | none => false

/-- R43: cover is needed. -/
def State.coverNeeded (s : State) : Bool :=
  match s.program?, s.tracked? with
  | some p, some t =>
    decide (s.straps.role = .head ∧ s.control.head = .headOut) && !segmentEmpty (segmentOf p s.straps.station) &&
      s.ownWorkLeft p t
  | _, _ => false

/-- R103: this station's spare. -/
def State.ownSpare (s : State) : Nat := s.setting (fun p => spareOf p s.straps.station) 0

/-- R44: cover wait ends, and NO_COVER's condition is gone. -/
def State.endCoverWait (s : State) : State :=
  if s.stage.coverWait then
    (s.setStageUnit fun g => { g with coverWait := false }).conditionGone Source.noCover
  else s

/-- R43: the leave step. Without the cover it needs the stage stays LOADED in cover wait, and NO_COVER is raised as the wait
begins. Cover is judged at the step itself, also where R44 found it before (notes/assumptions/57). -/
def State.leaveStep (s : State) : State :=
  if s.coverNeeded && !s.coverBy s.ownSpare then
    if s.stage.coverWait then s
    else (s.setStageUnit fun g => { g with coverWait := true }).raiseAlarm Source.noCover (.station s.ownSpare)
  else s.endCoverWait.setStage .finished

/-- R44: a stage in cover wait judges cover again, in every station state except BOOT. -/
def State.judgeCover (s : State) : State :=
  if s.control.station ≠ .boot ∧ (s.control.head = .headIn ∨ s.coverBy s.ownSpare = true) then s.endCoverWait else s

/-! ## Choosing work (R41) -/

/-- R41: the current column, where it was being worked, reports no more work. -/
def State.columnDone (s : State) : State :=
  if s.stage.working && !s.columnHasWork s.stage.column then
    (s.setStageUnit fun g => { g with working := false }).event .columnDone
  else s

/-- STAGE_CHOOSE_WORK (R41): in RUN the lowest column with work is worked or indexed to; where none has work, in RUN or
PAUSED, the stage takes the leave step. -/
def execStageChooseWork (s : State) : Host.Outcome State Fault Refusal :=
  .next <|
    if s.stage.state ≠ .loaded ∨ s.stage.indexMotion.isSome = true ∨ s.cycleInFlight = true then s
    else
      match s.control.station, s.workColumn with
      | .run, some c =>
        if c = s.stage.column then s.setStageUnit fun g => { g with working := true } else s.columnDone.startIndex c
      | .run, none => s.columnDone.leaveStep
      | .paused, none => s.columnDone.leaveStep
      | _, _ => s

/-! ## Offering (R46, R47) -/

/-- R46: a PULL_RESULT frame of the strip has not left yet. -/
def State.resultsLeft (s : State) : Bool :=
  match s.stage.record with
  | some r =>
    (s.line.queue ++ s.line.waiting).any fun e =>
      match e.body with
      | .pullResult x => decide (x.serial = r.serial ∧ x.lineSeq = r.lineSeq)
      | _ => false
  | none => false

/-- R46: the conditions under which a FINISHED stage sends an OFFER. -/
def State.mayOffer (s : State) : Bool :=
  decide (s.stage.state = .finished) && !s.straps.outfeed && s.runOrPaused && s.stage.permit &&
    s.stage.indexMotion.isNone && decide (s.pull.cycle = .idle) && !s.resultsLeft

/-- R46: the offer number rises by one, from 255 to 1. -/
def nextOffer (n : Nat) : Nat := if n < 255 then n + 1 else 1

/-- R46: the OFFER of a record under an offer number. -/
def offerOf (n : Nat) (r : StripRecord) : OfferPayload :=
  { offerNumber := n, serial := r.serial, lineSeq := r.lineSeq, tracked := r.tracked.isSome, units := r.units }

/-- OFFER_SEND (R46). -/
def execOfferSend (s : State) : Host.Outcome State Fault Refusal :=
  .next <|
    match s.stage.record with
    | some r =>
      if s.mayOffer then
        let n := nextOffer s.stage.offerNumber
        let s1 := s.setStageUnit fun g => { g with offerNumber := n, permit := false, offerTimer := .running s.offerTimeout }
        (s1.send (s.straps.station + 1) (.offer (offerOf n r))).setStage .offering
      else s
    | none => s

/-- R47: the offer timer stops and the stage returns to FINISHED. -/
def State.offerClosed (timer : Timer) (s : State) : State :=
  (s.setStageUnit fun g => { g with offerTimer := timer }).setStage .finished

/-- OFFER_TIMER_EXPIRY (R47). -/
def execOfferTimerExpiry (s : State) : Host.Outcome State Fault Refusal :=
  .next <| if s.stage.state = .offering then s.offerClosed .expired else s

/-! ## Handing (R48 to R50) -/

/-- Ask for frames in order (R48). -/
def State.sendAll (target : Nat) : List TxBody → State → State
  | [], s => s
  | b :: bs, s => (s.send target b).sendAll target bs

/-- R48: the TAKE is taken: the record is frozen, the transfer timer starts and the RECORD parts are queued. -/
def State.beginHanding (r : StripRecord) (s : State) : State :=
  let s1 := s.setStageUnit fun g => { g with
    offerTimer := .stopped
    transferTimer := .running s.transferTimeout
    push := .notBegun
    lastPartLeft := false
    closeWhenLeft := false }
  (s1.setStage .handing).sendAll (s.straps.station + 1) (r.parts.map (.record s.stage.offerNumber))

/-- R48, R49: the handoff push begins once the last part has left the queue, the transfer timer still runs and the pusher is
at rest. -/
def State.tryPush (s : State) : State :=
  match s.stage.transferTimer with
  | .running _ =>
    if s.stage.state = .handing ∧ s.stage.push = .notBegun ∧ s.stage.lastPartLeft = true ∧ s.stage.pusher = .rest then
      s.setStageUnit fun g => { g with push := .moving, pusher := .driving }
    else s
  | _ => s

/-- R49: a pusher still moving completes its stroke and returns to rest. -/
def Pusher.released (p : Pusher) : Pusher := if p = .driving then .returning else p

/-- R49: the handoff closes on a matching ARRIVED. RECORD parts still queued, or still waiting for room, stay and are sent
(DEDUCED, notes/assumptions/20). -/
def State.closeHandoff (s : State) : State :=
  State.emptyStage (s.setStageUnit fun g => { g with pusher := g.pusher.released })

/-- A RECORD part of the handoff with this number. -/
def TxEntry.isPartOf (handoff : Nat) (e : TxEntry) : Bool :=
  match e.body with
  | .record h _ => decide (h = handoff)
  | _ => false

/-- R50: RECORD parts of the handoff with this number are taken out, queued or waiting for room. One on the line is marked
given up: it runs to its end, or leaves the queue if it loses the contest (DEDUCED, notes/assumptions/12). -/
def LineUnit.dropParts (handoff : Nat) (l : LineUnit) : LineUnit :=
  { l with
    queue := (l.queue.filter fun e => e.onLine.isSome || !e.isPartOf handoff).map fun e =>
      { e with givenUp := e.givenUp || e.isPartOf handoff }
    waiting := l.waiting.filter fun e => !e.isPartOf handoff }

/-- SENDER_TRANSFER_TIMEOUT (R50). -/
def execSenderTransferTimeout (s : State) : Host.Outcome State Fault Refusal :=
  .next <|
    match s.stage.transferTimer with
    | .running _ =>
      if s.stage.state = .handing then
        let s1 : State := { s with
          stage := { s.stage with
            transferTimer := .expired
            closeWhenLeft := false
            push := if s.stage.push = .moving then .stopped else s.stage.push
            pusher := s.stage.pusher.released }
          line := s.line.dropParts s.stage.offerNumber }
        s1.raiseAlarm Source.handoffTimeout (.station (s.straps.station + 1))
      else s
    | _ => s

/-- R50: the stage returns from HANDING to FINISHED; its copy may be changed again. -/
def State.takeBack (s : State) : State :=
  (s.setStageUnit fun g => { g with
    transferTimer := .stopped
    push := .notBegun
    lastPartLeft := false
    closeWhenLeft := false }).setStage .finished

/-- R50: at RESUME a sender in HANDING whose timer has expired reads its sensors. -/
def State.resumeSender (sensors : StripSensors) (s : State) : State :=
  if s.stage.state = .handing ∧ s.stage.transferTimer = .expired ∧ s.isActive Source.handoffTimeout = false then
    match sensors.exit, sensors.arrival with
    | true, _ => s
    | false, false => s.emptyStage
    | false, true => s.takeBack
  else s

/-! ## Receiving (R51 to R55) -/

/-- R51: the answer to an OFFER: TAKE, or REFUSE with the reason of the first check that fails. -/
def State.refusal (sender : Nat) (s : State) : Option RefuseReason :=
  if s.straps.infeed = true ∨ sender + 1 ≠ s.straps.station then some .notNeighbour
  else if s.runOrPaused = false then some .notRunning
  else if s.stage.state ≠ .empty then some .stageBusy
  else none

/-- R51: an OFFER is answered at once. -/
def State.answerOffer (sender : Nat) (o : OfferPayload) (s : State) : State :=
  match s.refusal sender with
  | some reason => s.send sender (.refuse ⟨o.offerNumber, reason⟩)
  | none =>
    let s1 := s.send sender (.take ⟨o.offerNumber, o.serial, o.lineSeq⟩)
    State.setStage .receiving (s1.setStageUnit fun g => { g with
      assembly := some RecordAssembly.fresh
      kept := some ⟨sender, o⟩
      note := none
      transferTimer := .running s.transferTimeout })

/-- R52: a RECORD part from the OFFER's sender is taken into the assembly. -/
def State.takeRecordPart (sender : Nat) (p : RecordPayload) (s : State) : State :=
  match s.stage.kept, s.stage.assembly with
  | some k, some a =>
    if s.stage.state = .receiving ∧ sender = k.sender then
      s.setStageUnit fun g => { g with assembly := some (a.takePart k.offer p) }
    else s
  | _, _ => s

/-- RECEIVER_TRANSFER_TIMEOUT (R54). -/
def execReceiverTransferTimeout (s : State) : Host.Outcome State Fault Refusal :=
  .next <|
    match s.stage.transferTimer with
    | .running _ =>
      if s.stage.state = .receiving then
        (s.setStageUnit fun g => { g with transferTimer := .expired }).raiseAlarm Source.handoffTimeout
          (.station (s.straps.station - 1))
      else s
    | _ => s

/-- R54: the receiver gives the transfer up: its assembly is discarded, the stage enters EMPTY and keeps a note of the OFFER
it had answered. -/
def State.giveUpTransfer (s : State) : State :=
  let note := s.stage.kept.map fun k => (⟨k.sender, k.offer.offerNumber, k.offer.serial, k.offer.lineSeq⟩ : StripNote)
  State.emptyStage (s.setStageUnit fun g => { g with note := note })

/-- R54: at RESUME a receiver whose timer has expired gives the transfer up. -/
def State.resumeReceiver (s : State) : State :=
  if s.stage.state = .receiving ∧ s.stage.transferTimer = .expired ∧ s.isActive Source.handoffTimeout = false then
    s.giveUpTransfer
  else s

/-- R12: an untracked record made at this station is taken, and UNTRACKED_STRIP is raised. -/
def State.takeUntracked (serial : Serial) (lineSeq column : Nat) (s : State) : State :=
  (s.takeStrip (untrackedRecord serial lineSeq) column).raiseAlarm Source.untrackedStrip (.lineSeq lineSeq)

/-- R53: an arrival in RECEIVING. -/
def State.arriveReceiving (k : KeptOffer) (a : RecordAssembly) (s : State) : State :=
  let s1 :=
    match a.record? with
    | some r => s.takeStrip r 1
    | none => s.takeUntracked k.offer.serial k.offer.lineSeq 1
  s1.send k.sender (.arrived ⟨k.offer.offerNumber, k.offer.lineSeq⟩)

/-- R55: an arrival in EMPTY, with or without an expected-strip note. -/
def State.arriveEmpty (s : State) : State :=
  match s.stage.note with
  | some n => (s.takeUntracked n.serial n.lineSeq 1).send n.sender (.arrived ⟨n.offerNumber, n.lineSeq⟩)
  | none => s.takeUntracked unknownSerial 0 1

/-- ARRIVAL (R53, R55, R139): what an arrival does depends on the stage state. -/
def execArrival (s : State) : Host.Outcome State Fault Refusal :=
  .next <|
    match s.stage.state with
    | .receiving =>
      match s.stage.kept, s.stage.assembly with
      | some k, some a => s.arriveReceiving k a
      | _, _ => s
    | .empty => s.arriveEmpty
    | .feeding => s.feedingEnd
    | _ => s

/-! ## The strip leaves (R39, R48, R56, R144) -/

/-- R48: the handoff push ends with the strip gone. -/
def State.handoffLeft (s : State) : State :=
  let s1 := State.stopDwell (s.setStageUnit fun g => { g with push := .gone, pusher := .rest })
  if s.stage.closeWhenLeft then s1.emptyStage else s1

/-- STRIP_LEFT (R48, R144): the strip has left during or after a push. -/
def execStripLeft (s : State) : Host.Outcome State Fault Refusal :=
  .next <|
    match s.stage.state with
    | .handing =>
      match s.stage.push with
      | .moving => s.handoffLeft
      | .stopped => s.stopDwell
      | _ => s
    | .unloading =>
      if s.elevator.output.activity = .pushing then s.finishUnload .rest else s.stopDwell
    | _ => s

/-- PUSHER_RETURN_TO_REST (R49). -/
def execPusherReturnToRest (which : PusherName) (s : State) : Host.Outcome State Fault Refusal :=
  .next <|
    match which with
    | .input =>
      if s.elevator.inputPusher = .returning then
        { s with elevator := { s.elevator with inputPusher := .rest } }
      else s
    | .stage =>
      if s.stage.pusher = .returning then State.tryPush (s.setStageUnit fun g => { g with pusher := .rest }) else s

/-! ## Warm restart (R56) -/

/-- R56: the warm restart's effect on the stage. -/
def State.restartStage (s : State) : State :=
  let s1 := s.setStageUnit fun g => { g with permit := false }
  match s1.stage.state with
  | .offering => s1.offerClosed .stopped
  | .handing =>
    match s1.stage.push with
    | .notBegun => s1.takeBack
    | .moving => s1.setStageUnit fun g => { g with closeWhenLeft := true }
    | .gone => s1.emptyStage
    | .stopped => s1
  | .receiving => s1.giveUpTransfer
  | _ => s1

end Sys2Proof.Machine
end

