-- ==== Sys2Proof/Machine/Line.lean ====
section
/-! DEFINITION. Sending on the line bus (spec/11_line_bus_program_load_and_roll_call.md, 11.2 to 11.5 and 11.8): the frame
selected, the contest lost, the acknowledgement, the frames that wait for room, and the roll-call timer. -/

namespace Sys2Proof.Machine

/-- A frame of this station is on the line. -/
def LineUnit.sending (l : LineUnit) : Bool := l.queue.any fun e => e.onLine.isSome

/-- R171: the rank of a frame: its class, then its kind. -/
def TxBody.rank (b : TxBody) : Nat := b.frameClass * 16 + b.kindCode

/-- R174: the lowest rank among queued frames. -/
def lowestRank (q : List TxEntry) : Option Nat := smallest (q.map fun e => e.body.rank)

/-- R33, R175: the contents a frame takes as its sending begins: STATE and an ALARM's summary as they then stand. -/
def State.payloadOf (s : State) (b : TxBody) : Payload :=
  match b with
  | .stop => .stop
  | .restart => .restart
  | .present p => .present p
  | .alarm source cls level newState detail => .alarm ⟨source, cls, level, newState, detail, s.alarms.summary⟩
  | .state => .state s.ownReport
  | .lineStart => .lineStart
  | .offer p => .offer p
  | .take p => .take p
  | .refuse p => .refuse p
  | .arrived p => .arrived p
  | .record _ p => .record p
  | .pullResult p => .pullResult p

/-- Change the first queued frame that `p` admits. -/
def changeFirst (p : TxEntry → Bool) (f : TxEntry → TxEntry) : List TxEntry → List TxEntry
  | [] => []
  | e :: es => if p e then f e :: es else e :: changeFirst p f es

/-- FRAME_SEND_START (R172, R174): with nothing of this station's on the line, the oldest frame of lowest rank goes on it. -/
def execFrameSendStart (s : State) : Host.Outcome State Fault Refusal :=
  .next <|
    if s.line.sending then s
    else
      match lowestRank s.line.queue with
      | some k =>
        { s with line := { s.line with
          queue := changeFirst (fun e => decide (e.body.rank = k)) (fun e => { e with onLine := some (s.payloadOf e.body) })
            s.line.queue } }
      | none => s

/-- R50, R172: what stays queued after a lost contest: all but a part of a handoff given up since its sending began. -/
def TxEntry.staysQueued (e : TxEntry) : Bool := !(e.onLine.isSome && e.givenUp)

/-- ARBITRATION_LOST (R172): the frame that lost stays queued and no longer stands on the line; a RECORD part of a handoff
given up meanwhile leaves the queue (R50). -/
def execArbitrationLost (s : State) : Host.Outcome State Fault Refusal :=
  .next { s with line := { s.line with
    queue := (s.line.queue.filter TxEntry.staysQueued).map fun e => { e with onLine := none } } }

/-- The queued frame on the line. -/
def LineUnit.onLine (l : LineUnit) : Option TxEntry := l.queue.find? fun e => e.onLine.isSome

/-- R173: the unheard count after an acknowledged frame, and the end of LINE_ALONE's condition. -/
def State.heardBy (s : State) : State :=
  let s1 : State := { s with line := { s.line with unheard := 0 } }
  if s1.conditionOf Source.lineAlone then s1.conditionGone Source.lineAlone else s1

/-- R173: the unheard count after an unacknowledged frame, and LINE_ALONE at the third. -/
def State.unheardBy (s : State) : State :=
  let n := bump Config.byteCap s.line.unheard
  let s1 : State := { s with line := { s.line with unheard := n } }
  if n = Config.aloneAt ∧ soleStation s.straps = false then s1.raiseAlarm Source.lineAlone .none else s1

/-- R48: whether a frame is the last RECORD part of the handoff in progress. -/
def State.isLastPart (s : State) (e : TxEntry) : Bool :=
  match e.body, s.stage.record with
  | .record h p, some r =>
    decide (s.stage.state = .handing ∧ h = s.stage.offerNumber ∧ p.number = r.units + 1)
  | _, _ => false

/-- R48: the last RECORD part has left the queue. -/
def State.notePartLeft (e : TxEntry) (s : State) : State :=
  if s.isLastPart e then State.tryPush (s.setStageUnit fun g => { g with lastPartLeft := true }) else s

/-- FRAME_SEND_END (R172, R173): the frame leaves the queue, acknowledged or not. -/
def execFrameSendEnd (acked : Bool) (s : State) : Host.Outcome State Fault Refusal :=
  .next <|
    match s.line.onLine with
    | some e =>
      let s1 : State := { s with line := { s.line with queue := dropFirst (fun e => e.onLine.isSome) s.line.queue } }
      let s2 := if acked then s1.heardBy else s1.unheardBy
      s2.notePartLeft e
    | none => s

/-- R131: a result that joins the queue late is handed to the station's own report unit. -/
def State.noteJoined (e : TxEntry) (s : State) : State :=
  match e.body with
  | .pullResult x => s.fileResult x
  | _ => s

/-- WAITING_FRAME_JOINS (R174): the frame that has waited longest joins, once there is room. -/
def execWaitingFrameJoins (s : State) : Host.Outcome State Fault Refusal :=
  .next <|
    match s.line.waiting with
    | e :: rest =>
      if s.line.bulkRoom then
        State.noteJoined e { s with line := { s.line with queue := s.line.queue ++ [e], waiting := rest } }
      else s
    | [] => s

/-! ## The roll-call timer (R179) -/

/-- R179: the lowest station number whose roster entry is absent. With all eight present and no OUTFEED flag among them the
manual names no station, and the detail is station 0 (DESIGN CHOICE, notes/assumptions/75). -/
def State.lowestAbsent (s : State) : Nat := ((stationNumbers.find? fun k => !s.present k)).getD 0

/-- ROLL_CALL_TIMER_EXPIRY (R179): PRESENT again, the timer again, and ROSTER_GAP the first time. -/
def execRollCallTimerExpiry (s : State) : Host.Outcome State Fault Refusal :=
  .next <|
    match s.line.rollCallTimer with
    | .running _ =>
      if s.control.station = .rollcall ∧ s.rollCallComplete = false then
        let s1 := s.sendPresent
        let s2 : State := { s1 with line := { s1.line with rollCallTimer := .running Config.rollCallTime } }
        if s2.conditionOf Source.rosterGap then s2 else s2.raiseAlarm Source.rosterGap (.station s2.lowestAbsent)
      else s
    | _ => s

end Sys2Proof.Machine
end

