-- ==== Sys2Proof/Machine/Frames.lean ====
section
/-! DEFINITION. The receive path (spec/11_line_bus_program_load_and_roll_call.md R171) and what each kind of frame does at
the blocks that take it. A frame command carries the sender, the target of an addressed kind, and the payload's fields; its
check, agreement and codes are good, while FRAME_DISCARD carries the bytes of one that is not. -/

namespace Sys2Proof.Machine

/-! ## The receive path -/

/-- R171, R173: the acknowledgement the station gives the frame just heard. -/
def State.answer (ack : Bool) (s : State) : State := { s with line := { s.line with ackOut := ack } }

/-- R171: a taken frame that carries this station's own number. -/
def State.duplicate (s : State) : State :=
  if s.control.station = .boot then s
  else (s.raiseAlarm Source.duplicateStation (.station s.straps.station)).settle

/-- R171: a good frame heard: acknowledged, and handed on where it is taken, which the target alone decides
(notes/assumptions/55). A sender outside 1 to 8 makes no line frame (R183). -/
def State.hear (sender target : Nat) (handle : State → State) (s : State) : State :=
  if sender < 1 ∨ 8 < sender then s.answer false
  else if target ≠ 0 ∧ target ≠ s.straps.station then s.answer true
  else if sender = s.straps.station then (s.answer true).duplicate
  else handle (s.answer true)

/-- R171: in BOOT the blocks other than the alarm unit and the roster disregard what they are handed. -/
def State.outsideBoot (handle : State → State) (s : State) : State :=
  if s.control.station = .boot then s else handle s

/-- R183: the bytes this station's frame puts on the line, while one is there. -/
def State.bytesOnLine (s : State) : Option (List Byte) :=
  s.line.onLine.bind fun e => e.onLine.map fun p => frameBytes ⟨s.straps.station, e.target, p⟩

/-- R182: this station's frame bit by bit, in the order its bits are sent. -/
def State.bitsOnLine (s : State) : Option (List Bool) := s.bytesOnLine.map bitsOf

/-! ## Broadcast frames -/

/-- STOP_FRAME (R35). -/
def execStopFrame (sender : Nat) (s : State) : Host.Outcome State Fault Refusal :=
  .next <| s.hear sender 0 fun s =>
    (s.mirror sender (some { source := Source.stopKey, alarmClass := .stop, level := Config.stopLevel })).settle

/-- RESTART_FRAME (R181). -/
def execRestartFrame (sender : Nat) (s : State) : Host.Outcome State Fault Refusal :=
  .next <| s.hear sender 0 <| State.outsideBoot fun s =>
    { s with control := { s.control with restartWaiting := true } }

/-- R178: a peer's roster entry changes. -/
def State.setRoster (k : Nat) (e : RosterEntry) (s : State) : State :=
  if e = s.line.roster.getD (k - 1) .absent then s
  else
    { s with
      line := { s.line with roster := s.line.roster.set (k - 1) e }
      screen := s.screen.raise .rosterChange }

/-- R178: the identity of a PRESENT frame. -/
def PeerIdentity.ofPresent (p : PresentPayload) : PeerIdentity := ⟨p.role, p.infeed, p.outfeed, p.programId⟩

/-- R33: the ALARM frame that follows the reply to a station new to the roster. -/
def State.sendSummary (s : State) : State :=
  match s.alarms.highestLocal with
  | some i => s.send 0 (alarmBody i (s.alarms.entry i))
  | none => s

/-- R179: the answer to a PRESENT frame: one PRESENT where the sender was absent or does not know this station, then the
ALARM frame of R33 where it was absent. -/
def State.answerPresent (wasAbsent : Bool) (known : List Nat) (s : State) : State :=
  let s1 := if wasAbsent || !known.contains s.straps.station then s.sendPresent else s
  if wasAbsent then s1.sendSummary else s1

/-- R44, R180: what follows a change of a peer's roster entry: roll call judges, a complete roll call leads to READY, and a
stage in cover wait judges cover when the entry is its spare's. -/
def State.rosterHeard (k : Nat) (s : State) : State :=
  let s1 := s.judgeRoster.tryReady
  let s2 := if s1.ownSpare = k then s1.judgeCover else s1
  s2.settle

/-- PRESENT_FRAME (R178 to R180). The roster is updated in every state; the rest is not done in BOOT. -/
def execPresentFrame (sender : Nat) (p : PresentPayload) (s : State) : Host.Outcome State Fault Refusal :=
  .next <| s.hear sender 0 fun s =>
    let old := s.line.roster.getD (sender - 1) .absent
    let s1 := s.setRoster sender { old with identity := some (.ofPresent p) }
    State.outsideBoot (fun s => (s.answerPresent old.identity.isNone p.known).rosterHeard sender) s1

/-- ALARM_FRAME (R34). -/
def execAlarmFrame (sender : Nat) (p : AlarmPayload) (s : State) : Host.Outcome State Fault Refusal :=
  .next <| s.hear sender 0 fun s => (s.mirror sender p.summary).settle

/-- R45: what the stage takes from a STATE frame: the permit from k + 1, and a STATE frame in answer to a FINISHED k - 1. -/
def State.stageHears (sender : Nat) (p : StatePayload) (s : State) : State :=
  let s1 := if sender = s.straps.station + 1 then s.setStageUnit fun g => { g with permit := p.ready } else s
  if sender + 1 = s.straps.station ∧ p.stage = .finished then s1.send 0 .state else s1

/-- R34: a STATE frame that shows no alarm class clears the mirror entry. -/
def State.mirrorFromState (sender : Nat) (p : StatePayload) (s : State) : State :=
  if p.highest = none then s.mirror sender none else s

/-- STATE_FRAME (R34, R45, R178). -/
def execStateFrame (sender : Nat) (p : StatePayload) (s : State) : Host.Outcome State Fault Refusal :=
  .next <| s.hear sender 0 fun s =>
    let old := s.line.roster.getD (sender - 1) .absent
    let s1 := s.setRoster sender { old with report := some p }
    State.outsideBoot (fun s => ((s.stageHears sender p).mirrorFromState sender p).rosterHeard sender) s1

/-- LINE_START_FRAME (R20). -/
def execLineStartFrame (sender : Nat) (s : State) : Host.Outcome State Fault Refusal :=
  .next <| s.hear sender 0 fun s =>
    if s.control.station = .ready then
      State.setStation .run { s with control := { s.control with lineStarted := true } }
    else s

/-- PULL_RESULT_FRAME (R95, R149): the energy unit of the bonding station learns, the OUTFEED report unit files. -/
def execPullResultFrame (sender : Nat) (p : PullResult) (s : State) : Host.Outcome State Fault Refusal :=
  .next <| s.hear sender 0 fun s => (s.learnResult p).fileResult p

/-! ## Addressed frames -/

/-- OFFER_FRAME (R51). -/
def execOfferFrame (sender target : Nat) (p : OfferPayload) (s : State) : Host.Outcome State Fault Refusal :=
  .next <| s.hear sender target <| State.outsideBoot fun s => s.answerOffer sender p

/-- R47: a TAKE answers the offer in progress. -/
def State.takeMatches (s : State) (sender : Nat) (p : TakePayload) (r : StripRecord) : Bool :=
  decide (s.stage.state = .offering ∧ sender = s.straps.station + 1 ∧ p.offerNumber = s.stage.offerNumber ∧
    p.serial = r.serial ∧ p.lineSeq = r.lineSeq)

/-- TAKE_FRAME (R47, R48). -/
def execTakeFrame (sender target : Nat) (p : TakePayload) (s : State) : Host.Outcome State Fault Refusal :=
  .next <| s.hear sender target <| State.outsideBoot fun s =>
    match s.stage.record with
    | some r => if s.takeMatches sender p r then s.beginHanding r else s
    | none => s

/-- REFUSE_FRAME (R47). The reason is not read. -/
def execRefuseFrame (sender target : Nat) (p : RefusePayload) (s : State) : Host.Outcome State Fault Refusal :=
  .next <| s.hear sender target <| State.outsideBoot fun s =>
    if s.stage.state = .offering ∧ sender = s.straps.station + 1 ∧ p.offerNumber = s.stage.offerNumber then
      s.offerClosed .stopped
    else s

/-- ARRIVED_FRAME (R49). -/
def execArrivedFrame (sender target : Nat) (p : ArrivedPayload) (s : State) : Host.Outcome State Fault Refusal :=
  .next <| s.hear sender target <| State.outsideBoot fun s =>
    if s.stage.state = .handing ∧ sender = s.straps.station + 1 ∧ p.offerNumber = s.stage.offerNumber ∧
        p.lineSeq = s.recordSeq then
      s.closeHandoff
    else s

/-- RECORD_FRAME (R52). -/
def execRecordFrame (sender target : Nat) (p : RecordPayload) (s : State) : Host.Outcome State Fault Refusal :=
  .next <| s.hear sender target <| State.outsideBoot fun s => s.takeRecordPart sender p

/-! ## Frames discarded (R171, R182) -/

/-- FRAME_DISCARD (R171, R182). Bytes with a bad check, or whose class, kind or length do not agree, are not acknowledged.
Others are; one whose codes name no value is then handed to no block, though a taken one under this station's own number
shows two stations with one number. Bytes that make a wholly good frame are handed to no block either: the command says that
the frame is discarded (DESIGN CHOICE, notes/assumptions/78). -/
def execFrameDiscard (bytes : List Byte) (s : State) : Host.Outcome State Fault Refusal :=
  .next <|
    match goodFrame bytes with
    | some (_, sender, target, _) => s.hear sender target id
    | none => s.answer false

end Sys2Proof.Machine
end

