-- ==== Sys2Proof/Machine/Wire.lean ====
section
/-! DEFINITION. The wire sequencer (spec/04_the_wire_cycle.md): the start of a cycle, flame-offs, the phases of a wire,
cuts, and the spool confirm. -/

namespace Sys2Proof.Machine

/-! ## Start (R65 to R67) -/

/-- R66: the use of a wire in µm. -/
def wireUse (r : WireRow) (loopFactor tail : Nat) : Nat :=
  isqrt ((r.x2 - r.x1) * (r.x2 - r.x1) + (r.y2 - r.y1) * (r.y2 - r.y1)).toNat * loopFactor / 1000 + tail

/-- R41, R67: the next wire of the current column, where the stage would have that column worked. -/
def State.currentWire (s : State) : Option (Nat × Nat × Nat) :=
  if s.workColumn = some s.stage.column then s.nextWire s.stage.column else none

/-- R67: the wire in flight as the cycle begins on wire `w` of unit `u` in segment `k`. -/
def wireInFlight (p : Program) (r : WireRow) (u w k : Nat) (lead : Bool) : WireInFlight :=
  ⟨u, w, k, r.bondClass, r.profile, wireUse r (profileOf p r.profile).loopFactor p.head.tailAllowance, false, .due, lead⟩

/-- R70: the wire entry and row of a wire in flight, for its moves. -/
def State.flightRow (s : State) (f : WireInFlight) : WireRow :=
  (s.program?.bind fun p => wireRow? p f.wire).getD ⟨0, 0, 0, 0, 0, 0⟩

/-- R70: the Y of the unit origin. -/
def State.originY (s : State) (u : Nat) : Int := ((unitRow s.rows u : Int) - 1) * (s.head (·.rowPitch) : Int)

/-- R70: the cycle enters TO_FIRST, with one move over the first bond. -/
def State.enterToFirst (f : WireInFlight) (s : State) : State :=
  let r := s.flightRow f
  { s with
    wire := { s.wire with cycle := .toFirst, awaits := .none, inFlight := some { f with lead := false } }
    ports := { s.ports with
      xy := .moveTo r.x1 (s.originY f.unit + r.y1)
      z := .moveTo (s.head (·.searchHeight)) } }

/-- R69: the cycle opens with a lead flame-off: the head goes to safe height, the clamp closes. -/
def State.enterLead (f : WireInFlight) (s : State) : State :=
  { s with
    wire := { s.wire with cycle := .flaming, awaits := .leadHead, inFlight := some { f with lead := true } }
    ports := { s.ports with z := .moveTo (s.head (·.safeHeight)), clampClosed := true } }

/-- WIRE_CYCLE_START (R67). -/
def execWireCycleStart (s : State) : Host.Outcome State Fault Refusal :=
  .next <|
    if s.wire.cycle = .idle ∧ s.wireMayStart = true then
      match s.program?, s.currentWire with
      | some p, some (u, w, k) =>
        let f := wireInFlight p ((wireRow? p w).getD ⟨0, 0, 0, 0, 0, 0⟩) u w k false
        if s.wire.stock < f.use then (s.setHead .headOut).raiseAlarm Source.wireEnd (.unitWire u w)
        else
          let s1 : State := { s with stage := { s.stage with working := true } }
          if s.wire.ballReady then s1.enterToFirst f else s1.enterLead f
      | _, _ => s
    else s

/-! ## Ends of a cycle -/

/-- The cycle returns to IDLE and the wire in flight is dropped. -/
def State.wireIdle (s : State) : State :=
  { s with wire := { s.wire with cycle := .idle, awaits := .none, inFlight := none } }

/-- R73, R74: a cut begins: the clamp closes, the head rises to safe height, and ball-ready becomes false. -/
def State.startCut (s : State) : State :=
  { s with
    wire := { s.wire with awaits := .cut, ballReady := false }
    ports := { s.ports with z := .moveTo (s.head (·.safeHeight)), clampClosed := true } }

/-! ## Flame-off (R68, R69, R77) -/

/-- R68: ball-ready after a flame-off, the fire command ended. -/
def State.flameDone (spark : Bool) (s : State) : State :=
  { s with wire := { s.wire with ballReady := spark }, ports := { s.ports with fire := false } }

/-- LEAD_FLAME_HEAD_READY (R69). -/
def execLeadFlameHeadReady (s : State) : Host.Outcome State Fault Refusal :=
  .next <|
    if s.wire.cycle = .flaming ∧ s.wire.awaits = .leadHead then
      { s with wire := { s.wire with awaits := .fire }, ports := { s.ports with fire := true } }
    else s

/-- FLAME_OFF_END (R68, R69, R77). -/
def execFlameOffEnd (spark : Bool) (s : State) : Host.Outcome State Fault Refusal :=
  .next <|
    match s.wire.inFlight with
    | some f =>
      if s.wire.cycle = .flaming ∧ s.wire.awaits = .fire then
        let s1 := s.flameDone spark
        if spark then (if f.lead && s1.wireMayStart then s1.enterToFirst f else s1.wireIdle)
        else s1.wireIdle.raiseAlarm Source.flameFail (.unitWire f.unit f.wire)
      else s
    | none => s

/-! ## First bond (R70 to R72) -/

/-- R71, R74: a search downward with the impact force of a side. -/
def State.startSearch (c : Nat) (side : Side) (cycle : WireCycle) (s : State) : State :=
  { s with
    wire := { s.wire with cycle := cycle, awaits := .none }
    ports := { s.ports with z := .search (s.bondSet c side).impactForce (s.head (·.searchDistance)) } }

/-- TO_FIRST_IN_POSITION (R70, R71). -/
def execToFirstInPosition (s : State) : Host.Outcome State Fault Refusal :=
  .next <|
    match s.wire.inFlight with
    | some f => if s.wire.cycle = .toFirst then s.startSearch f.bondClass .first .searchFirst else s
    | none => s

/-- SEARCH_FIRST_CONTACT (R71, R72). -/
def execSearchFirstContact (z : Int) (s : State) : Host.Outcome State Fault Refusal :=
  .next <|
    match s.wire.inFlight with
    | some f =>
      if s.wire.cycle = .searchFirst ∧ s.wire.awaits = .none then
        State.startBond f.bondClass .first z
          { s with wire := { s.wire with cycle := .bondFirst, inFlight := some { f with bondEntered := true } } }
      else s
    | none => s

/-- SEARCH_FIRST_LIMIT (R71): the die is missing. -/
def execSearchFirstLimit (s : State) : Host.Outcome State Fault Refusal :=
  .next <|
    match s.wire.inFlight with
    | some f =>
      if s.wire.cycle = .searchFirst ∧ s.wire.awaits = .none then
        let s1 := (s.requestReject f.unit .noSurface).raiseAlarm Source.missingDie (.unitWire f.unit f.wire)
        { s1 with
          wire := { s1.wire with awaits := .missingDieReturn }
          ports := { s1.ports with z := .moveTo (s1.head (·.searchHeight)) } }
      else s
    | none => s

/-- MISSING_DIE_RETURN_END (R71). -/
def execMissingDieReturnEnd (s : State) : Host.Outcome State Fault Refusal :=
  .next <| if s.wire.cycle = .searchFirst ∧ s.wire.awaits = .missingDieReturn then s.wireIdle else s

/-! ## Loop and second bond (R73 to R75) -/

/-- R73: the loop motion of the profile, coming to rest over the second bond at search height. -/
def State.startLoop (f : WireInFlight) (s : State) : State :=
  let r := s.flightRow f
  { s with
    wire := { s.wire with awaits := .loopMotion }
    ports := { s.ports with
      xy := .loopTo (s.setting (fun p => (profileOf p f.profile).reverse) 0) r.x2 (s.originY f.unit + r.y2)
      z := .moveTo (s.head (·.searchHeight)) } }

/-- LOOP_LIFT_IN_POSITION (R73): continuity is read. -/
def execLoopLiftInPosition (continuity : Bool) (s : State) : Host.Outcome State Fault Refusal :=
  .next <|
    match s.wire.inFlight with
    | some f =>
      if s.wire.cycle = .looping ∧ s.wire.awaits = .lift then
        if continuity then s.startLoop f
        else
          ((s.raiseAlarm Source.nonStick1 (.unitWire f.unit f.wire)).requestReject f.unit .nonStick1).startCut
      else s
    | none => s

/-- LOOP_MOTION_IN_POSITION (R73, R74). -/
def execLoopMotionInPosition (s : State) : Host.Outcome State Fault Refusal :=
  .next <|
    match s.wire.inFlight with
    | some f =>
      if s.wire.cycle = .looping ∧ s.wire.awaits = .loopMotion then
        s.startSearch f.bondClass .second .searchSecond
      else s
    | none => s

/-- CUT_END (R73, R74, R79): the use is debited and the cycle returns to IDLE. -/
def execCutEnd (s : State) : Host.Outcome State Fault Refusal :=
  .next <|
    if (s.wire.cycle = .looping ∨ s.wire.cycle = .searchSecond) ∧ s.wire.awaits = .cut then s.debit.wireIdle else s

/-- SEARCH_SECOND_CONTACT (R74, R75). -/
def execSearchSecondContact (z : Int) (s : State) : Host.Outcome State Fault Refusal :=
  .next <|
    match s.wire.inFlight with
    | some f =>
      if s.wire.cycle = .searchSecond ∧ s.wire.awaits = .none then
        State.startBond f.bondClass .second z { s with wire := { s.wire with cycle := .bondSecond } }
      else s
    | none => s

/-- SEARCH_SECOND_LIMIT (R74): the lead is not where the program puts it. -/
def execSearchSecondLimit (s : State) : Host.Outcome State Fault Refusal :=
  .next <|
    match s.wire.inFlight with
    | some f =>
      if s.wire.cycle = .searchSecond ∧ s.wire.awaits = .none then
        ((s.raiseAlarm Source.searchFail2 (.unitWire f.unit f.wire)).requestReject f.unit .noSurface).startCut
      else s
    | none => s

/-! ## Tail (R76 to R79) -/

/-- R76: the tail is torn: the clamp closes and the head rises to safe height. -/
def State.startTear (s : State) : State :=
  { s with
    wire := { s.wire with awaits := .tear }
    ports := { s.ports with z := .moveTo (s.head (·.safeHeight)), clampClosed := true } }

/-- TAIL_RISE_IN_POSITION (R76): continuity is read; absent, the wire is rejected, and the tail is torn all the same. -/
def execTailRiseInPosition (continuity : Bool) (s : State) : Host.Outcome State Fault Refusal :=
  .next <|
    match s.wire.inFlight with
    | some f =>
      if s.wire.cycle = .tailing ∧ s.wire.awaits = .tailRise then
        if continuity then s.startTear
        else
          ((s.raiseAlarm Source.nonStick2 (.unitWire f.unit f.wire)).requestReject f.unit .nonStick2).startTear
      else s
    | none => s

/-- TAILING_END (R76, R77): the debit, then the completion, then the flame-off. -/
def execTailingEnd (s : State) : Host.Outcome State Fault Refusal :=
  .next <|
    match s.wire.inFlight with
    | some f =>
      if s.wire.cycle = .tailing ∧ s.wire.awaits = .tear then
        let s1 := s.debit.completeWire f
        { s1 with
          wire := { s1.wire with cycle := .flaming, awaits := .fire }
          ports := { s1.ports with fire := true } }
      else s
    | none => s

end Sys2Proof.Machine
end

