-- ==== Sys2Proof/Machine/Panel.lean ====
section
/-! DEFINITION. The panel (spec/10_operator_screens.md, 10.2, 10.6; spec/02_station_states_and_alarms.md R20 to R23, R35):
the keys, the restart chord, the boundary at which station control takes requests, and the screen's one-second tick. -/

namespace Sys2Proof.Machine

/-! ## Requests at a boundary (R22) -/

/-- BOUNDARY_TAKEN (R22). -/
def execBoundaryTaken (s : State) : Host.Outcome State Fault Refusal :=
  .next <|
    if s.atBoundary = false then s
    else
      match s.control.station, s.control.holdRequest, s.heat.pauseRequest with
      | .run, true, _ => s.setStation .held
      | .paused, true, _ => s.setStation .held
      | .run, false, true => s.setStation .paused
      | .paused, false, false => s.setStation .run
      | _, _, _ => s

/-! ## The chord (R169) -/

/-- R169: the chord timer after a press that leaves both keys down. A chord in BOOT is marked as not to be counted. -/
def ScreenUnit.chordPressed (boot : Bool) (c : ScreenUnit) : ScreenUnit :=
  if c.keys.ackDown = false ∨ c.keys.resumeDown = false then c
  else if boot then { c with keys := { c.keys with ackCounted := true, resumeCounted := true } }
  else if c.keys.ackCounted || c.keys.resumeCounted then c
  else { c with chordTimer := .running Config.chordTime }

/-- R169: a chord key is pressed. -/
def State.pressKey (k : ChordKey) (s : State) : State :=
  let keys : ChordKeys :=
    match k with
    | .ack => { s.screen.keys with ackDown := true }
    | .resume => { s.screen.keys with resumeDown := true }
  { s with screen := ScreenUnit.chordPressed (decide (s.control.station = .boot)) { s.screen with keys := keys } }

/-- KEY_RELEASE (R169): the key is up, it may be counted again, and the chord timer stops. -/
def execKeyRelease (key : ChordKey) (s : State) : Host.Outcome State Fault Refusal :=
  .next <|
    let keys : ChordKeys :=
      match key with
      | .ack => { s.screen.keys with ackDown := false, ackCounted := false }
      | .resume => { s.screen.keys with resumeDown := false, resumeCounted := false }
    { s with screen := { s.screen with keys := keys, chordTimer := .stopped } }

/-- CHORD_TIMER_EXPIRY (R169): a chord not yet counted asks for a warm restart and queues a RESTART frame. -/
def execChordTimerExpiry (s : State) : Host.Outcome State Fault Refusal :=
  .next <|
    match s.screen.chordTimer with
    | .running _ =>
      let s1 : State := { s with screen := { s.screen with
        chordTimer := .expired
        keys := { s.screen.keys with ackCounted := true, resumeCounted := true } } }
      if s.screen.keys.ackCounted || s.screen.keys.resumeCounted then s1
      else State.send 0 .restart { s1 with control := { s1.control with restartWaiting := true } }
    | _ => s

/-! ## PAGE, ACK, HOLD, STOP and the tick -/

/-- R158: rows 1 to 7 are set to spaces. -/
def ScreenUnit.blankPage (c : ScreenUnit) : ScreenUnit :=
  { c with buffer := c.buffer.take 1 ++ List.replicate (Config.screenRows - 1) blankRow }

/-- R158: the page after the current one. -/
def ScreenUnit.nextPage (c : ScreenUnit) : Nat := if c.page < c.pageCount then c.page + 1 else 1

/-- PAGE_KEY (R158). -/
def execPageKey (s : State) : Host.Outcome State Fault Refusal :=
  .next <|
    if s.control.station = .boot ∨ s.bannerShown = true then s
    else { s with screen := (ScreenUnit.blankPage { s.screen with page := s.screen.nextPage }).raise .pageEnter }

/-- R158: the kind of the current page. -/
def ScreenUnit.pageKind (c : ScreenUnit) : PageKind := c.pageKinds.getD (c.page - 1) .general

/-- R80: a cycle in flight whose debit is DUE is not charged to the new spool. -/
def State.waiveDebit (s : State) : State :=
  match s.wire.inFlight with
  | some f => if f.debit = .due then { s with wire := { s.wire with inFlight := some { f with debit := .waived } } } else s
  | none => s

/-- Report a condition gone if it is present. -/
def State.endCondition (source : Nat) (s : State) : State :=
  if s.conditionOf source then s.conditionGone source else s

/-- R26, R80: the spool confirm; a PULL station has none. -/
def State.spoolConfirm (s : State) : State :=
  if s.straps.role = .pull then s
  else
    let s1 : State := { s with wire := { s.wire with stock := s.head (·.spoolLength) } }
    ((((s1.setHead .headIn).endCondition Source.wireEnd).endCondition Source.wireLow).waiveDebit).judgeCover

/-- R134: the operator's take. -/
def State.takeFailure (s : State) : State :=
  match s.pull.failures with
  | [] => s
  | _ :: rest =>
    State.event .pullDone { s with pull := { s.pull with
      failures := rest
      discards := if rest.isEmpty then 0 else s.pull.discards } }

/-- R167: what an ACK press acts on, outside BOOT. -/
def State.ackPress (s : State) : State :=
  match s.alarms.banner with
  | some i => (s.acknowledge i).settle
  | none =>
    match s.screen.pageKind with
    | .spool => s.spoolConfirm
    | .failures => s.takeFailure
    | .general => s

/-- ACK_KEY (R167, R169). -/
def execAckKey (s : State) : Host.Outcome State Fault Refusal :=
  .next <| State.outsideBoot State.ackPress (s.pressKey .ack)

/-- HOLD_KEY (R21). -/
def execHoldKey (s : State) : Host.Outcome State Fault Refusal :=
  .next <| if s.runOrPaused then { s with control := { s.control with holdRequest := true } } else s

/-- STOP_BUTTON (R35). -/
def execStopButton (s : State) : Host.Outcome State Fault Refusal :=
  .next <| ((s.send 0 .stop).raiseAlarm Source.stopKey .none).settle

/-- TICK (R160). -/
def execTick (s : State) : Host.Outcome State Fault Refusal := .next (s.event .tick)

/-! ## RESUME (R23) -/

/-- Apply a step for each of a list of sources. -/
def eachSource (f : Nat → State → State) : List Nat → State → State
  | [], s => s
  | i :: is, s => eachSource f is (f i s)

/-- R23 step 1, for one entry. -/
def State.ackLow (i : Nat) (s : State) : State :=
  if (s.alarms.entry i).state = .active ∧ (s.alarms.entry i).level ≤ s.alarms.mask then s.acknowledge i else s

/-- R23 step 2, for one entry. -/
def State.clearEvent (i : Nat) (s : State) : State :=
  if isEvent i = true ∧ (s.alarms.entry i).state = .acked then
    s.putEntry i { s.alarms.entry i with state := .clear } true
  else s

/-- R23: an accepted RESUME in READY. -/
def State.startLine (s : State) : State :=
  let s1 : State := { s with control := { s.control with holdRequest := false, lineStarted := true } }
  (s1.send 0 .lineStart).setStation .run

/-- R23: an accepted RESUME in HELD. -/
def State.resumeHeld (s : State) : State :=
  let s1 : State := { s with control := { s.control with holdRequest := false } }
  s1.setStation (if s.heat.pauseRequest then .paused else .run)

/-- R157, R23: a refused RESUME. -/
def State.refuseResume (s : State) : State := { s with screen := { s.screen with notice := true } }

/-- R23 step 3. A STOPPED station that may leave does so in `State.settle`. -/
def State.resumeStep (s : State) : State :=
  match s.control.station with
  | .ready => if s.alarms.resumePasses then s.startLine else s.refuseResume
  | .held => if s.alarms.resumePasses then s.resumeHeld else s.refuseResume
  | .stopped => if s.alarms.stopStands then s.refuseResume else s
  | _ => s

/-- R50, R54, R140, R145: what waits for a RESUME press. -/
def State.releaseWaiting (sensors : StripSensors) (s : State) : State :=
  ((s.resumeSender sensors).resumeReceiver.releaseInput).releaseOutput sensors

/-- R23: a RESUME press outside BOOT. -/
def State.resumePress (sensors : StripSensors) (s : State) : State :=
  let s1 := eachSource State.clearEvent sourceNumbers (eachSource State.ackLow sourceNumbers s)
  (s1.resumeStep.releaseWaiting sensors).settle

/-- RESUME_KEY (R23, R169). -/
def execResumeKey (sensors : StripSensors) (s : State) : Host.Outcome State Fault Refusal :=
  .next <| State.outsideBoot (State.resumePress sensors) (s.pressKey .resume)

end Sys2Proof.Machine
end

