-- ==== Sys2Proof/Machine/Loader.lean ====
section
/-! DEFINITION. The program loader (spec/11_line_bus_program_load_and_roll_call.md 11.6): the four checks of an image, the
settling of each parameter by the chapter that owns it, and the end of the load, which ends BOOT (R19). -/

namespace Sys2Proof.Machine

/-! ## The checks of R176 -/

/-- R176: the columns, rows and wires are counts the part can use. -/
def countsGood (p : RawProgram) : Bool :=
  decide (1 ≤ p.columns ∧ p.columns ≤ 16 ∧ 1 ≤ p.rows ∧ p.rows ≤ 4 ∧ p.columns * p.rows ≤ 64 ∧ 1 ≤ p.wires.length ∧
    p.wires.length ≤ 256)

/-- R64, R176: every wire's class and profile. -/
def wiresGood (p : RawProgram) : Bool := p.wires.all fun w => decide (w.bondClass ≤ 15 ∧ w.profile ≤ 7)

/-- R176: every code field names one of its values; the image carries all eight page kinds (notes/assumptions/51). -/
def codesGood (p : RawProgram) : Bool :=
  p.pull.auditMode.isSome && p.magazine.inputDirection.isSome && p.magazine.outputDirection.isSome &&
    p.pageKinds.all Option.isSome && p.triggers.all (fun t => t.kind.isSome) &&
    p.descriptors.all fun d => d.item.isSome && d.format.isSome

/-- R101: one entry of the segment map, for `wires` wires. -/
def segmentGood (wires : Nat) (g : Segment) : Bool :=
  decide (1 ≤ g.first ∧ g.first ≤ 257 ∧ g.last ≤ 256) && (segmentEmpty g || decide (g.last ≤ wires))

/-- R101: how many segments hold wire `w`. -/
def holders (segments : List Segment) (w : Nat) : Nat :=
  (segments.filter fun g => decide (g.first ≤ w ∧ w ≤ g.last)).length

/-- R101: the segment map is valid. -/
def segmentsGood (p : RawProgram) : Bool :=
  decide (p.segments.length = 8) && p.segments.all (segmentGood p.wires.length) &&
    (countFrom 1 p.wires.length).all fun w => decide (holders p.segments w = 1)

/-- R102: the own segment of a PULL station is empty. -/
def ownSegmentGood (straps : Straps) (p : RawProgram) : Bool :=
  decide (straps.role = .head) || segmentEmpty (p.segments.getD (straps.station - 1) noSegment)

/-- R103: the spare map is valid. -/
def sparesGood (p : RawProgram) : Bool :=
  decide (p.spares.length = 8) &&
    stationNumbers.all fun k =>
      decide (p.spares.getD (k - 1) 0 = 0 ∨ (k < p.spares.getD (k - 1) 0 ∧ p.spares.getD (k - 1) 0 ≤ 8))

/-- R176 step 4. -/
def structureGood (straps : Straps) (p : RawProgram) : Bool :=
  countsGood p && wiresGood p && codesGood p && segmentsGood p && ownSegmentGood straps p && sparesGood p

/-- R176, R186: the program id of an image that passes the checks, which end at the first that fails. A header whose length
field is not 12 names no format this part reads (notes/assumptions/27). -/
def imageId (straps : Straps) (image : Image) : Option ProgramId :=
  if image.readOk = false then none
  else
    match imageHeader image.header with
    | some h =>
      if h.format ≠ Config.imageFormat ∨ h.length ≠ Config.imageHeaderLength ∨ h.bodyLength < 1 ∨
          Config.imageSpace < h.length + h.bodyLength then none
      else if image.body.length < h.bodyLength then none
      else if crc32 (image.body.take h.bodyLength) ≠ h.check then none
      else if structureGood straps image.fields then some h.check
      else none
    | none => none

/-! ## Settling (R177)

A settled value stands with the number of replacements made (R177). -/

/-- A number taken as the nearer bound of its range. -/
def settleNat (lo hi n : Nat) : Nat × Nat := if n < lo then (lo, 1) else if hi < n then (hi, 1) else (n, 0)

/-- A signed number taken as the nearer bound of its range. -/
def settleInt (lo hi n : Int) : Int × Nat := if n < lo then (lo, 1) else if hi < n then (hi, 1) else (n, 0)

/-- Settle each of a list. -/
def settleList {α β : Type} (f : α → β × Nat) : List α → List β × Nat
  | [] => ([], 0)
  | x :: xs => ((f x).1 :: (settleList f xs).1, (f x).2 + (settleList f xs).2)

/-- R28: the level of a source. STOP takes 16 and a disabled NOTE keeps 0, neither a clamp. -/
def settleLevel (source level : Nat) : Nat × Nat :=
  match localClass source with
  | .stop => (Config.stopLevel, 0)
  | .hold => settleNat 1 15 level
  | .note => settleNat 0 15 level

/-- R28: the levels, from source `i` upward. -/
def settleLevels : Nat → List Nat → List Nat × Nat
  | _, [] => ([], 0)
  | i, l :: ls => ((settleLevel i l).1 :: (settleLevels (i + 1) ls).1, (settleLevel i l).2 + (settleLevels (i + 1) ls).2)

/-- R64: the positions of a wire. -/
def settleWire (r : WireRow) : WireRow × Nat :=
  let p (x : Int) : Int × Nat := settleInt (-2000000) 2000000 x
  (⟨(p r.x1).1, (p r.y1).1, (p r.x2).1, (p r.y2).1, r.bondClass, r.profile⟩,
    (p r.x1).2 + (p r.y1).2 + (p r.x2).2 + (p r.y2).2)

/-- R64: a loop profile. -/
def settleProfile (r : LoopProfile) : LoopProfile × Nat :=
  let a := settleNat 0 2000 r.loopHeight
  let b := settleNat 0 1000 r.reverse
  let c := settleNat 1000 3000 r.loopFactor
  (⟨a.1, b.1, c.1⟩, a.2 + b.2 + c.2)

/-- R64: the head settings; the safe height lies not below the search height, the low-stock threshold not above the spool
length (notes/assumptions/32). -/
def settleHead (h : HeadSettings) : HeadSettings × Nat :=
  let pitch := settleNat 0 2000000 h.rowPitch
  let search := settleNat 0 20000 h.searchHeight
  let distance := settleNat 10 5000 h.searchDistance
  let safe := settleNat (max 1000 search.1) 50000 h.safeHeight
  let tail := settleNat 100 2000 h.tailAllowance
  let spool := settleNat 1000000 4000000000 h.spoolLength
  let low := settleNat 0 spool.1 h.lowStock
  (⟨pitch.1, search.1, distance.1, safe.1, tail.1, spool.1, low.1⟩,
    pitch.2 + search.2 + distance.2 + safe.2 + tail.2 + spool.2 + low.2)

/-- R85 steps 2 to 4: a value taken as another where it stands beyond it. -/
def takeIf (beyond : Bool) (limit n : Nat) : Nat × Nat := if beyond then (limit, 1) else (n, 0)

/-- R85: a parameter set, by its four ordered steps. -/
def settleBondSet (g : BondSet) : BondSet × Nat :=
  let impact := settleNat 5 250 g.impactForce
  let force := settleNat 5 250 g.bondForce
  let power := settleNat 0 1000 g.nominalPower
  let ramp := settleNat 0 20 g.rampSteps
  let tmin := settleNat 0 500 g.minTime
  let tmax := settleNat 5 500 g.maxTime
  let st := settleNat 1 200 g.targetSink
  let smin := settleNat 0 500 g.minSink
  let smax := settleNat 0 500 g.maxSink
  let tmin' := takeIf (decide (tmax.1 < tmin.1)) tmax.1 tmin.1
  let smin' := takeIf (decide (st.1 < smin.1)) st.1 smin.1
  let smax' := takeIf (decide (smax.1 < st.1)) st.1 smax.1
  (⟨impact.1, force.1, power.1, ramp.1, tmin'.1, tmax.1, st.1, smin'.1, smax'.1⟩,
    impact.2 + force.2 + power.2 + ramp.2 + tmin.2 + tmax.2 + st.2 + smin.2 + smax.2 + tmin'.2 + smin'.2 + smax'.2)

/-- R85, R114: a bond class. -/
def settleClass (c : BondClassRow) : BondClassRow × Nat :=
  let a := settleBondSet c.first
  let b := settleBondSet c.second
  let t := settleNat 50 60000 c.pullTest
  let m := settleNat 0 60000 c.pullMin
  (⟨a.1, b.1, t.1, m.1⟩, a.2 + b.2 + t.2 + m.2)

/-- R58 steps 1 and 2: one zone. -/
def settleZone (z : ZoneSetting) : ZoneSetting × Nat :=
  let set := settleInt (-40) 500 z.tSet
  let low := settleInt (-40) 500 z.tLow
  let high := settleInt (-40) 500 z.tHigh
  let low' : Int × Nat := if set.1 < low.1 then (set.1, 1) else (low.1, 0)
  let high' : Int × Nat := if high.1 < set.1 then (set.1, 1) else (high.1, 0)
  (⟨z.enabled, set.1, low'.1, high'.1⟩, set.2 + low.2 + high.2 + low'.2 + high'.2)

/-- The smallest of a list of differences. -/
def smallestInt : List Int → Option Int
  | [] => none
  | x :: xs =>
    match smallestInt xs with
    | none => some x
    | some y => some (min x y)

/-- R58 step 4: the cool-off where some enabled zone's recovery band is empty. -/
def settleBand (zones : List ZoneSetting) (cool : Int) : Int × Nat :=
  let enabled := zones.filter (·.enabled)
  if enabled.any fun z => decide (z.tHigh - cool < z.tLow + cool) then
    (((smallestInt (enabled.map fun z => z.tHigh - z.tLow)).getD 0) / 2, 1)
  else (cool, 0)

/-- R114: the pull settings. -/
def settlePull (g : PullSettings (Option AuditMode)) : PullSettings AuditMode × Nat :=
  let clear := settleNat 100 5000 g.hookClearance
  let depth := settleNat 0 2000 g.hookDepth
  let travel := settleNat 100 10000 g.liftTravel
  let gain := settleNat 1 65535 g.gain
  let hold := settleNat 10 500 g.holdTime
  let most := settleNat 0 32 g.auditMax
  let spacing := settleNat 200 60000 g.auditSpacing
  let sample := settleNat 1 255 g.sampleInterval
  (⟨clear.1, depth.1, travel.1, gain.1, hold.1, g.auditMode.getD .off, most.1, spacing.1, g.planSpacing, sample.1⟩,
    clear.2 + depth.2 + travel.2 + gain.2 + hold.2 + most.2 + spacing.2 + sample.2)

/-- R135: the elevator settings. -/
def settleMagazine (g : MagazineSettings (Option Direction)) : MagazineSettings Direction × Nat :=
  let i := settleNat 1 50 g.inputSlots
  let o := settleNat 1 50 g.outputSlots
  let t := settleNat 200 10000 g.pushTimeout
  (⟨i.1, o.1, g.inputDirection.getD .up, g.outputDirection.getD .up, t.1⟩, i.2 + o.2 + t.2)

/-- R159: a trigger entry. -/
def settleTrigger (t : TriggerRow (Option EventKind)) : TriggerRow EventKind × Nat :=
  let page := settleNat 0 8 t.page
  let first := settleNat 0 63 t.first
  (⟨t.kind.getD .pageEnter, page.1, first.1, t.enable⟩, page.2 + first.2)

/-- R161: a descriptor entry (the initial index: notes/assumptions/28). -/
def settleDescriptor (d : DescriptorRow (Option SourceItem) (Option Format)) : DescriptorRow SourceItem Format × Nat :=
  let index := settleNat 0 512 d.initIndex
  let indexStep := settleNat 0 1 d.indexStep
  let row := settleNat 0 7 d.initRow
  let column := settleNat 0 31 d.column
  let rowStep := settleNat 0 1 d.rowStep
  let width := settleNat 1 32 d.width
  let reload := settleNat 1 255 d.reload
  (⟨d.item.getD .stationState, index.1, indexStep.1, row.1, column.1, rowStep.1, width.1, d.format.getD .text, reload.1,
    d.isRepeat, d.chain⟩,
    index.2 + indexStep.2 + row.2 + column.2 + rowStep.2 + width.2 + reload.2)

/-- R177: the program as settled, with the number of values replaced. -/
def settleProgram (p : RawProgram) : Program × Nat :=
  let wires := settleList settleWire p.wires
  let profiles := settleList settleProfile p.profiles
  let head := settleHead p.head
  let classes := settleList settleClass p.classes
  let levels := settleLevels 0 p.levels
  let mask := settleNat 0 15 p.mask
  let zones := settleList settleZone p.zones
  let cool := settleInt 1 30 p.coolOff
  let band := settleBand zones.1 cool.1
  let columnZones := settleList (settleInt 1 6) p.columnZones
  let dwell := settleNat 60 3600 p.dwellLimit
  let offer := settleNat 200 5000 p.offerTimeout
  let transfer := settleNat 1000 10000 p.transferTimeout
  let pull := settlePull p.pull
  let magazine := settleMagazine p.magazine
  let pages := settleNat 1 8 p.pageCount
  let triggers := settleList settleTrigger p.triggers
  let descriptors := settleList settleDescriptor p.descriptors
  ({ columns := p.columns
     rows := p.rows
     wires := wires.1
     profiles := profiles.1
     head := head.1
     classes := classes.1
     segments := p.segments
     spares := p.spares
     levels := levels.1
     mask := mask.1
     zones := zones.1
     coolOff := band.1
     columnZones := columnZones.1
     dwellLimit := dwell.1
     offerTimeout := offer.1
     transferTimeout := transfer.1
     pull := pull.1
     planCount := p.planCount
     plan := p.plan
     magazine := magazine.1
     pageCount := pages.1
     pageKinds := p.pageKinds.map fun k => k.getD .general
     triggers := triggers.1
     descriptors := descriptors.1 },
    wires.2 + profiles.2 + head.2 + classes.2 + levels.2 + mask.2 + zones.2 + cool.2 + band.2 + columnZones.2 + dwell.2 +
      offer.2 + transfer.2 + pull.2 + magazine.2 + pages.2 + triggers.2 + descriptors.2)

/-! ## The end of the load (R19, R28, R115, R147, R170) -/

/-- R28: the levels of the program's list, from source `i` upward. -/
def levelEntries (levels : List Nat) : Nat → List AlarmEntry → List AlarmEntry
  | _, [] => []
  | i, e :: es => (if i < 32 then { e with level := levels.getD i e.level } else e) :: levelEntries levels (i + 1) es

/-- R28, R32: levels and mask are taken from the program, and the banner is chosen again. An entry raised in BOOT stands as it
is, also where its source is then disabled (notes/assumptions/46). -/
def State.latchLevels (p : Program) (s : State) : State :=
  let new : AlarmUnit := ⟨levelEntries p.levels 0 s.alarms.entries, p.mask⟩
  { s with
    alarms := new
    line := s.line.afterAlarm s.alarms new none
    screen := s.screen.afterAlarm s.alarms new (decide (new.entries ≠ s.alarms.entries)) }

/-- R159: a trigger at the end of the load and at warm restart. -/
def Trigger.fresh (r : TriggerRow EventKind) : Trigger := ⟨r, r.enable, false⟩

/-- R161: a descriptor at the end of the load and at warm restart. -/
def Descriptor.fresh (r : DescriptorRow SourceItem Format) : Descriptor := ⟨r, r.initIndex, r.initRow, r.reload⟩

/-- R158, R159, R161: the screen's tables are taken from the program. -/
def State.latchScreen (p : Program) (s : State) : State :=
  { s with screen := { s.screen with
    pageCount := p.pageCount
    pageKinds := p.pageKinds
    triggers := p.triggers.map Trigger.fresh
    descriptors := p.descriptors.map Descriptor.fresh } }

/-- R40: the dwell limit in force is the program's, also for a strip already on the stage. -/
def State.latchDwell (s : State) : State :=
  { s with stage := { s.stage with dwell := { s.stage.dwell with limit := s.dwellLimit } } }

/-- R115: the plan is judged; a PULL station tells of an invalid one. -/
def State.latchPlan (p : Program) (s : State) : State :=
  let s1 : State := { s with pull := { s.pull with planOn := planValid p } }
  if planValid p = false ∧ s.straps.role = .pull then s1.raiseAlarm Source.planInvalid .none else s1

/-- R147: an end without a magazine. -/
def State.tellMagazines (s : State) : State :=
  let s1 := if s.straps.infeed = true ∧ s.elevator.input.magazine = false then s.raiseAlarm Source.magazineEmpty .none else s
  if s1.straps.outfeed = true ∧ s1.elevator.output.magazine = false then s1.raiseAlarm Source.magazineFull .none else s1

/-- R177: the clamped settings are told once for all. -/
def State.tellClamped (s : State) : State :=
  if 0 < s.loader.clamped then s.raiseAlarm Source.settingsClamped .none else s

/-- R19: BOOT ends: STOPPED where a STOP-class entry stands, ROLLCALL otherwise. -/
def State.leaveBoot (s : State) : State :=
  if s.alarms.stopStands then s.enterStopped.judgeRoster.settle else s.enterRollCall.settle

/-- R177: the end of the load of a valid image, in the order of notes/assumptions/29. -/
def State.loadValid (id : ProgramId) (p : Program) (clamps : Nat) (s : State) : State :=
  let s1 : State := { s with loader := ⟨.valid id p, min Config.byteCap clamps⟩ }
  let s2 := ((s1.latchLevels p).latchScreen p).latchDwell
  let s3 := (s2.latchPlan p).judgeAllZones.tellMagazines.tellClamped
  ((s3.event .rosterChange).event .pageEnter).leaveBoot

/-- R19, R28, R170: the end of the load of an invalid image. -/
def State.loadInvalid (s : State) : State :=
  let s1 : State := { s with loader := ⟨.invalid, s.loader.clamped⟩ }
  (s1.raiseAlarm Source.programInvalid .none).tellMagazines.leaveBoot

/-- LOAD_END (R19, R176, R177). -/
def execLoadEnd (image : Image) (s : State) : Host.Outcome State Fault Refusal :=
  .next <|
    if s.control.station = .boot ∧ s.loader.loaded = .loading then
      match imageId s.straps image with
      | some id => s.loadValid id (settleProgram image.fields).1 (settleProgram image.fields).2
      | none => s.loadInvalid
    else s

end Sys2Proof.Machine
end

