-- ==== Sys2Proof/Machine/Power.lean ====
section
/-! DEFINITION. Power-on (spec/02_station_states_and_alarms.md R36 and each block's power-on values) and the warm restart
(R37, R56, R147, R170, R181). -/

namespace Sys2Proof.Machine

/-! ## Power-on -/

/-- R17, R38: a strip sensed at power-on lies at column position 0 with an untracked record. Beginning in LOADED is a change of
stage state, so a STATE frame stands queued in BOOT (DESIGN CHOICE, notes/assumptions/72). -/
def State.senseStrip (present : Bool) (s : State) : State :=
  if present then s.takeUntracked unknownSerial 0 0 else s

/-- POWER_ON (R36, R38, R147): every block takes its power-on values, the straps are sampled and the stage port is read. The
commands waiting stay. -/
def execPowerOn (straps : Straps) (reading : FirstReading) (s : State) : Host.Outcome State Fault Refusal :=
  .next <|
    let s1 : State := { State.reset with straps := straps, pending := s.pending }
    let s2 := s1.senseStrip reading.strip
    let s3 := if reading.inputMagazine then s2.senseInput else s2
    if reading.outputMagazine then s3.senseOutput else s3

/-! ## Warm restart -/

/-- R181: this station's own RESTART frame has left. -/
def LineUnit.restartLeft (l : LineUnit) : Bool := l.queue.all fun e => decide (e.body ≠ .restart)

/-- R37, R181: the warm restart acts: asked for, the cycle IDLE, no frame of this station's on the line, its own RESTART
frame sent. -/
def State.restartActs (s : State) : Bool :=
  s.control.restartWaiting && decide (s.control.station ≠ .boot) && !s.cycleInFlight && !s.line.sending && s.line.restartLeft

/-- R27, R37: an alarm entry after a warm restart: the level is kept, and so is a mirror entry's class (DESIGN CHOICE,
notes/assumptions/17). -/
def AlarmEntry.restarted (e : AlarmEntry) : AlarmEntry :=
  { e with state := .clear, condition := false, count := 0, detail := .none }

/-- R37: the alarm table is cleared. No ALARM frame tells of it (notes/assumptions/45). -/
def State.clearAlarms (s : State) : State :=
  let new : AlarmUnit := { s.alarms with entries := s.alarms.entries.map AlarmEntry.restarted }
  { s with
    alarms := new
    line := s.line.afterAlarm s.alarms new none
    screen := s.screen.afterAlarm s.alarms new (decide (new.entries ≠ s.alarms.entries)) }

/-- R37: the hold request and the line-started flag are cleared, and the request for the restart is spent. -/
def State.clearRequests (s : State) : State :=
  { s with control := { s.control with holdRequest := false, lineStarted := false, restartWaiting := false } }

/-- R178: a roster with every entry absent. -/
def emptyRoster : List RosterEntry := List.replicate 8 RosterEntry.absent

/-- R178, R181: what the warm restart does to the line unit; the roster's emptying is shown where it changes an entry
(R160). -/
def State.restartLine (s : State) : State :=
  { s with
    line := { s.line with
      queue := []
      waiting := []
      unheard := 0
      roster := emptyRoster
      rollCallTimer := .stopped }
    screen := if s.line.roster = emptyRoster then s.screen else s.screen.raise .rosterChange }

/-- R170: both chord keys still held are not counted again. -/
def ChordKeys.restarted (k : ChordKeys) : ChordKeys :=
  if k.ackDown && k.resumeDown then { k with ackCounted := true, resumeCounted := true } else k

/-- R170: what the warm restart does to the screen unit. -/
def ScreenUnit.restarted (c : ScreenUnit) : ScreenUnit :=
  ScreenUnit.raise .pageEnter { c with
    buffer := List.replicate Config.screenRows blankRow
    triggers := c.triggers.map fun t => Trigger.fresh t.row
    descriptors := c.descriptors.map fun d => Descriptor.fresh d.row
    notice := false
    keys := c.keys.restarted }

/-- R37: the conditions whose owners raise them anew, in the order R37 names them. -/
def renewedSources : List Source :=
  [Source.heatPause, Source.zoneSensor, Source.wireLow, Source.wireEnd, Source.planInvalid, Source.magazineEmpty,
    Source.magazineFull, Source.noCover, Source.dwellLimit]

/-- R37: the conditions present in `old` are raised anew, with the details they held (notes/assumptions/10). -/
def State.renew (old : AlarmUnit) : List Source → State → State
  | [], s => s
  | i :: is, s =>
    State.renew old is (if (old.entry i).condition then s.raiseAlarm i (old.entry i).detail else s)

/-- R37: the state after a warm restart: ROLLCALL, or STOPPED with PROGRAM_INVALID raised anew. -/
def State.restartState (s : State) : State :=
  if s.loader.loaded = .invalid then (s.raiseAlarm Source.programInvalid .none).settle else s.enterRollCall.settle

/-- R37, R56, R170, R181: the warm restart, in the order of notes/assumptions/10. -/
def State.restart (s : State) : State :=
  let s1 : State := { s with screen := s.screen.restarted }
  let s2 := s1.restartLine.clearAlarms.clearRequests.restartStage
  (s2.renew s.alarms renewedSources).restartState

/-- WARM_RESTART (R37). -/
def execWarmRestart (s : State) : Host.Outcome State Fault Refusal :=
  .next <| if s.restartActs then s.restart else s

end Sys2Proof.Machine
end

