-- ==== Sys2Proof/Machine/Names.lean ====
section
/-! DEFINITION. How values are written out: decimal numbers, the manual's names, serials, alarm details, and the lines of a
report (R156, R164, R187). -/

namespace Sys2Proof.Machine

/-- A string as characters. -/
def word (w : String) : Text := w.toList

/-- A number in decimal without leading zeros. -/
def decimal (n : Nat) : Text := Nat.toDigits 10 n

/-- Characters padded on the left to a width. -/
def padLeft (w : Nat) (c : Char) (t : Text) : Text := List.replicate (w - t.length) c ++ t

/-- Characters left-aligned in exactly `w` places: cut, and padded with spaces. -/
def fit (w : Nat) (t : Text) : Text := t.take w ++ List.replicate (w - t.length) ' '

/-- Section 5.3: a serial as `mmmm-ss`. -/
def serialText (x : Serial) : Text := padLeft 4 '0' (decimal x.magSeq) ++ '-' :: padLeft 2 '0' (decimal x.slot)

/-! ## Names -/

def roleName : Role → Text
  | .head => word "HEAD"
  | .pull => word "PULL"

def stationName : StationState → Text
  | .boot => word "BOOT"
  | .rollcall => word "ROLLCALL"
  | .ready => word "READY"
  | .run => word "RUN"
  | .paused => word "PAUSED"
  | .held => word "HELD"
  | .stopped => word "STOPPED"

def headName : HeadState → Text
  | .headOut => word "OUT"
  | .headIn => word "IN"

def stageName : StageState → Text
  | .empty => word "EMPTY"
  | .feeding => word "FEEDING"
  | .receiving => word "RECEIVING"
  | .loaded => word "LOADED"
  | .finished => word "FINISHED"
  | .offering => word "OFFERING"
  | .handing => word "HANDING"
  | .unloading => word "UNLOADING"

def causeName : RejectCause → Text
  | .noSurface => word "NO_SURFACE"
  | .nonStick1 => word "NON_STICK_1"
  | .nonStick2 => word "NON_STICK_2"
  | .bondFail => word "BOND_FAIL"
  | .aborted => word "ABORTED"
  | .pullFail => word "PULL_FAIL"
  | .pullSacrifice => word "PULL_SACRIFICE"
  | .incomplete => word "INCOMPLETE"

def statusName : UnitStatus → Text
  | .isOpen => word "OPEN"
  | .done => word "DONE"
  | .reject _ => word "REJECT"
  | .skip => word "SKIP"

def outcomeName : PullOutcome → Text
  | .held => word "HELD"
  | .pass => word "PASS"
  | .low => word "LOW"
  | .lift2 => word "LIFT_2"
  | .lift1 => word "LIFT_1"
  | .failNd => word "FAIL_ND"
  | .noHook => word "NO_HOOK"

def breakName : BreakCode → Text
  | .noBreak => word "NONE"
  | .neck => word "NECK"
  | .span => word "SPAN"
  | .heel => word "HEEL"
  | .ballLift => word "BALL_LIFT"
  | .stitchLift => word "STITCH_LIFT"
  | .unknown => word "UNKNOWN"

def kindName : PullKind → Text
  | .suspect => word "SUSPECT"
  | .plan => word "PLAN"
  | .confirm => word "CONFIRM"
  | .audit => word "AUDIT"

def modeName : PullMode → Text
  | .nondestruct => word "NONDESTRUCT"
  | .destruct => word "DESTRUCT"

def suspectName : SuspectCause → Text
  | .shortSink => word "SHORT_SINK"
  | .saturated => word "SATURATED"

def alarmStateName : AlarmState → Text
  | .clear => word "CLEAR"
  | .active => word "ACTIVE"
  | .acked => word "ACKED"

def className : AlarmClass → Text
  | .note => word "NOTE"
  | .hold => word "HOLD"
  | .stop => word "STOP"

def zoneCauseName : ZoneCause → Text
  | .none => word "NONE"
  | .hot => word "HOT"
  | .cold => word "COLD"

/-- R165: the side of a bond (notes/assumptions/26). -/
def sideName : Side → Text
  | .first => word "FIRST"
  | .second => word "SECOND"

def bondOutcomeName : BondOutcome → Text
  | .crush => word "CRUSH"
  | .sinkMet => word "SINK_MET"
  | .fast => word "FAST"
  | .timed => word "TIMED"
  | .short => word "SHORT"
  | .aborted => word "ABORTED"

def wireCycleName : WireCycle → Text
  | .idle => word "IDLE"
  | .toFirst => word "TO_FIRST"
  | .searchFirst => word "SEARCH_FIRST"
  | .bondFirst => word "BOND_FIRST"
  | .looping => word "LOOPING"
  | .searchSecond => word "SEARCH_SECOND"
  | .bondSecond => word "BOND_SECOND"
  | .tailing => word "TAILING"
  | .flaming => word "FLAMING"

def pullCycleName : PullCycle → Text
  | .idle => word "IDLE"
  | .toWire => word "TO_WIRE"
  | .hooking => word "HOOKING"
  | .lifting => word "LIFTING"
  | .holding => word "HOLDING"
  | .releasing => word "RELEASING"

def inputSlotName : InputSlot → Text
  | .unknown => word "UNKNOWN"
  | .vacant => word "VACANT"
  | .taken => word "TAKEN"
  | .misfed => word "MISFED"

def outputSlotName : OutputSlot → Text
  | .empty => word "EMPTY"
  | .filled _ _ _ => word "FILLED"
  | .blocked => word "BLOCKED"

/-- A mark or flag that is set or clear (notes/assumptions/26). -/
def setName (b : Bool) : Text := if b then word "SET" else word "CLEAR"

/-- A flag that is true or false (notes/assumptions/26). -/
def trueName (b : Bool) : Text := if b then word "TRUE" else word "FALSE"

/-- Section 3: the end flags as strapped (notes/assumptions/26). -/
def endFlagsName (p : Straps) : Text :=
  match p.infeed, p.outfeed with
  | true, true => word "INFEED OUTFEED"
  | true, false => word "INFEED"
  | false, true => word "OUTFEED"
  | false, false => word "NONE"

/-- R27: the names of sources 0 to 31. -/
def sourceNames : List String :=
  ["STOP_KEY", "DUPLICATE_STATION", "LINE_LAYOUT", "PROGRAM_INVALID", "PROGRAM_MISMATCH", "ROSTER_GAP", "LINE_ALONE",
    "HANDOFF_TIMEOUT", "MISFEED", "NON_STICK_1", "NON_STICK_2", "SEARCH_FAIL_2", "FLAME_FAIL", "TRIM_LIMIT",
    "PROCESS_DRIFT", "NO_COVER", "DWELL_LIMIT", "HOOK_MISS", "CONFIRM_FAIL", "HEAT_PAUSE", "ZONE_SENSOR", "WIRE_LOW",
    "WIRE_END", "PLAN_INVALID", "MAGAZINE_EMPTY", "MAGAZINE_FULL", "UNTRACKED_STRIP", "REPORT_LOSS", "SETTINGS_CLAMPED",
    "SUSPECT_DROP", "SLOT_BLOCKED", "MISSING_DIE"]

/-- R27: the name of a source; 32 to 39 are PEER_1 to PEER_8. -/
def sourceName (i : Nat) : Text :=
  match sourceNames[i]? with
  | some n => n.toList
  | none => word "PEER_" ++ decimal (i - 31)

/-- R156: the name the banner shows an entry by: a mirror entry by its peer's source. -/
def shownName (i : Nat) (e : AlarmEntry) : Text :=
  match e.detail with
  | .peer _ source => sourceName source
  | _ => sourceName i

/-- R156: a detail as it is written; blank for none, and of a mirror entry's the peer station alone
(notes/assumptions/60). -/
def detailText : Detail → Text
  | .none => []
  | .unitWire u w => padLeft 2 '0' (decimal u) ++ '/' :: padLeft 3 '0' (decimal w)
  | .station k => 'S' :: decimal k
  | .lineSeq q => decimal q
  | .slot n => decimal n
  | .zone n => decimal n
  | .bondClass n => decimal n
  | .peer k _ => 'S' :: decimal k

/-! ## Report lines (R187) -/

/-- R187: a flag as its letter when set and as `-` when clear. -/
def flagText (letter : Char) (b : Bool) : Text := [if b then letter else '-']

/-- R187: a field that may be absent. -/
def orDash (t : Option Text) : Text := t.getD ['-']

/-- R187: fields separated by single spaces. -/
def spaced : List Text → Text
  | [] => []
  | [t] => t
  | t :: ts => t ++ ' ' :: spaced ts

/-- R187: a progress entry. -/
def progressText (g : Progress) : Text :=
  decimal g.next ++ '/' :: decimal g.startedBy ++ '/' :: decimal g.finishedBy ++ '/' :: decimal g.split

/-- R3: the cause of a REJECT. -/
def statusCause (s : UnitStatus) : Option RejectCause :=
  match s with
  | .reject c => some c
  | _ => none

/-- R187: the characters of a report line, its ending aside. -/
def lineText : ReportLine → Text
  | .trackedHeader serial q units segments dwell sample dropped suspects slot good reject lost =>
    spaced [word "H", word "TRACKED", serialText serial, decimal q, decimal units, decimal segments, flagText 'D' dwell,
      flagText 'S' sample, decimal dropped, decimal suspects, decimal slot, decimal good, decimal reject, decimal lost]
  | .untrackedHeader serial q dwell slot good reject lost =>
    spaced [word "H", word "UNTRACKED", serialText serial, decimal q, flagText 'D' dwell, decimal slot, decimal good,
      decimal reject, decimal lost]
  | .unit n e =>
    spaced ([word "U", decimal n, statusName e.status, orDash ((statusCause e.status).map causeName), decimal e.pulls,
      orDash (e.worst.map outcomeName)] ++ e.progress.map progressText)
  | .pull r =>
    spaced [word "P", serialText r.serial, decimal r.lineSeq, decimal r.unit, decimal r.wire, decimal r.bondClass,
      decimal r.bondedBy, kindName r.kind, modeName r.mode, outcomeName r.outcome, breakName r.breakCode, decimal r.force,
      flagText 'O' r.overrange, flagText 'C' r.confirmFail]
  | .ending q total pulls dropped =>
    spaced [word "E", decimal q, decimal total, decimal pulls, decimal dropped]

/-- R187: a line with its carriage return and line feed. -/
def sentLine (l : ReportLine) : Text := lineText l ++ [Char.ofNat 13, Char.ofNat 10]

/-- R154, R187: the characters the record port sends for a report. -/
def reportText (lines : List ReportLine) : Text := lines.flatMap sentLine

end Sys2Proof.Machine
end

