-- ==== Sys2Proof/Machine/Screen.lean ====
section
/-! DEFINITION. The display and the field engine (spec/10_operator_screens.md, 10.1, 10.4, 10.5): what row 0 shows, the
source items, the formats, and a walk of a descriptor chain. -/

namespace Sys2Proof.Machine

/-! ## Row 0 (R155, R156) -/

/-- R156: the class letter. -/
def classLetter : AlarmClass → Char
  | .stop => 'S'
  | .hold => 'H'
  | .note => 'N'

/-- R156: the banner's 32 characters for entry `i`. -/
def AlarmUnit.bannerText (a : AlarmUnit) (i : Nat) : Text :=
  let e := a.entry i
  classLetter (a.classOf i) :: ' ' :: (padLeft 2 ' ' (decimal e.level) ++ ' ' :: (fit 14 (shownName i e) ++ ' ' ::
    (fit 8 (detailText e.detail) ++ ' ' :: padLeft 3 ' ' (decimal e.count))))

/-- R155: what row 0 of the display shows. -/
def State.displayRow0 (s : State) : Text :=
  match s.alarms.banner with
  | some i => s.alarms.bannerText i
  | none => if s.screen.notice then fit 32 (word "ALARMS REMAIN") else s.screen.buffer.getD 0 blankRow

/-- R155: the eight rows the display shows. -/
def State.display (s : State) : List Text := s.displayRow0 :: s.screen.buffer.drop 1

/-! ## Source items (R165) -/

/-- R164, R165: the value of a source item. -/
inductive ItemValue where
  | absent
  | number (n : Int)
  | name (t : Text)
  /-- the unit map row, by its glyphs -/
  | glyphs (t : Text)
deriving DecidableEq, Repr

/-- A count as a value. -/
def ItemValue.ofNat (n : Nat) : ItemValue := .number n

/-- A value that may be absent. -/
def orAbsent (v : Option ItemValue) : ItemValue := v.getD .absent

/-- R165: entry `i` of a list whose entries are numbered from 1. -/
def nth {α : Type} (l : List α) (i : Nat) : Option α := if i = 0 then none else l[i - 1]?

/-- R165: an item of an entry that may not be there. -/
def itemOf {α : Type} (o : Option α) (f : α → ItemValue) : ItemValue := orAbsent (o.map f)

/-- R164: the glyph of a unit. -/
def glyph : UnitStatus → Char
  | .isOpen => '.'
  | .done => '#'
  | .reject _ => 'x'
  | .skip => '-'

/-- R164: the glyph of the unit in column `c` and row `r`; every glyph of an untracked record is `?`,
and so is that of a position for which a tracked record's unit table holds no entry (DESIGN CHOICE, notes/assumptions/74). -/
def StripRecord.glyphAt (x : StripRecord) (rows r c : Nat) : Char :=
  match x.tracked with
  | some t =>
    match t.unit? (unitIndex rows c r) with
    | some e => glyph e.status
    | none => '?'
  | none => '?'

/-- R164, R165: the unit map of strip row `r`. -/
def State.mapRow (s : State) (r : Nat) : ItemValue :=
  match s.stage.record with
  | some x =>
    if 1 ≤ r ∧ r ≤ s.rows then .glyphs ((countFrom 1 s.columns).map (x.glyphAt s.rows r)) else .absent
  | none => .absent

/-- R165: the progress entry at an index unit × 8 + segment − 8. -/
def State.progressAt (s : State) (i : Nat) : Option Progress :=
  if i = 0 then none else (s.unit? ((i - 1) / 8 + 1)).bind fun e => e.progress[(i - 1) % 8]?

/-- R165: the suspect entry. -/
def State.suspectAt (s : State) (i : Nat) : Option Suspect := s.tracked?.bind fun t => nth t.suspects i

/-- R165: the trim entry of a class. -/
def State.trimAt (s : State) (i : Nat) : Option TrimEntry := s.energy.trims[i]?

/-- R165: the roster entry of a station that is present. -/
def State.peerAt (s : State) (i : Nat) : Option RosterEntry :=
  if 1 ≤ i ∧ i ≤ 8 ∧ (s.rosterEntry i).identity.isSome then some (s.rosterEntry i) else none

/-- R165: what a present station last reported. One whose STATE frame has not been heard has no values to show, and its items
are absent (DESIGN CHOICE, notes/assumptions/73). -/
def State.reportAt (s : State) (i : Nat) : Option StatePayload := (s.peerAt i).bind (·.report)

/-- R165: an alarm entry. -/
def State.alarmAt (s : State) (i : Nat) : Option AlarmEntry := s.alarms.entries[i]?

/-- R165: a zone. -/
def State.zoneAt (s : State) (i : Nat) : Option ZoneState := if 1 ≤ i ∧ i ≤ 6 then some (s.heat.zone i) else none

/-- R165: an input slot the magazine has. -/
def State.inputSlotAt (s : State) (i : Nat) : Option InputSlot :=
  if i ≤ s.setting (·.magazine.inputSlots) 0 then nth s.elevator.inputSlots i else none

/-- R165: an output slot the magazine has. -/
def State.outputSlotAt (s : State) (i : Nat) : Option OutputSlot :=
  if i ≤ s.setting (·.magazine.outputSlots) 0 then nth s.elevator.outputSlots i else none

/-- R165: a FILLED output slot. -/
def State.filledAt (s : State) (i : Nat) (f : Serial → Nat → Nat → ItemValue) : ItemValue :=
  match s.outputSlotAt i with
  | some (.filled serial good reject) => f serial good reject
  | _ => .absent

/-- R165: a detail as text, also where it is a bare number (notes/assumptions/53); blank for none. -/
def detailItem (d : Detail) : ItemValue := if d = .none then .absent else .name (detailText d)

/-- R165: the items of a pull result. -/
def resultItem (item : SourceItem) (r : PullResult) : ItemValue :=
  match item with
  | .pullLogUnit => .ofNat r.unit
  | .failLogUnit => .ofNat r.unit
  | .pullLogWire => .ofNat r.wire
  | .failLogWire => .ofNat r.wire
  | .pullLogKind => .name (kindName r.kind)
  | .failLogKind => .name (kindName r.kind)
  | .pullLogOutcome => .name (outcomeName r.outcome)
  | .failLogOutcome => .name (outcomeName r.outcome)
  | .pullLogBreak => .name (breakName r.breakCode)
  | .failLogBreak => .name (breakName r.breakCode)
  | .pullLogForce => .ofNat r.force
  | .failLogForce => .ofNat r.force
  | .pullLogBondedBy => .ofNat r.bondedBy
  | .failLogBondedBy => .ofNat r.bondedBy
  | _ => .absent

/-- R165: a source item at an index. The items are R165's, so the two maps of R112 are none (notes/assumptions/49); the
dropped-suspects count of an untracked record is 0 (notes/assumptions/54), and the texts of the flags, of the tracked flag and of
roster presence are the model's (notes/assumptions/26). -/
def State.item (s : State) (item : SourceItem) (i : Nat) : ItemValue :=
  match item with
  | .stationState => .name (stationName s.control.station)
  | .headState => .name (headName s.control.head)
  | .stageState => .name (stageName s.stage.state)
  | .stationNumber => .ofNat s.straps.station
  | .role => .name (roleName s.straps.role)
  | .endFlags => .name (endFlagsName s.straps)
  | .currentPage => .ofNat s.screen.page
  | .serial => itemOf s.stage.record fun r => .name (serialText r.serial)
  | .lineSequence => itemOf s.stage.record fun r => .ofNat r.lineSeq
  | .trackedFlag => itemOf s.stage.record fun r =>
      .name (if r.tracked.isSome then word "TRACKED" else word "UNTRACKED")
  | .dwellFlag => itemOf s.stage.record fun r => .name (setName r.dwell)
  | .sampleFlag => itemOf s.stage.record fun r => .name (setName r.sample)
  | .droppedSuspects => itemOf s.stage.record fun r => .ofNat ((r.tracked.map (·.dropped)).getD 0)
  | .columnPosition => .ofNat s.stage.column
  | .unitMapRow => s.mapRow i
  | .unitStatus => itemOf (s.unit? i) fun e => .name (statusName e.status)
  | .rejectCause => itemOf ((s.unit? i).bind fun e => statusCause e.status) fun c => .name (causeName c)
  | .pullCount => itemOf (s.unit? i) fun e => .ofNat e.pulls
  | .worstPull => itemOf ((s.unit? i).bind (·.worst)) fun o => .name (outcomeName o)
  | .nextWire => itemOf (s.progressAt i) fun g => .ofNat g.next
  | .startedBy => itemOf (s.progressAt i) fun g => .ofNat g.startedBy
  | .finishedBy => itemOf (s.progressAt i) fun g => .ofNat g.finishedBy
  | .split => itemOf (s.progressAt i) fun g => .ofNat g.split
  | .suspectUnit => itemOf (s.suspectAt i) fun x => .ofNat x.unit
  | .suspectWire => itemOf (s.suspectAt i) fun x => .ofNat x.wire
  | .suspectCause => itemOf (s.suspectAt i) fun x => .name (suspectName x.cause)
  | .firstTrim => itemOf (s.trimAt i) fun t => .number t.first
  | .secondTrim => itemOf (s.trimAt i) fun t => .number t.second
  | .goodRun => itemOf (s.trimAt i) fun t => .ofNat t.goodRun
  | .lastBondClass => itemOf s.energy.lastBond fun b => .ofNat b.bondClass
  | .lastBondSide => itemOf s.energy.lastBond fun b => .name (sideName b.side)
  | .lastBondPower => itemOf s.energy.lastBond fun b => .ofNat b.power
  | .lastBondSaturated => itemOf s.energy.lastBond fun b => .name (setName b.saturated)
  | .lastBondOutcome => itemOf s.energy.lastBond fun b => .name (bondOutcomeName b.outcome)
  | .lastBondSamples => itemOf s.energy.lastBond fun b => .ofNat b.samples
  | .lastBondSink => itemOf s.energy.lastBond fun b => .ofNat b.sink
  | .lastBondGenerator => itemOf (s.energy.lastBond.bind (·.generator)) .ofNat
  | .zoneReading => itemOf ((s.zoneAt i).bind (·.reading)) .number
  | .zoneCause => itemOf (s.zoneAt i) fun z => .name (zoneCauseName z.cause)
  | .zoneSet => itemOf (s.zoneAt i) fun _ => .number (s.zoneSetting i).tSet
  | .wireStock => .ofNat s.wire.stock
  | .ballReady => .name (trueName s.wire.ballReady)
  | .wireCycle => .name (wireCycleName s.wire.cycle)
  | .wiresBonded => .ofNat s.wire.wiresBonded
  | .unitsDone => .ofNat s.wire.unitsDone
  | .unitsRejected => .ofNat s.wire.unitsRejected
  | .fastCount => .ofNat s.energy.fastCount
  | .pullCycle => .name (pullCycleName s.pull.cycle)
  | .hookMissCount => .ofNat s.pull.hookMiss
  | .auditCursor => .ofNat s.pull.cursor
  | .auditCount => .ofNat s.pull.auditCount
  | .planState => .name (if s.pull.planOn then word "ON" else word "OFF")
  | .confirmWire => itemOf s.pull.pending fun c => .ofNat c.wire
  | .confirmStation => itemOf s.pull.pending fun c => .ofNat c.bondedBy
  | .confirmOrigin => itemOf s.pull.pending fun c => .ofNat c.origin
  | .pullLogUnit => itemOf (nth s.pull.log i) (resultItem .pullLogUnit)
  | .pullLogWire => itemOf (nth s.pull.log i) (resultItem .pullLogWire)
  | .pullLogKind => itemOf (nth s.pull.log i) (resultItem .pullLogKind)
  | .pullLogOutcome => itemOf (nth s.pull.log i) (resultItem .pullLogOutcome)
  | .pullLogBreak => itemOf (nth s.pull.log i) (resultItem .pullLogBreak)
  | .pullLogForce => itemOf (nth s.pull.log i) (resultItem .pullLogForce)
  | .pullLogBondedBy => itemOf (nth s.pull.log i) (resultItem .pullLogBondedBy)
  | .failLogUnit => itemOf (nth s.pull.failures i) (resultItem .failLogUnit)
  | .failLogWire => itemOf (nth s.pull.failures i) (resultItem .failLogWire)
  | .failLogKind => itemOf (nth s.pull.failures i) (resultItem .failLogKind)
  | .failLogOutcome => itemOf (nth s.pull.failures i) (resultItem .failLogOutcome)
  | .failLogBreak => itemOf (nth s.pull.failures i) (resultItem .failLogBreak)
  | .failLogForce => itemOf (nth s.pull.failures i) (resultItem .failLogForce)
  | .failLogBondedBy => itemOf (nth s.pull.failures i) (resultItem .failLogBondedBy)
  | .failLogCount => .ofNat s.pull.failures.length
  | .discardCounter => .ofNat s.pull.discards
  | .alarmState => itemOf (s.alarmAt i) fun e => .name (alarmStateName e.state)
  | .alarmClass => itemOf (s.alarmAt i) fun _ => .name (className (s.alarms.classOf i))
  | .alarmLevel => itemOf (s.alarmAt i) fun e => .ofNat e.level
  | .alarmCount => itemOf (s.alarmAt i) fun e => .ofNat e.count
  | .alarmDetail => itemOf (s.alarmAt i) fun e => detailItem e.detail
  | .alarmName => itemOf (s.alarmAt i) fun _ => .name (sourceName i)
  | .rosterPresence =>
    if 1 ≤ i ∧ i ≤ 8 then .name (if s.present i then word "PRESENT" else word "ABSENT") else .absent
  | .rosterRole => itemOf ((s.peerAt i).bind (·.identity)) fun x => .name (roleName x.role)
  | .rosterStation => itemOf (s.reportAt i) fun x => .name (stationName x.station)
  | .rosterHead => itemOf (s.reportAt i) fun x => .name (headName x.head)
  | .rosterStage => itemOf (s.reportAt i) fun x => .name (stageName x.stage)
  | .rosterReady => itemOf (s.reportAt i) fun x => .name (trueName x.ready)
  | .unheardCount => .ofNat s.line.unheard
  | .lostFrames => .ofNat s.line.lost
  | .clampedSettings => .ofNat s.loader.clamped
  | .reportLost => .ofNat s.report.lost
  | .freePlaces => .ofNat s.report.free
  | .inputSlot => itemOf (s.inputSlotAt i) fun x => .name (inputSlotName x)
  | .outputSlot => itemOf (s.outputSlotAt i) fun x => .name (outputSlotName x)
  | .outputSerial => s.filledAt i fun serial _ _ => .name (serialText serial)
  | .outputGood => s.filledAt i fun _ good _ => .ofNat good
  | .outputReject => s.filledAt i fun _ _ reject => .ofNat reject
  | .magazineSequence => .ofNat s.elevator.magSeq
  | .lineSequenceCounter => .ofNat s.elevator.lineSeqCounter

/-! ## Formats (R164) -/

/-- A field of one character. -/
def filled (w : Nat) (c : Char) : Text := List.replicate w c

/-- R164: characters right-aligned in a field, or `*` where they do not fit. -/
def rightOrStars (w : Nat) (pad : Char) (t : Text) : Text := if w < t.length then filled w '*' else padLeft w pad t

/-- R164: the sign of a signed number. -/
def signOf (n : Int) : Char := if n < 0 then '-' else if 0 < n then '+' else ' '

/-- R164: a number in decimal, with a minus sign below 0 (notes/assumptions/52). -/
def numberText (n : Int) : Text := if n < 0 then '-' :: decimal n.natAbs else decimal n.natAbs

/-- R164: upper-case hexadecimal digits. -/
def hexText (n : Nat) : Text := (Nat.toDigits 16 n).map Char.toUpper

/-- R164: a value in a field of width `w`. TEXT writes the unit map row as MAP does (DESIGN CHOICE, notes/assumptions/77). -/
def formatValue (f : Format) (w : Nat) (v : ItemValue) : Text :=
  match f, v with
  | .dec, .number n => if n < 0 then filled w '*' else rightOrStars w ' ' (decimal n.toNat)
  | .sdec, .number n => rightOrStars w ' ' (signOf n :: decimal n.natAbs)
  | .hex, .number n => if n < 0 then filled w '*' else rightOrStars w '0' (hexText n.toNat)
  | .text, .number n => fit w (numberText n)
  | .text, .name t => fit w t
  | .text, .glyphs t => fit w t
  | .map, .glyphs t => fit w t
  | _, _ => filled w ' '

/-! ## The field engine (R162, R163) -/

/-- R163: characters written into a row from a column onward; those beyond position 31 are not written. -/
def overlay (column : Nat) (t row : Text) : Text :=
  row.take column ++ (t.take (Config.screenColumns - column) ++ row.drop (column + t.length))

/-- R163: a descriptor's working values after a transfer. -/
def Descriptor.stepped (d : Descriptor) : Descriptor :=
  if d.count ≤ 1 then
    if d.row.isRepeat then { d with index := d.row.initIndex, currentRow := d.row.initRow, count := d.row.reload }
    else { d with index := d.index + d.row.indexStep, currentRow := d.currentRow + d.row.rowStep, count := 0 }
  else
    { d with index := d.index + d.row.indexStep, currentRow := d.currentRow + d.row.rowStep, count := d.count - 1 }

/-- R163: a ONCE descriptor that has stopped. -/
def Descriptor.spent (d : Descriptor) : Bool := !d.row.isRepeat && decide (d.count = 0)

/-- R163: a trigger whose first descriptor has stopped. -/
def Trigger.disabled (t : Trigger) : Trigger := { t with enabled := false, pending := false }

/-- R163: the transfer of descriptor `n`, `d`, serving trigger `t` whose first descriptor is `first`. -/
def State.transfer (t first n : Nat) (d : Descriptor) (s : State) : State :=
  if d.spent then s
  else
    let chars := formatValue d.row.format d.row.width (s.item d.row.item d.index)
    let d' := d.stepped
    { s with screen := { s.screen with
      buffer := modifyAt (overlay d.row.column chars) d.currentRow s.screen.buffer
      descriptors := s.screen.descriptors.set n d'
      triggers :=
        if d'.spent = true ∧ n = first then modifyAt Trigger.disabled t s.screen.triggers else s.screen.triggers } }

/-- R162: a walk from descriptor `n`, of at most `fuel` transfers. -/
def State.walk (t first : Nat) : Nat → Nat → State → State
  | 0, _, s => s
  | fuel + 1, n, s =>
    match s.screen.descriptors[n]? with
    | some d =>
      let s1 := s.transfer t first n d
      if d.row.chain = true ∧ n < 63 then State.walk t first fuel (n + 1) s1 else s1
    | none => s

/-- R162: the pending trigger of lowest number. -/
def ScreenUnit.pendingTrigger (c : ScreenUnit) : Option Nat := c.triggers.findIdx? (·.pending)

/-- FIELD_ENGINE_WALK (R162, R163, R166): with no banner shown, the lowest pending trigger is served whole
(notes/assumptions/40). -/
def execFieldEngineWalk (s : State) : Host.Outcome State Fault Refusal :=
  .next <|
    if s.bannerShown then s
    else
      match s.screen.pendingTrigger with
      | some t =>
        match s.screen.triggers[t]? with
        | some g =>
          State.walk t g.row.first 64 g.row.first { s with screen := { s.screen with
            triggers := modifyAt (fun g => { g with pending := false }) t s.screen.triggers } }
        | none => s
      | none => s

end Sys2Proof.Machine
end

