-- ==== Sys2Proof/Machine/Dispatch.lean ====
section
/-! DEFINITION. One arm for each command, each a direct call of its meaning. -/

namespace Sys2Proof.Machine

def exec (i : Instr) (s : State) : Host.Outcome State Fault Refusal :=
  match i with
  | .powerOn straps reading => Sys2Proof.Machine.execPowerOn straps reading s
  | .loadEnd image => Sys2Proof.Machine.execLoadEnd image s
  | .pageKey => Sys2Proof.Machine.execPageKey s
  | .ackKey => Sys2Proof.Machine.execAckKey s
  | .holdKey => Sys2Proof.Machine.execHoldKey s
  | .resumeKey sensors => Sys2Proof.Machine.execResumeKey sensors s
  | .stopButton => Sys2Proof.Machine.execStopButton s
  | .keyRelease key => Sys2Proof.Machine.execKeyRelease key s
  | .chordTimerExpiry => Sys2Proof.Machine.execChordTimerExpiry s
  | .warmRestart => Sys2Proof.Machine.execWarmRestart s
  | .stopFrame sender => Sys2Proof.Machine.execStopFrame sender s
  | .restartFrame sender => Sys2Proof.Machine.execRestartFrame sender s
  | .presentFrame sender p => Sys2Proof.Machine.execPresentFrame sender p s
  | .alarmFrame sender p => Sys2Proof.Machine.execAlarmFrame sender p s
  | .stateFrame sender p => Sys2Proof.Machine.execStateFrame sender p s
  | .lineStartFrame sender => Sys2Proof.Machine.execLineStartFrame sender s
  | .offerFrame sender target p => Sys2Proof.Machine.execOfferFrame sender target p s
  | .takeFrame sender target p => Sys2Proof.Machine.execTakeFrame sender target p s
  | .refuseFrame sender target p => Sys2Proof.Machine.execRefuseFrame sender target p s
  | .arrivedFrame sender target p => Sys2Proof.Machine.execArrivedFrame sender target p s
  | .recordFrame sender target p => Sys2Proof.Machine.execRecordFrame sender target p s
  | .pullResultFrame sender p => Sys2Proof.Machine.execPullResultFrame sender p s
  | .frameDiscard bytes => Sys2Proof.Machine.execFrameDiscard bytes s
  | .frameSendStart => Sys2Proof.Machine.execFrameSendStart s
  | .arbitrationLost => Sys2Proof.Machine.execArbitrationLost s
  | .frameSendEnd acked => Sys2Proof.Machine.execFrameSendEnd acked s
  | .waitingFrameJoins => Sys2Proof.Machine.execWaitingFrameJoins s
  | .boundaryTaken => Sys2Proof.Machine.execBoundaryTaken s
  | .zoneVisit valid reading => Sys2Proof.Machine.execZoneVisit valid reading s
  | .dwellLimitReached => Sys2Proof.Machine.execDwellLimitReached s
  | .stageChooseWork => Sys2Proof.Machine.execStageChooseWork s
  | .indexMotionEnd => Sys2Proof.Machine.execIndexMotionEnd s
  | .offerSend => Sys2Proof.Machine.execOfferSend s
  | .offerTimerExpiry => Sys2Proof.Machine.execOfferTimerExpiry s
  | .senderTransferTimeout => Sys2Proof.Machine.execSenderTransferTimeout s
  | .receiverTransferTimeout => Sys2Proof.Machine.execReceiverTransferTimeout s
  | .arrival => Sys2Proof.Machine.execArrival s
  | .stripLeft => Sys2Proof.Machine.execStripLeft s
  | .unloadStart slotSensor => Sys2Proof.Machine.execUnloadStart slotSensor s
  | .unloadingPushRetry => Sys2Proof.Machine.execUnloadingPushRetry s
  | .unloadingPushTimeout => Sys2Proof.Machine.execUnloadingPushTimeout s
  | .elevatorMoveStart which => Sys2Proof.Machine.execElevatorMoveStart which s
  | .elevatorMoveEnd which slotSensor => Sys2Proof.Machine.execElevatorMoveEnd which slotSensor s
  | .newMagazine which => Sys2Proof.Machine.execNewMagazine which s
  | .magazineRemoved which => Sys2Proof.Machine.execMagazineRemoved which s
  | .feedingPushStart slotSensor => Sys2Proof.Machine.execFeedingPushStart slotSensor s
  | .inkMark unit => Sys2Proof.Machine.execInkMark unit s
  | .feedingPushTimeout => Sys2Proof.Machine.execFeedingPushTimeout s
  | .wireCycleStart => Sys2Proof.Machine.execWireCycleStart s
  | .leadFlameHeadReady => Sys2Proof.Machine.execLeadFlameHeadReady s
  | .flameOffEnd spark => Sys2Proof.Machine.execFlameOffEnd spark s
  | .toFirstInPosition => Sys2Proof.Machine.execToFirstInPosition s
  | .searchFirstContact z => Sys2Proof.Machine.execSearchFirstContact z s
  | .searchFirstLimit => Sys2Proof.Machine.execSearchFirstLimit s
  | .missingDieReturnEnd => Sys2Proof.Machine.execMissingDieReturnEnd s
  | .demandInterval => Sys2Proof.Machine.execDemandInterval s
  | .bondSample z generator => Sys2Proof.Machine.execBondSample z generator s
  | .loopLiftInPosition continuity => Sys2Proof.Machine.execLoopLiftInPosition continuity s
  | .loopMotionInPosition => Sys2Proof.Machine.execLoopMotionInPosition s
  | .cutEnd => Sys2Proof.Machine.execCutEnd s
  | .searchSecondContact z => Sys2Proof.Machine.execSearchSecondContact z s
  | .searchSecondLimit => Sys2Proof.Machine.execSearchSecondLimit s
  | .tailRiseInPosition continuity => Sys2Proof.Machine.execTailRiseInPosition continuity s
  | .tailingEnd => Sys2Proof.Machine.execTailingEnd s
  | .auditWaitChoose => Sys2Proof.Machine.execAuditWaitChoose s
  | .auditSpacingExpiry => Sys2Proof.Machine.execAuditSpacingExpiry s
  | .pullCycleStart => Sys2Proof.Machine.execPullCycleStart s
  | .toWireInPosition => Sys2Proof.Machine.execToWireInPosition s
  | .hookEngagement => Sys2Proof.Machine.execHookEngagement s
  | .loadCellSample raw locator => Sys2Proof.Machine.execLoadCellSample raw locator s
  | .holdTimerExpiry => Sys2Proof.Machine.execHoldTimerExpiry s
  | .liftTravelLimit => Sys2Proof.Machine.execLiftTravelLimit s
  | .releaseEnd => Sys2Proof.Machine.execReleaseEnd s
  | .reportSendStart => Sys2Proof.Machine.execReportSendStart s
  | .reportSendEnd => Sys2Proof.Machine.execReportSendEnd s
  | .tick => Sys2Proof.Machine.execTick s
  | .fieldEngineWalk => Sys2Proof.Machine.execFieldEngineWalk s
  | .rollCallTimerExpiry => Sys2Proof.Machine.execRollCallTimerExpiry s
  | .pusherReturnToRest which => Sys2Proof.Machine.execPusherReturnToRest which s

end Sys2Proof.Machine
end

