-- ==== Sys2Proof/WellFormed.lean ====
section
/-! DEFINITION. Which commands are well formed: their operands lie in the ranges the manual gives the events (straps,
station numbers, the fields of line frames, the tables of an image). `exec` has a meaning for every command, well formed or
not; the statements that need these ranges name this predicate. -/

namespace Sys2Proof

/-- A number from `lo` to `hi`. -/
def within (lo hi n : Nat) : Bool := decide (lo ≤ n ∧ n ≤ hi)

/-- A station number (R171). -/
def stationGood (k : Nat) : Bool := within 1 8 k

/-- Section 3: the straps. -/
def strapsGood (p : Straps) : Bool := stationGood p.station

/-- Section 5.3: a serial. -/
def serialGood (x : Serial) : Bool := within 0 9999 x.magSeq && within 0 50 x.slot

/-- Section 5.3: a line sequence. -/
def lineSeqGood (q : Nat) : Bool := within 0 65535 q

/-- R179, R184: PRESENT. The known set stands in rising order, as its byte gives it. -/
def presentGood (p : PresentPayload) : Bool :=
  stationGood p.station && decide (p.known = [1, 2, 3, 4, 5, 6, 7, 8].filter p.known.contains)

/-- R27, R184: a detail, as its three bytes can hold it. -/
def detailGood : Detail → Bool
  | .none => true
  | .unitWire u w => within 0 255 u && within 0 65535 w
  | .station k => within 0 255 k
  | .lineSeq q => lineSeqGood q
  | .slot n => within 0 255 n
  | .zone n => within 0 255 n
  | .bondClass n => within 0 255 n
  | .peer k i => within 0 255 k && within 0 255 i

/-- R33: a summary. -/
def summaryGood (m : Option Summary) : Bool :=
  match m with
  | some m => within 0 31 m.source && within 0 16 m.level
  | none => true

/-- R33: ALARM. -/
def alarmGood (p : AlarmPayload) : Bool :=
  within 0 31 p.source && within 0 16 p.level && detailGood p.detail && summaryGood p.summary

/-- R46: OFFER. -/
def offerGood (p : OfferPayload) : Bool :=
  within 1 255 p.offerNumber && serialGood p.serial && lineSeqGood p.lineSeq && within 0 64 p.units

/-- R51: TAKE. -/
def takeGood (p : TakePayload) : Bool := within 0 255 p.offerNumber && serialGood p.serial && lineSeqGood p.lineSeq

/-- R51: REFUSE. -/
def refuseGood (p : RefusePayload) : Bool := within 0 255 p.offerNumber

/-- R53: ARRIVED. -/
def arrivedGood (p : ArrivedPayload) : Bool := within 0 255 p.offerNumber && lineSeqGood p.lineSeq

/-- R6, R184: a progress entry; wire indices to 511 fit its nine bits, station numbers its four. -/
def progressGood (g : Progress) : Bool :=
  within 0 511 g.next && within 0 511 g.split && within 0 15 g.startedBy && within 0 15 g.finishedBy

/-- R3, R184: a unit entry of a RECORD part. NO_HOOK makes no mark (R9). -/
def unitGood (e : UnitEntry) : Bool :=
  within 0 15 e.pulls && within 1 8 e.progress.length && e.progress.all progressGood

/-- R10, R184: a suspect entry. -/
def suspectGood (x : Suspect) : Bool := within 1 64 x.unit && within 1 256 x.wire

/-- R14, R184: a RECORD part: the header part is number 0, the others stand above it. -/
def recordGood (p : RecordPayload) : Bool :=
  match p.content with
  | .header h =>
    decide (p.number = 0) && serialGood h.serial && lineSeqGood h.lineSeq && within 0 64 h.units &&
      within 0 8 h.segments && within 0 255 h.dropped
  | .unit e => within 1 65 p.number && unitGood e
  | .suspects l => within 1 65 p.number && within 0 16 l.length && l.all suspectGood

/-- R129, R184: PULL_RESULT. -/
def resultGood (r : PullResult) : Bool :=
  serialGood r.serial && lineSeqGood r.lineSeq && within 0 255 r.unit && within 0 65535 r.wire &&
    within 0 255 r.bondClass && within 0 255 r.bondedBy && within 0 65535 r.force

/-- The payload of a line frame. -/
def payloadGood : Payload → Bool
  | .stop => true
  | .restart => true
  | .present p => presentGood p
  | .alarm p => alarmGood p
  | .state _ => true
  | .lineStart => true
  | .offer p => offerGood p
  | .take p => takeGood p
  | .refuse p => refuseGood p
  | .arrived p => arrivedGood p
  | .record p => recordGood p
  | .pullResult p => resultGood p

/-- R183: a line frame. -/
def frameGood (f : Frame) : Bool := stationGood f.sender && within 0 255 f.target && payloadGood f.payload

/-- R58, R64, R85, R101, R103, R158, R159, R161: the tables of a program have their fixed lengths. -/
def fieldsGood (p : RawProgram) : Bool :=
  decide (p.profiles.length = 8 ∧ p.classes.length = 16 ∧ p.segments.length = 8 ∧ p.spares.length = 8 ∧
    p.levels.length = 32 ∧ p.zones.length = 6 ∧ p.columnZones.length = p.columns ∧ p.pageKinds.length = 8 ∧
    p.triggers.length = 32 ∧ p.descriptors.length = 64 ∧ p.plan.length ≤ 8)

/-- R186: an image: a header of twelve bytes, and tables of their lengths. -/
def imageGood (i : Image) : Bool := decide (i.header.length = 12) && fieldsGood i.fields

/-- Whether a command is well formed. -/
def Instr.wellFormed : Instr → Bool
  | .powerOn straps _ => strapsGood straps
  | .loadEnd image => imageGood image
  | .pageKey => true
  | .ackKey => true
  | .holdKey => true
  | .resumeKey _ => true
  | .stopButton => true
  | .keyRelease _ => true
  | .chordTimerExpiry => true
  | .warmRestart => true
  | .stopFrame sender => stationGood sender
  | .restartFrame sender => stationGood sender
  | .presentFrame sender p => stationGood sender && presentGood p
  | .alarmFrame sender p => stationGood sender && alarmGood p
  | .stateFrame sender _ => stationGood sender
  | .lineStartFrame sender => stationGood sender
  | .offerFrame sender target p => stationGood sender && stationGood target && offerGood p
  | .takeFrame sender target p => stationGood sender && stationGood target && takeGood p
  | .refuseFrame sender target p => stationGood sender && stationGood target && refuseGood p
  | .arrivedFrame sender target p => stationGood sender && stationGood target && arrivedGood p
  | .recordFrame sender target p => stationGood sender && stationGood target && recordGood p
  | .pullResultFrame sender p => stationGood sender && resultGood p
  | .frameDiscard _ => true
  | .frameSendStart => true
  | .arbitrationLost => true
  | .frameSendEnd _ => true
  | .waitingFrameJoins => true
  | .boundaryTaken => true
  | .zoneVisit _ _ => true
  | .dwellLimitReached => true
  | .stageChooseWork => true
  | .indexMotionEnd => true
  | .offerSend => true
  | .offerTimerExpiry => true
  | .senderTransferTimeout => true
  | .receiverTransferTimeout => true
  | .arrival => true
  | .stripLeft => true
  | .unloadStart _ => true
  | .unloadingPushRetry => true
  | .unloadingPushTimeout => true
  | .elevatorMoveStart _ => true
  | .elevatorMoveEnd _ _ => true
  | .newMagazine _ => true
  | .magazineRemoved _ => true
  | .feedingPushStart _ => true
  | .inkMark unit => within 1 64 unit
  | .feedingPushTimeout => true
  | .wireCycleStart => true
  | .leadFlameHeadReady => true
  | .flameOffEnd _ => true
  | .toFirstInPosition => true
  | .searchFirstContact _ => true
  | .searchFirstLimit => true
  | .missingDieReturnEnd => true
  | .demandInterval => true
  | .bondSample _ _ => true
  | .loopLiftInPosition _ => true
  | .loopMotionInPosition => true
  | .cutEnd => true
  | .searchSecondContact _ => true
  | .searchSecondLimit => true
  | .tailRiseInPosition _ => true
  | .tailingEnd => true
  | .auditWaitChoose => true
  | .auditSpacingExpiry => true
  | .pullCycleStart => true
  | .toWireInPosition => true
  | .hookEngagement => true
  | .loadCellSample raw _ => within 0 65535 raw
  | .holdTimerExpiry => true
  | .liftTravelLimit => true
  | .releaseEnd => true
  | .reportSendStart => true
  | .reportSendEnd => true
  | .tick => true
  | .fieldEngineWalk => true
  | .rollCallTimerExpiry => true
  | .pusherReturnToRest _ => true

end Sys2Proof
end

