-- ==== Sys2Proof/Safety.lean ====
section
/-! DEFINITION. What the statements ask of states: the shape of the tables, and the invariants the manual's prose gives the
whole station. An invariant speaks of every state, reached or not. -/

namespace Sys2Proof.Machine

/-! ## Shapes and small notions the statements share -/

/-- The tables of fixed length have their entries (R27, R59, R84, R135, R178). -/
structure State.Shaped (s : State) : Prop where
  alarms : s.alarms.entries.length = 40
  roster : s.line.roster.length = 8
  zones : s.heat.zones.length = 6
  trims : s.energy.trims.length = 16
  inputSlots : s.elevator.inputSlots.length = 50
  outputSlots : s.elevator.outputSlots.length = 50

/-- `k` is the number of another station of the line (R171). -/
def State.IsPeer (s : State) (k : Nat) : Prop := 1 ≤ k ∧ k ≤ 8 ∧ k ≠ s.straps.station

/-- Nothing of the station waits for a RESUME press (R50, R54, R140, R145). -/
def State.NothingWaitsForResume (s : State) : Prop :=
  s.stage.state ≠ .handing ∧ s.stage.state ≠ .receiving ∧ s.elevator.input.activity ≠ .waitingResume ∧
    s.elevator.output.activity ≠ .waitingResume

/-- A frame of this body stands in the transmit queue. -/
def LineUnit.Holds (l : LineUnit) (body : TxBody) : Prop := ∃ e ∈ l.queue, e.body = body

/-- R29: source `i` shows a condition that is present: its entry stands, with detail `d`. -/
def State.ShowsCondition (s : State) (i : Nat) (d : Detail) : Prop :=
  (s.alarms.entry i).state ≠ .clear ∧ s.conditionOf i = true ∧ (s.alarms.entry i).detail = d

/-! ## The roster (R104, R179, R180) -/

/-- R178: the roster shows station `k` present with an identity that `f` admits. -/
def State.Shows (s : State) (k : Nat) (f : PeerIdentity → Prop) : Prop := ∃ i, (s.rosterEntry k).identity = some i ∧ f i

/-- R179: `n` is the OUTFEED station; of two that carry the flag, the lower (notes/assumptions/34). -/
def State.EndsAt (s : State) (n : Nat) : Prop :=
  n ∈ stationNumbers ∧ s.Shows n (·.outfeed = true) ∧ ∀ m ∈ stationNumbers, m < n → ¬s.Shows m (·.outfeed = true)

/-- R179: roll call is complete, with OUTFEED station `n`. -/
def State.CompleteTo (s : State) (n : Nat) : Prop :=
  s.EndsAt n ∧ ∀ m ∈ stationNumbers, m ≤ n → s.Shows m fun _ => True

/-- R104: the map entry of station `k` breaches the layout of a line whose OUTFEED station is `n`. -/
def State.MapBreach (s : State) (n k : Nat) : Prop :=
  ∃ p, s.program? = some p ∧ (segmentOf p k).first ≤ (segmentOf p k).last ∧
    (n < k ∨ (spareOf p k ≠ 0 ∧ (n < spareOf p k ∨ s.Shows (spareOf p k) (·.role = .pull))))

/-- R180: station `k` is the detail of a layout breach. -/
def State.LayoutBreach (s : State) (k : Nat) : Prop :=
  k ∈ stationNumbers ∧
    ((s.Shows k (·.infeed = true) ∧ k ≠ 1) ∨
      (s.Shows k (·.outfeed = true) ∧ ∃ m ∈ stationNumbers, m < k ∧ s.Shows m (·.outfeed = true)) ∨
      ((s.Shows k fun _ => True) ∧ ∃ n, s.EndsAt n ∧ n < k) ∨
      (s.Shows k (·.role = .pull) ∧ ∃ m ∈ stationNumbers, m < k ∧ s.Shows m (·.role = .pull)) ∨
      ∃ n, s.CompleteTo n ∧
        ((k = 1 ∧ ¬s.Shows 1 (·.infeed = true)) ∨
          (k = n ∧ ∀ m ∈ stationNumbers, m ≤ n → ¬s.Shows m (·.role = .head)) ∨ s.MapBreach n k))

/-! ## Station state and STOP (R24, R25) -/

/-- R24, R25: outside BOOT the station is STOPPED exactly while a STOP-class entry is ACTIVE or ACKED. -/
def State.StopInv (s : State) : Prop :=
  s.control.station ≠ .boot → (s.control.station = .stopped ↔ s.alarms.stopStands = true)

/-! ## Trims (R97, R98) -/

/-- R97, R98: the two trims within -20 to +20 and the good-run count at most 7. -/
def TrimEntry.Within (e : TrimEntry) : Prop :=
  -20 ≤ e.first ∧ e.first ≤ 20 ∧ -20 ≤ e.second ∧ e.second ≤ 20 ∧ e.goodRun ≤ 7

/-- R84, R97, R98: every class's trims and good-run count are within their limits. -/
def State.TrimInv (s : State) : Prop := ∀ e ∈ s.energy.trims, e.Within

/-! ## The wire cycle, the bond and the ultrasound (R63, R84, R88) -/

/-- R63, R84, R88: a wire is in flight exactly outside IDLE, a bond exactly in BOND_FIRST and BOND_SECOND with a power of at
most 1000, and the ultrasonic demand is at most 1000, and 0 outside those two phases. -/
structure State.BondInv (s : State) : Prop where
  flight : s.wire.inFlight.isSome = true ↔ s.wire.cycle ≠ .idle
  bond : s.energy.bond.isSome = true ↔ (s.wire.cycle = .bondFirst ∨ s.wire.cycle = .bondSecond)
  power : ∀ b, s.energy.bond = some b → b.power ≤ 1000
  demand : s.ports.ultrasonic ≤ 1000
  quiet : s.wire.cycle ≠ .bondFirst → s.wire.cycle ≠ .bondSecond → s.ports.ultrasonic = 0

/-! ## The record on the stage (R1) -/

/-- R1: the stage states in which a record is held. -/
def HoldsRecord (st : StageState) : Prop := st ≠ .empty ∧ st ≠ .feeding ∧ st ≠ .receiving

/-- R1, R51: one record in the states that hold one, none in the others, and an assembly, with the OFFER answered, exactly
in RECEIVING. -/
structure State.RecordInv (s : State) : Prop where
  record : s.stage.record.isSome = true ↔ HoldsRecord s.stage.state
  assembly : s.stage.assembly.isSome = true ↔ s.stage.state = .receiving
  kept : s.stage.kept.isSome = true ↔ s.stage.state = .receiving

/-! ## Bounded tables and queues (R113, R132, R133, R148, R149, R153, R173, R174) -/

/-- R50, R174: at most sixteen frames, eight of them of classes 5 and 6, and one on the line, which is never a frame that still
waits for room; a part marked given up stands on the line. -/
structure LineUnit.Bounded (l : LineUnit) : Prop where
  places : l.queue.length ≤ 16
  bulk : l.bulkCount ≤ 8
  onLine : (l.queue.filter fun e => e.onLine.isSome).length ≤ 1
  waiting : ∀ e ∈ l.waiting, e.onLine = none
  givenUp : ∀ e ∈ l.queue ++ l.waiting, e.givenUp = true → e.onLine.isSome = true
  unheard : l.unheard ≤ 255
  lost : l.lost ≤ 255

/-- R113, R132, R133: the pull unit's counts and logs. -/
structure PullUnit.Bounded (u : PullUnit) : Prop where
  hookMiss : u.hookMiss ≤ 2
  log : u.log.length ≤ 64
  failures : u.failures.length ≤ 8
  discards : u.discards ≤ 255

/-- R148, R149, R153: the report unit's table and places; a strip being unloaded has its place reserved. -/
structure State.ReportInv (s : State) : Prop where
  entries : s.report.table.length ≤ 4
  lines : ∀ e ∈ s.report.table, e.lines.length ≤ 24 ∧ e.dropped ≤ 255
  apart : (s.report.table.map (·.lineSeq)).Nodup
  places : s.report.ready.length + (if s.report.sending.isSome then 1 else 0) + (if s.report.reserved then 1 else 0) ≤ 4
  promised : s.elevator.unloading.isSome = true → s.report.reserved = true
  lost : s.report.lost ≤ 255

/-- The bounded tables and queues of the station. -/
structure State.BoundInv (s : State) : Prop where
  line : s.line.Bounded
  pull : s.pull.Bounded
  report : s.ReportInv

/-! ## The role of the station (R26, R63, R113) -/

/-- R26, R63, R84: what a PULL station holds of a HEAD's blocks: head OUT, no wire cycle, no ball, no stock, no bond, every
running count 0. -/
structure State.PullStationAtRest (s : State) : Prop where
  head : s.control.head = .headOut
  cycle : s.wire.cycle = .idle
  awaits : s.wire.awaits = .none
  ballReady : s.wire.ballReady = false
  stock : s.wire.stock = 0
  inFlight : s.wire.inFlight = none
  wiresBonded : s.wire.wiresBonded = 0
  unitsDone : s.wire.unitsDone = 0
  unitsRejected : s.wire.unitsRejected = 0
  bond : s.energy.bond = none
  lastBond : s.energy.lastBond = none
  fastCount : s.energy.fastCount = 0
  trims : ∀ e ∈ s.energy.trims, e = ⟨0, 0, 0⟩

/-- R113: what a HEAD station holds of the pull unit: no pull cycle, no pull in flight, no result waiting, empty lists and logs,
no confirm, every count 0, the cursor at wire 1, the spacing timer expired and the hold timer stopped. -/
structure State.HeadStationPullsNothing (s : State) : Prop where
  cycle : s.pull.cycle = .idle
  inFlight : s.pull.inFlight = none
  pairs : s.pull.pairs = []
  auditCount : s.pull.auditCount = 0
  confirmTried : s.pull.confirmTried = false
  pending : s.pull.pending = none
  cursor : s.pull.cursor = 1
  spacing : s.pull.spacing = .expired
  hookMiss : s.pull.hookMiss = 0
  log : s.pull.log = []
  failures : s.pull.failures = []
  discards : s.pull.discards = 0
  holdTimer : s.pull.holdTimer = .stopped
  result : s.resultWaiting = false

/-- R26, R63, R84, R113: the blocks of the other role stand at their power-on values. -/
def State.RoleInv (s : State) : Prop :=
  (s.straps.role = .pull → s.PullStationAtRest) ∧ (s.straps.role = .head → s.HeadStationPullsNothing)

end Sys2Proof.Machine
end

