-- ==== Sys2Proof/Certificates/Slice0/Obligations.lean ====
section
/-! DEFINITION. The statements for the provers: what the rules of the manual say each command and the whole station do.
Each definition's docstring names the rules; a clause that rests on a choice of the model names its log entry. -/

open Sys2Proof Sys2Proof.Machine

/-! ## The queue of commands, and what every command leaves -/

/-- A step runs the command at the front of the queue on the state with the queue's rest. With an empty queue the station
idles, which is the model's choice (log entry 2). -/
def Obligations.StepTakesFrontCommand : Prop :=
  (∀ (c : Instr) (q : List Instr) (s : State), step (s.withPending (c :: q)) = exec c (s.withPending q)) ∧
  (∀ s : State, step (s.withPending []) = .next (s.withPending []))

/-- Every command answers a next state, in every state, and leaves the commands that wait behind it. What the manual describes never
stops the station; that a command which is not due answers a next state too is the model's choice (log entry 1), and so is that
power-on keeps the commands that wait (log entry 3). -/
def Obligations.EveryCommandAnswersNext : Prop :=
  ∀ (c : Instr) (s : State), ∃ t : State, exec c s = .next t ∧ t.pending = s.pending

/-- The straps are sampled at power-on only, and the loaded program is read-only after the load (R105, R176). -/
def Obligations.ProgramAndStrapsOutlastCommands : Prop :=
  ∀ (c : Instr) (s t : State), exec c s = .next t → (∀ p r, c ≠ .powerOn p r) →
    t.straps = s.straps ∧ ((∀ i, c ≠ .loadEnd i) → t.loader = s.loader)

/-- The trims are moved by pull results alone (R95, R100), and power-on returns those of all sixteen classes, and their good-run
counts, to 0 (R84). -/
def Obligations.OnlyPullResultsMoveTrims : Prop :=
  (∀ (c : Instr) (s t : State), exec c s = .next t → (∀ p r, c ≠ .powerOn p r) → (∀ k r, c ≠ .pullResultFrame k r) →
    t.energy.trims = s.energy.trims) ∧
  (∀ (p : Straps) (r : FirstReading) (s t : State), exec (.powerOn p r) s = .next t →
    t.energy.trims = List.replicate 16 ⟨0, 0, 0⟩)

/-- R13, R17: no command but power-on changes a record in HANDING: it stays as it was, or the stage discards it. -/
def Obligations.FrozenRecordIsNotChanged : Prop :=
  ∀ (c : Instr) (s t : State), exec c s = .next t → (∀ p r, c ≠ .powerOn p r) → s.stage.state = .handing →
    t.stage.record = s.stage.record ∨ (t.stage.record = none ∧ t.stage.state = .empty)

/-! ## Power-on and the load -/

/-- R17, R36, R38, R40, R137, R142, R147: power-on gives every block its power-on values with the straps sampled (those of the reset
state itself are the model's choice, log entry 4), and the commands that wait stay (log entry 3). A strip on the stage port gets an
untracked record at column position 0 and UNTRACKED_STRIP, with the dwell timer from 0 against a limit of 900 s; a magazine at an end the straps give is a new magazine. -/
def Obligations.PowerOnReadsStagePort : Prop :=
  (∀ (p : Straps) (s : State), ∃ t : State, exec (.powerOn p ⟨false, false, false⟩) s = .next t ∧
    t = { State.reset with straps := p, pending := s.pending } ∧
    t.control = ⟨.boot, .headOut, false, false, false⟩ ∧ t.wire.stock = 0 ∧
    (∀ i, i < 40 → (t.alarms.entry i).state = .clear ∧ (t.alarms.entry i).count = 0 ∧
      (t.alarms.entry i).condition = false ∧ (t.alarms.entry i).detail = .none) ∧
    (∀ i, i < 32 → (t.alarms.entry i).level = if i ≤ 4 then 16 else 1) ∧ t.alarms.mask = 2) ∧
  (∀ (p : Straps) (r : FirstReading) (s : State), ∃ t : State, exec (.powerOn p r) s = .next t ∧ t.straps = p ∧
    (r.strip = true → t.stage.state = .loaded ∧ t.stage.record = some ⟨⟨0, 0⟩, 0, false, false, none⟩ ∧
      t.stage.column = 0 ∧ t.stage.dwell = ⟨true, false, 900⟩ ∧ (t.alarms.entry Source.untrackedStrip).state = .active ∧
      (t.alarms.entry Source.untrackedStrip).count = 1) ∧
    (r.strip = false → t.stage = State.reset.stage) ∧
    (p.infeed = true ∧ r.inputMagazine = true → t.elevator.magSeq = 1 ∧ t.elevator.input.magazine = true ∧
      t.elevator.input.target = some (.slot 1)) ∧
    (p.infeed = false ∨ r.inputMagazine = false → t.elevator.magSeq = 0 ∧ t.elevator.input.magazine = false ∧
      t.elevator.input.target = none) ∧
    (p.outfeed = true ∧ r.outputMagazine = true → t.elevator.output.magazine = true ∧
      t.elevator.output.target = some (.slot 1)) ∧
    (p.outfeed = false ∨ r.outputMagazine = false → t.elevator.output.magazine = false ∧ t.elevator.output.target = none))

/-- R19, R28, R40, R101 to R103, R115, R176, R177, R186: the end of the load. An image that fails a check stops the station with
PROGRAM_INVALID, and the dwell limit stays. One that passes is settled and latched: program id, clamped-settings count, dwell limit,
levels of the station's own sources, mask, pages, plan state; the station leaves BOOT. The checks are those of the read, of the header
(its length field must be 12, log entry 27), of the CRC-32, which is the program id, and of the structure: counts, wires, codes (all
eight page kinds, log entry 51), segment map, own segment, spare map. A level of a STOP source is 16, of a HOLD source 1 to 15, of a
NOTE source at most 15, and the mask at most 15. The plan is ON where no entry, pair or triple of its entries breaches R115. -/
def Obligations.LoadEndsBoot : Prop :=
  (∀ (image : Image) (s : State), s.Shaped → s.control.station = .boot → s.loader.loaded = .loading →
    (imageId s.straps image = none →
      ∃ t : State, exec (.loadEnd image) s = .next t ∧ t.loader.loaded = .invalid ∧ t.control.station = .stopped ∧
        t.stage.dwell.limit = s.stage.dwell.limit ∧ (t.alarms.entry Source.programInvalid).state ≠ .clear ∧
        (t.alarms.entry Source.programInvalid).condition = true) ∧
    (∀ id, imageId s.straps image = some id →
      ∃ t : State, exec (.loadEnd image) s = .next t ∧
        t.loader = ⟨.valid id (settleProgram image.fields).1, min 255 (settleProgram image.fields).2⟩ ∧
        t.stage.dwell.limit = (settleProgram image.fields).1.dwellLimit ∧
        t.control.station ≠ .boot ∧ ((s.alarms.entry Source.stopKey).state ≠ .clear → t.control.station = .stopped) ∧
        (∀ i, i < 32 → (t.alarms.entry i).level =
          (settleProgram image.fields).1.levels.getD i (s.alarms.entry i).level) ∧
        t.alarms.mask = (settleProgram image.fields).1.mask ∧
        t.screen.pageCount = (settleProgram image.fields).1.pageCount ∧
        t.pull.planOn = planValid (settleProgram image.fields).1)) ∧
  (∀ (straps : Straps) (image : Image) (id : ProgramId),
    imageId straps image = some id ↔
      image.readOk = true ∧ structureGood straps image.fields = true ∧
        ∃ h, imageHeader image.header = some h ∧ h.format = 1 ∧ h.length = 12 ∧ 1 ≤ h.bodyLength ∧
          h.length + h.bodyLength ≤ 65536 ∧ h.bodyLength ≤ image.body.length ∧
          crc32 (image.body.take h.bodyLength) = h.check ∧ id = h.check) ∧
  (∀ (straps : Straps) (p : RawProgram),
    let w := p.wires.length
    let isEmpty (g : Segment) : Prop := g.last < g.first
    let holding (x : Nat) : List Segment := p.segments.filter fun g => decide (g.first ≤ x ∧ x ≤ g.last)
    structureGood straps p = true ↔
      (1 ≤ p.columns ∧ p.columns ≤ 16 ∧ 1 ≤ p.rows ∧ p.rows ≤ 4 ∧ p.columns * p.rows ≤ 64 ∧ 1 ≤ w ∧ w ≤ 256) ∧
        (∀ x ∈ p.wires, x.bondClass ≤ 15 ∧ x.profile ≤ 7) ∧
        (p.pull.auditMode ≠ none ∧ p.magazine.inputDirection ≠ none ∧ p.magazine.outputDirection ≠ none ∧
          (∀ k ∈ p.pageKinds, k ≠ none) ∧ (∀ g ∈ p.triggers, g.kind ≠ none) ∧
          ∀ d ∈ p.descriptors, d.item ≠ none ∧ d.format ≠ none) ∧
        (p.segments.length = 8 ∧
          (∀ g ∈ p.segments, 1 ≤ g.first ∧ g.first ≤ 257 ∧ g.last ≤ 256 ∧ (isEmpty g ∨ g.last ≤ w)) ∧
          ∀ x, 1 ≤ x → x ≤ w → (holding x).length = 1) ∧
        (straps.role = .pull → isEmpty (p.segments.getD (straps.station - 1) ⟨1, 0⟩)) ∧
        p.spares.length = 8 ∧ ∀ k, 1 ≤ k → k ≤ 8 → p.spares.getD (k - 1) 0 = 0 ∨
          (k < p.spares.getD (k - 1) 0 ∧ p.spares.getD (k - 1) 0 ≤ 8)) ∧
  (∀ (p : RawProgram) (i : Nat),
    (settleProgram p).1.mask = min 15 p.mask ∧
      (settleProgram p).1.levels[i]? = (p.levels[i]?).map fun l =>
        match localClass i with
        | .stop => 16
        | .hold => max 1 (min 15 l)
        | .note => min 15 l) ∧
  (∀ p : Program,
    let plan := p.plan.take p.planCount
    planValid p = true ↔ p.planCount ≤ 8 ∧
      (∀ x ∈ plan, 1 ≤ x.unit ∧ x.unit ≤ p.columns * p.rows ∧ 1 ≤ x.wire ∧ x.wire ≤ p.wires.length ∧ x.mode ≠ none) ∧
      (p.pull.planSpacing = true → ∀ x ∈ plan, ∀ y ∈ plan, ¬(y.unit = x.unit ∧ y.wire = x.wire + 1)) ∧
      ∀ x ∈ plan, ∀ y ∈ plan, ∀ z ∈ plan, ¬(y.unit = x.unit ∧ y.wire = x.wire + 1 ∧ z.unit = x.unit ∧ z.wire = x.wire + 2))

/-- R58, R85, R114, R177: the loader's settling of bond classes and heater zones. Each value out of range becomes the nearer bound of
its range, and each that breaks an order the value that bounds it; every such replacement is counted, and a set in range and in order
is left as it is with none. No class or zone is dropped. The cool-off margin, within 1 to 30, becomes the floor of half the smallest
band of the enabled zones where a recovery band would be empty, so that none is. -/
def Obligations.LoaderSettlesRanges : Prop :=
  (∀ g : BondSet,
    let near (lo hi n : Nat) : Nat := max lo (min hi n)
    let one (p : Prop) [Decidable p] : Nat := if p then 1 else 0
    let out (lo hi n : Nat) : Nat := one (n < lo ∨ hi < n)
    let tMax := near 5 500 g.maxTime
    let target := near 1 200 g.targetSink
    let tMin := near 0 500 g.minTime
    let sMin := near 0 500 g.minSink
    let sMax := near 0 500 g.maxSink
    settleBondSet g = (⟨near 5 250 g.impactForce, near 5 250 g.bondForce, near 0 1000 g.nominalPower, near 0 20 g.rampSteps,
        min tMin tMax, tMax, target, min sMin target, max sMax target⟩,
      out 5 250 g.impactForce + out 5 250 g.bondForce + out 0 1000 g.nominalPower + out 0 20 g.rampSteps +
        out 0 500 g.minTime + out 5 500 g.maxTime + out 1 200 g.targetSink + out 0 500 g.minSink + out 0 500 g.maxSink +
        one (tMax < tMin) + one (target < sMin) + one (sMax < target))) ∧
  (∀ g : BondSet, 5 ≤ g.impactForce → g.impactForce ≤ 250 → 5 ≤ g.bondForce → g.bondForce ≤ 250 → g.nominalPower ≤ 1000 →
    g.rampSteps ≤ 20 → g.minTime ≤ g.maxTime → 5 ≤ g.maxTime → g.maxTime ≤ 500 → 1 ≤ g.targetSink → g.targetSink ≤ 200 →
    g.minSink ≤ g.targetSink → g.targetSink ≤ g.maxSink → g.maxSink ≤ 500 → settleBondSet g = (g, 0)) ∧
  (∀ p : RawProgram,
    let q := (settleProgram p).1
    let near (lo hi n : Int) : Int := max lo (min hi n)
    let one (p : Prop) [Decidable p] : Nat := if p then 1 else 0
    let out (n : Int) : Nat := one (n < -40 ∨ 500 < n)
    let set (z : ZoneSetting) : Int := near (-40) 500 z.tSet
    let low (z : ZoneSetting) : Int := near (-40) 500 z.tLow
    let high (z : ZoneSetting) : Int := near (-40) 500 z.tHigh
    q.classes = p.classes.map (fun c => ⟨(settleBondSet c.first).1, (settleBondSet c.second).1,
      max 50 (min 60000 c.pullTest), min 60000 c.pullMin⟩) ∧
    q.zones = p.zones.map (fun z => ⟨z.enabled, set z, min (low z) (set z), max (high z) (set z)⟩) ∧
    (p.classes.map fun c => (settleBondSet c.first).2 + (settleBondSet c.second).2 + one (c.pullTest < 50 ∨ 60000 < c.pullTest) +
        one (60000 < c.pullMin)).sum +
      (p.zones.map fun z => out z.tSet + out z.tLow + out z.tHigh + one (set z < low z) + one (high z < set z)).sum +
      one (p.coolOff < 1 ∨ 30 < p.coolOff) + one (q.coolOff ≠ near 1 30 p.coolOff) ≤ (settleProgram p).2 ∧
    ((∀ z ∈ q.zones, z.enabled = true → z.tLow + near 1 30 p.coolOff ≤ z.tHigh - near 1 30 p.coolOff) →
      q.coolOff = near 1 30 p.coolOff) ∧
    (∀ z ∈ q.zones, z.enabled = true → z.tHigh - near 1 30 p.coolOff < z.tLow + near 1 30 p.coolOff →
      ∃ y ∈ q.zones, y.enabled = true ∧ q.coolOff = (y.tHigh - y.tLow) / 2 ∧
        ∀ x ∈ q.zones, x.enabled = true → y.tHigh - y.tLow ≤ x.tHigh - x.tLow)) ∧
  (∀ g : BondSet,
    let h := (settleBondSet g).1
    5 ≤ h.impactForce ∧ h.impactForce ≤ 250 ∧ 5 ≤ h.bondForce ∧ h.bondForce ≤ 250 ∧ h.nominalPower ≤ 1000 ∧
      h.rampSteps ≤ 20 ∧ h.minTime ≤ h.maxTime ∧ 5 ≤ h.maxTime ∧ h.maxTime ≤ 500 ∧ 1 ≤ h.targetSink ∧
      h.targetSink ≤ 200 ∧ h.minSink ≤ h.targetSink ∧ h.targetSink ≤ h.maxSink ∧ h.maxSink ≤ 500 ∧
      settleBondSet h = (h, 0)) ∧
  (∀ p : RawProgram,
    let q := (settleProgram p).1
    0 ≤ q.coolOff ∧ q.coolOff ≤ 30 ∧
      ∀ z ∈ q.zones, -40 ≤ z.tLow ∧ z.tLow ≤ z.tSet ∧ z.tSet ≤ z.tHigh ∧ z.tHigh ≤ 500 ∧
        (z.enabled = true → z.tLow + q.coolOff ≤ z.tHigh - q.coolOff))

/-! ## The panel -/

/-- R25, R30, R167, R179: ACK on a shown banner acknowledges the entry it shows and does nothing else but what follows from the
entry: its ALARM frame, and out of STOPPED where it was the last STOP-class entry that stood, to HELD, READY or ROLLCALL; where
another STOP-class entry stands, or this one stands on as ACKED, STOPPED stays. -/
def Obligations.AckActsOnBannerEntry : Prop :=
  ∀ (s : State) (i : Nat), s.Shaped → s.control.station ≠ .boot → s.alarms.banner = some i →
    let old := s.alarms.entry i
    let after := if isEvent i = true ∨ 32 ≤ i ∨ old.condition = true then AlarmState.acked else AlarmState.clear
    (s.control.station ≠ .stopped → s.alarms.stopStands = false →
      ∃ t : State, exec .ackKey s = .next t ∧ t.alarms = s.alarms.put i { old with state := after } ∧
        t = { s with alarms := t.alarms, line := t.line, screen := t.screen } ∧
        (i < 32 → s.line.queue.length < 15 → t.line.Holds (alarmBody i { old with state := after }))) ∧
    (s.control.station = .stopped →
      (∀ j, j < 40 → j ≠ i → s.alarms.classOf j = .stop → (s.alarms.entry j).state = .clear) → after = .clear →
      ∃ t : State, exec .ackKey s = .next t ∧
        (s.control.lineStarted = true →
          t.control = { s.control with station := .held, holdRequest := false }) ∧
        (s.control.lineStarted = false → s.rollCallComplete = true →
          t.control = { s.control with station := .ready }) ∧
        (s.control.lineStarted = false → s.rollCallComplete = false → s.mismatch = none → s.layoutBreaches = [] →
          t.control = { s.control with station := .rollcall } ∧ t.line.rollCallTimer = .running 2000)) ∧
    (s.control.station = .stopped →
      (∃ j, j < 40 ∧ (j ≠ i ∨ after ≠ .clear) ∧ s.alarms.classOf j = .stop ∧ (s.alarms.entry j).state ≠ .clear) →
      ∃ t : State, exec .ackKey s = .next t ∧ t.alarms = s.alarms.put i { old with state := after } ∧
        t = { s with alarms := t.alarms, line := t.line, screen := t.screen })

/-- R26, R80, R134, R167: ACK with no banner shown. On a SPOOL page of a HEAD it is the spool confirm: stock at the spool length, head
IN, the two wire conditions gone, a DUE debit waived, cover wait ended. On a FAILURES page it is the operator's take: the oldest entry
of the failure log leaves, and the discard counter returns to 0 with the last. On a GENERAL page, and on a SPOOL page of a PULL
station, only the keys' own marks change. -/
def Obligations.AckActsOnPageWithoutBanner : Prop :=
  ∀ s : State, s.control.station ≠ .boot → s.alarms.banner = none →
    (s.screen.pageKind = .spool → s.straps.role = .head →
      ∃ t : State, exec .ackKey s = .next t ∧
        t.wire = { s.wire with
          stock := s.head (·.spoolLength)
          inFlight := s.wire.inFlight.map fun f => if f.debit = .due then { f with debit := .waived } else f } ∧
        t.control = { s.control with head := .headIn } ∧ t.stage = { s.stage with coverWait := false } ∧
        t.conditionOf Source.wireEnd = false ∧ t.conditionOf Source.wireLow = false ∧
        t = { s with
          control := t.control
          wire := t.wire
          stage := t.stage
          alarms := t.alarms
          line := t.line
          screen := t.screen }) ∧
    (s.screen.pageKind = .failures →
      ∃ t : State, exec .ackKey s = .next t ∧ t = { s with pull := t.pull, screen := t.screen } ∧
        (s.pull.failures = [] → t.pull = s.pull ∧ t.screen.triggers = s.screen.triggers) ∧
        (∀ x rest, s.pull.failures = x :: rest →
          t.pull = { s.pull with failures := rest, discards := if rest = [] then 0 else s.pull.discards } ∧
          t.screen.triggers = s.screen.triggers.map (Trigger.raised .pullDone s.screen.page))) ∧
    (s.screen.pageKind = .general ∨ (s.screen.pageKind = .spool ∧ s.straps.role = .pull) →
      ∃ t : State, exec .ackKey s = .next t ∧
        t = { s with screen := { s.screen with keys := t.screen.keys, chordTimer := t.screen.chordTimer } })

/-- R21, R22: HOLD sets the hold request in RUN and PAUSED only; at a boundary (no cycle, no index motion, no elevator move)
the requests act by R22's table, and the hold request is cleared on entry to HELD. -/
def Obligations.HoldIsTakenAtBoundary : Prop :=
  (∀ s : State,
    (s.control.station = .run ∨ s.control.station = .paused →
      exec .holdKey s = .next { s with control := { s.control with holdRequest := true } }) ∧
    (s.control.station ≠ .run → s.control.station ≠ .paused → exec .holdKey s = .next s)) ∧
  (∀ s : State, ∃ t : State, exec .boundaryTaken s = .next t ∧
    t = { s with control := t.control, line := t.line, screen := t.screen } ∧
    (s.wire.cycle = .idle → s.pull.cycle = .idle → s.stage.indexMotion = none →
      s.elevator.input.activity ≠ .moving → s.elevator.output.activity ≠ .moving →
      (s.control.station = .run ∨ s.control.station = .paused →
        (s.control.holdRequest = true →
          t.control = { s.control with station := .held, holdRequest := false }) ∧
        (s.control.holdRequest = false → s.heat.pauseRequest = true →
          t.control = { s.control with station := .paused }) ∧
        (s.control.holdRequest = false → s.heat.pauseRequest = false →
          t.control = { s.control with station := .run })) ∧
      (s.control.station ≠ .run → s.control.station ≠ .paused → t = s)) ∧
    (s.atBoundary = false → t = s))

/-- R20, R23: a RESUME in READY or HELD with no STOP-class entry standing is accepted when the test passes on the table that
steps 1 and 2 leave: no local HOLD-class entry is ACTIVE above the mask, and none that is ACTIVE or ACKED is a condition still
present. With every entry CLEAR and nothing waiting for RESUME, READY queues LINE_START. -/
def Obligations.AcceptedResumeStartsWork : Prop :=
  ∀ (s : State) (p : StripSensors), s.Shaped → s.alarms.stopStands = false →
    (∀ i, i < 32 → localClass i = .hold →
      ((s.alarms.entry i).state = .active → (s.alarms.entry i).level ≤ s.alarms.mask) ∧
      ((s.alarms.entry i).state ≠ .clear → isEvent i = true ∨ (s.alarms.entry i).condition = false)) →
    (s.control.station = .ready →
      ∃ t : State, exec (.resumeKey p) s = .next t ∧
        t.control = { s.control with station := .run, lineStarted := true, holdRequest := false } ∧
        (s.NothingWaitsForResume → (∀ i, i < 40 → (s.alarms.entry i).state = .clear) →
          t.line = (s.line.request 0 .lineStart).request 0 .state ∧
          t = { s with control := t.control, line := t.line, screen := t.screen })) ∧
    (s.control.station = .held →
      ∃ t : State, exec (.resumeKey p) s = .next t ∧
        t.control = { s.control with
          station := if s.heat.pauseRequest then .paused else .run
          holdRequest := false })

/-- R23, R157: a RESUME in READY or HELD is refused with a local HOLD-class entry ACTIVE above the mask, or ACTIVE or ACKED with its
condition still present; one in STOPPED is refused with a STOP-class entry ACTIVE above the mask, or with one that the press does not
clear: of a condition source still present or already ACKED, or of a peer. The state stays and the refusal notice is set. -/
def Obligations.RefusedResumeSetsNotice : Prop :=
  ∀ (s : State) (p : StripSensors) (i : Nat), s.Shaped →
    let e := s.alarms.entry i
    (s.control.station = .ready ∨ s.control.station = .held → i < 32 → localClass i = .hold → s.alarms.stopStands = false →
      (e.state = .active ∧ s.alarms.mask < e.level) ∨ (e.state ≠ .clear ∧ isEvent i = false ∧ e.condition = true) →
      ∃ t : State, exec (.resumeKey p) s = .next t ∧ t.control = s.control ∧ t.screen.notice = true) ∧
    (s.control.station = .stopped → i < 40 → s.alarms.classOf i = .stop →
      (e.state = .active ∧ s.alarms.mask < e.level) ∨
        (e.state ≠ .clear ∧ isEvent i = false ∧ (e.condition = true ∨ e.state = .acked ∨ 32 ≤ i)) →
      ∃ t : State, exec (.resumeKey p) s = .next t ∧ t.control.station = .stopped ∧ t.screen.notice = true)

/-- R24, R35, R82, R94, R128, R174: the STOP button, in every state: STOP_KEY becomes ACTIVE with one more occurrence, and a STOP frame
is queued where the queue has room or can make it, a frame on the line counted as no longer waiting (log entry 7). Outside BOOT the
station is STOPPED; the stop ends the wire cycle, the bond, the pull cycle, the index motion and both elevators' moves, and sends the
head of a cycle in flight to safe height, after ending where it stands a cut, a missing die's return, a lift or a release (log entry
48). Ball-ready is false, also where the STOP finds the wire cycle IDLE, which R82 says of a cycle just returned and the model takes of
every one (log entry 11). -/
def Obligations.StopButtonStopsStation : Prop :=
  ∀ s : State, s.Shaped →
    ∃ t : State, exec .stopButton s = .next t ∧
      t.alarms.entry Source.stopKey = { s.alarms.entry Source.stopKey with
        state := .active, count := bump 255 (s.alarms.entry Source.stopKey).count, detail := .none } ∧
      (s.control.station = .boot → t = { s with alarms := t.alarms, line := t.line, screen := t.screen }) ∧
      (s.control.station ≠ .boot → t.control.station = .stopped) ∧
      (s.line.queue.length < 16 ∨ (∃ e ∈ s.line.queue, e.onLine = none ∧
          (e.body = .state ∨ ∃ i c l n d, e.body = .alarm i c l n d)) → t.line.Holds .stop) ∧
      (s.control.station ≠ .boot → s.control.station ≠ .stopped →
        t.wire.cycle = .idle ∧ t.wire.inFlight = none ∧ t.wire.ballReady = false ∧ t.energy.bond = none ∧
        t.ports.ultrasonic = 0 ∧ t.ports.bondForce = none ∧ t.pull.cycle = .idle ∧ t.pull.inFlight = none ∧
        t.pull.pairs = s.pull.pairs ∧ t.pull.log = s.pull.log ∧ t.pull.hookMiss = s.pull.hookMiss ∧
        t.stage.indexMotion = none ∧ (s.stage.indexMotion ≠ none → t.stage.column = 0) ∧
        t.elevator.inputSlots = s.elevator.inputSlots ∧
        t.elevator.outputSlots = s.elevator.outputSlots ∧
        t.elevator.input = (if s.elevator.input.activity = .moving then
          { s.elevator.input with activity := .idle, position := none, destination := none } else s.elevator.input) ∧
        t.elevator.output = (if s.elevator.output.activity = .moving then
          { s.elevator.output with activity := .idle, position := none, destination := none } else s.elevator.output) ∧
        (s.elevator.input.activity = .moving → t.ports.inputDrive = .halt) ∧
        (s.elevator.output.activity = .moving → t.ports.outputDrive = .halt) ∧
        (s.wire.cycle ≠ .idle → s.pull.cycle = .idle →
          t.ports.z = if s.wire.awaits = .cut ∨ s.wire.awaits = .missingDieReturn then
            .haltThenMoveTo (s.head (·.safeHeight)) else .moveTo (s.head (·.safeHeight))) ∧
        (s.pull.cycle = .toWire ∨ s.pull.cycle = .hooking → t.ports.z = .moveTo (s.head (·.safeHeight))) ∧
        (s.pull.cycle = .lifting ∨ s.pull.cycle = .holding ∨ s.pull.cycle = .releasing →
          t.ports.z = .haltThenMoveTo (s.head (·.safeHeight))) ∧
        (s.pull.cycle = .releasing → t.ports.xy = .halt))

/-- R82: a STOP that finds the wire cycle between BOND_FIRST and TAILING rejects the OPEN unit as ABORTED and debits the use
unless it was waived; one that finds it earlier leaves unit and stock. -/
def Obligations.StopDuringWireChargesIt : Prop :=
  ∀ (s : State) (f : WireInFlight) (e : UnitEntry), s.Shaped → s.control.station = .run → s.stage.state = .loaded →
    s.wire.inFlight = some f → s.unit? f.unit = some e → s.wire.cycle ≠ .idle →
    ∃ t : State, exec .stopButton s = .next t ∧
      (f.bondEntered = true → s.wire.cycle ≠ .flaming →
        t.unit? f.unit = some { e with status := if e.status = .isOpen then .reject .aborted else e.status } ∧
        t.wire.stock = if f.debit = .due then s.wire.stock - f.use else s.wire.stock) ∧
      (f.bondEntered = false ∨ s.wire.cycle = .flaming →
        t.stage.record = s.stage.record ∧ t.wire.stock = s.wire.stock)

/-! ## Restart -/

/-- R169, R181: the chord's timer asks for a warm restart once and queues a RESTART frame, also where a restart already waits (log
entry 43); a key's release stops the timer and clears that key's mark, the marks of the two keys being the model's choice (log entry
31); a RESTART frame of a peer asks for one in every state but BOOT. -/
def Obligations.ChordOrFrameAsksForRestart : Prop :=
  (∀ (s : State) (ms : Nat), s.screen.chordTimer = .running ms → s.screen.keys.ackCounted = false →
    s.screen.keys.resumeCounted = false →
    exec .chordTimerExpiry s = .next { s with
      control := { s.control with restartWaiting := true }
      line := s.line.request 0 .restart
      screen := { s.screen with
        chordTimer := .expired
        keys := { s.screen.keys with ackCounted := true, resumeCounted := true } } }) ∧
  (∀ s : State,
    exec (.keyRelease .ack) s = .next { s with screen := { s.screen with
      keys := { s.screen.keys with ackDown := false, ackCounted := false }, chordTimer := .stopped } } ∧
    exec (.keyRelease .resume) s = .next { s with screen := { s.screen with
      keys := { s.screen.keys with resumeDown := false, resumeCounted := false }, chordTimer := .stopped } }) ∧
  (∀ (s : State) (k : Nat), s.IsPeer k →
    exec (.restartFrame k) s = .next { s with
      line := { s.line with ackOut := true }
      control := { s.control with
        restartWaiting := decide (s.control.station ≠ .boot) || s.control.restartWaiting } })

/-- R25, R27, R37, R56, R170, R178, R179, R181: the warm restart, where it acts (log entry 9). Every alarm entry is CLEAR but those of
the conditions raised anew, with the details they held (log entry 10), and those of LINE_LAYOUT and PROGRAM_INVALID. The line-started
flag and the request are cleared, the roster is empty, and the head state, levels (those of the mirror entries too, log entry 17), mask,
readings, trims, spool, counters, logs, slot tables and reports are kept. An invalid program leads into STOPPED; a valid one into
ROLLCALL, with PRESENT and the timer, or to READY where the roster of this station alone is complete, unless its own end flags and maps
breach the layout, which stops it. The stage follows R56's table: OFFERING, and HANDING before its push, become FINISHED with their
record; a push that moves runs on and closes when the strip has left; one whose strip has left, and RECEIVING, become EMPTY, the latter
with its note; any other state stays as it is; the offer permit is cleared in all. -/
def Obligations.WarmRestartKeepsWhatOutlastsIt : Prop :=
  ∀ s : State, s.Shaped → s.BondInv → s.restartActs = true →
    let renewed := [Source.heatPause, Source.zoneSensor, Source.wireLow, Source.wireEnd, Source.planInvalid, Source.magazineEmpty,
      Source.magazineFull, Source.noCover, Source.dwellLimit]
    ∃ t : State, exec .warmRestart s = .next t ∧
      t.control.lineStarted = false ∧ t.control.restartWaiting = false ∧ t.control.head = s.control.head ∧
      t.control.station ≠ .boot ∧ (s.loader.loaded = .invalid → t.control.station = .stopped) ∧
      (∀ id p, s.loader.loaded = .valid id p →
        (t.alarms.stopStands = true ↔ ∃ j ∈ stationNumbers, t.LayoutBreach j) ∧
        (t.alarms.stopStands = true → t.control.station = .stopped) ∧
        (t.alarms.stopStands = false → (∃ n ∈ stationNumbers, t.CompleteTo n) → t.control.station = .ready) ∧
        (t.alarms.stopStands = false → (¬∃ n ∈ stationNumbers, t.CompleteTo n) →
          t.control.station = .rollcall ∧ t.line.rollCallTimer = .running 2000) ∧
        ∃ e ∈ t.line.queue, ∃ q, e.body = .present q ∧ q.station = s.straps.station) ∧
      (∀ i, i < 40 →
        (t.alarms.entry i).count ≤ 1 ∧ (t.alarms.entry i).level = (s.alarms.entry i).level ∧
        (i ≠ Source.lineLayout → i ≠ Source.programInvalid → i ∉ renewed ∨ (s.alarms.entry i).condition = false →
          (t.alarms.entry i).state = .clear ∧ (t.alarms.entry i).condition = false ∧ (t.alarms.entry i).count = 0) ∧
        (i ∈ renewed → (s.alarms.entry i).condition = true → (s.alarms.entry i).level ≠ 0 →
          (t.alarms.entry i).state = .active ∧ (t.alarms.entry i).condition = true ∧
            (t.alarms.entry i).detail = (s.alarms.entry i).detail)) ∧
      t.alarms.mask = s.alarms.mask ∧ t.line.unheard = 0 ∧ t.line.waiting = [] ∧
      (∀ e ∈ t.line.queue, e.onLine = none ∧ ∀ h p, e.body ≠ .record h p) ∧
      t.line.roster = List.replicate 8 RosterEntry.absent ∧ t.loader = s.loader ∧ t.heat = s.heat ∧ t.report = s.report ∧
      t.energy.trims = s.energy.trims ∧ t.energy.lastBond = s.energy.lastBond ∧ t.wire.stock = s.wire.stock ∧
      t.wire.wiresBonded = s.wire.wiresBonded ∧ t.pull.log = s.pull.log ∧ t.pull.failures = s.pull.failures ∧
      t.pull.pairs = s.pull.pairs ∧ t.pull.pending = s.pull.pending ∧ t.elevator.inputSlots = s.elevator.inputSlots ∧
      t.elevator.outputSlots = s.elevator.outputSlots ∧ t.elevator.magSeq = s.elevator.magSeq ∧
      t.elevator.lineSeqCounter = s.elevator.lineSeqCounter ∧ t.screen.page = s.screen.page ∧ t.screen.notice = false ∧
      t.stage.permit = false ∧ t.stage.offerNumber = s.stage.offerNumber ∧
      (t.control.station ≠ .stopped → t.stage.column = s.stage.column ∧ t.stage.indexMotion = s.stage.indexMotion) ∧
      (let st := s.stage.state
       (st ≠ .offering → st ≠ .handing → st ≠ .receiving →
         t.stage.state = st ∧ t.stage.record = s.stage.record ∧ t.stage.dwell = s.stage.dwell ∧
           t.stage.coverWait = s.stage.coverWait) ∧
       (st = .offering → t.stage.state = .finished ∧ t.stage.record = s.stage.record ∧ t.stage.offerTimer = .stopped ∧
         t.stage.dwell = s.stage.dwell) ∧
       (st = .handing →
         (s.stage.push = .notBegun → t.stage.state = .finished ∧ t.stage.record = s.stage.record ∧
           t.stage.dwell = s.stage.dwell) ∧
         (s.stage.push = .moving → t.stage.state = .handing ∧ t.stage.record = s.stage.record ∧ t.stage.closeWhenLeft = true ∧
           t.stage.transferTimer = s.stage.transferTimer ∧ t.stage.pusher = s.stage.pusher) ∧
         (s.stage.push = .gone → t.stage.state = .empty ∧ t.stage.record = none)) ∧
       (st = .receiving → t.stage.state = .empty ∧ t.stage.assembly = none ∧ t.stage.transferTimer = .stopped ∧
         t.stage.note = s.stage.kept.map fun k => ⟨k.sender, k.offer.offerNumber, k.offer.serial, k.offer.lineSeq⟩))

/-! ## Frames of the other stations -/

/-- R20, R24, R35, R171: a peer's STOP frame, in every state: its mirror entry becomes ACTIVE as a STOP of level 16 and source
STOP_KEY with one more occurrence, or stays where it already is that; outside BOOT the station is STOPPED. A peer's LINE_START takes
READY to RUN and sets the line-started flag; in any other state it changes nothing. -/
def Obligations.StopAndLineStartFramesAct : Prop :=
  (∀ (s : State) (k : Nat), s.Shaped → s.IsPeer k →
    let old := s.alarms.entry (31 + k)
    ∃ t : State, exec (.stopFrame k) s = .next t ∧ t.line.ackOut = true ∧
      t.alarms.entry (31 + k) =
        (if old.state ≠ .clear ∧ old.mirrored = .stop ∧ old.level = 16 ∧ old.detail = .peer k 0 then old
          else ⟨.active, true, bump 255 old.count, .peer k 0, 16, .stop⟩) ∧
      (s.control.station = .boot → t.control = s.control) ∧
      (s.control.station ≠ .boot → t.control.station = .stopped)) ∧
  (∀ (s : State) (k : Nat), s.IsPeer k →
    ∃ t : State, exec (.lineStartFrame k) s = .next t ∧
      t = { s with control := t.control, line := t.line, screen := t.screen } ∧ t.line.ackOut = true ∧
      (s.control.station = .ready → t.control = { s.control with station := .run, lineStarted := true }) ∧
      (s.control.station ≠ .ready → t = { s with line := { s.line with ackOut := true } }))

/-- R34, R171: a peer's ALARM frame sets its mirror entry from the summary by R34's table. A mirrored STOP takes the station to
STOPPED outside BOOT; a mirrored HOLD or NOTE sets no hold request. A summary of none clears the entry, and a STOP class goes with it;
that the entry is then of class NOTE and level 0, and that a NOTE keeps its level, is the model's choice (log entry 17). -/
def Obligations.AlarmFrameMirrorsSummary : Prop :=
  ∀ (s : State) (k : Nat) (p : AlarmPayload), s.Shaped → s.IsPeer k →
    let old := s.alarms.entry (31 + k)
    ∃ t : State, exec (.alarmFrame k p) s = .next t ∧ t.line.ackOut = true ∧
      (p.summary = none → t.alarms.entry (31 + k) = { old with
        state := .clear, condition := false, mirrored := .note, level := if old.mirrored = .stop then 0 else old.level }) ∧
      (∀ m, p.summary = some m →
        (m.alarmClass = .stop → s.control.station ≠ .boot → t.control.station = .stopped) ∧
        (m.alarmClass = .stop →
          (old.state ≠ .clear → old.detail = .peer k m.source → old.level = 16 → old.mirrored = .stop →
            t.alarms.entry (31 + k) = old) ∧
          (old.state = .clear ∨ old.detail ≠ .peer k m.source ∨ old.level ≠ 16 →
            t.alarms.entry (31 + k) = ⟨.active, true, bump 255 old.count, .peer k m.source, 16, .stop⟩)) ∧
        (m.alarmClass ≠ .stop →
          (old.state ≠ .clear → old.detail = .peer k m.source → old.level = m.level → old.mirrored = .note →
            t.alarms.entry (31 + k) = old) ∧
          (old.state = .clear ∨ old.detail ≠ .peer k m.source ∨ old.level ≠ m.level →
            t.alarms.entry (31 + k) = ⟨.active, true, bump 255 old.count, .peer k m.source, m.level, .note⟩))) ∧
      (s.alarms.stopStands = false → s.control.station ≠ .stopped →
        (∀ m, p.summary = some m → m.alarmClass ≠ .stop) → t.control = s.control)

/-- R178, R179: a peer's PRESENT frame makes its roster entry present with its role, end flags and program id, in every
state; the report that waits there stays, and so do the other entries. In BOOT nothing else happens but ROSTER_CHANGE; elsewhere
a station with a program answers a peer new to the roster, or one that does not know it, with a PRESENT frame. -/
def Obligations.PresentFrameFillsRoster : Prop :=
  ∀ (s : State) (k : Nat) (p : PresentPayload), s.Shaped → s.IsPeer k →
    let old := s.line.roster.getD (k - 1) .absent
    ∃ t : State, exec (.presentFrame k p) s = .next t ∧
      t.line.roster = s.line.roster.set (k - 1) ⟨some ⟨p.role, p.infeed, p.outfeed, p.programId⟩, old.report⟩ ∧
      (s.control.station = .boot → t = { s with line := t.line, screen := t.screen } ∧ t.line.queue = s.line.queue) ∧
      (s.control.station ≠ .boot → s.programId?.isSome = true →
        old.identity = none ∨ p.known.contains s.straps.station = false → s.line.queue.length < 16 →
        ∃ e ∈ t.line.queue, ∃ q, e.body = .present q ∧ q.station = s.straps.station ∧ q.known.contains k = true)

/-- R34, R45, R178: a peer's STATE frame sets its roster entry's report, in every state. Outside BOOT the one of station k + 1
gives the offer permit, the one of a FINISHED k - 1 is answered with a STATE frame, which stays in the queue where nine frames or fewer stand
there, so that all that the same command may ask for finds room (R174); and one that shows no alarm class clears the mirror entry and
ends its STOP class, with the level log entry 17 gives. -/
def Obligations.StateFrameGivesPermit : Prop :=
  ∀ (s : State) (k : Nat) (p : StatePayload), s.Shaped → s.IsPeer k →
    let old := s.line.roster.getD (k - 1) .absent
    ∃ t : State, exec (.stateFrame k p) s = .next t ∧
      t.line.roster = s.line.roster.set (k - 1) ⟨old.identity, some p⟩ ∧
      (s.control.station = .boot → t = { s with line := t.line, screen := t.screen }) ∧
      (s.control.station ≠ .boot →
        (k = s.straps.station + 1 → t.stage.permit = p.ready) ∧
        (k ≠ s.straps.station + 1 → t.stage.permit = s.stage.permit) ∧
        (k + 1 = s.straps.station → p.stage = .finished → s.line.queue.length ≤ 9 →
          ∃ e ∈ t.line.queue, e.body = .state) ∧
        (let e := s.alarms.entry (31 + k)
         (p.highest = none → t.alarms.entry (31 + k) = { e with
           state := .clear, condition := false, mirrored := .note, level := if e.mirrored = .stop then 0 else e.level }) ∧
         (p.highest ≠ none → t.alarms.entry (31 + k) = e)))

/-- R51, R171: an OFFER addressed to this station is answered at once: REFUSE with the reason of the first check that fails,
which changes nothing else, or TAKE, with the stage RECEIVING. One addressed to another station, and one in BOOT, has no effect
but the acknowledgement. -/
def Obligations.OfferIsAnsweredAtOnce : Prop :=
  (∀ (s : State) (k target : Nat) (o : OfferPayload), s.IsPeer k → s.control.station = .boot →
    exec (.offerFrame k target o) s = .next { s with line := { s.line with ackOut := true } }) ∧
  ∀ (s : State) (k : Nat) (o : OfferPayload), s.IsPeer k → s.control.station ≠ .boot → s.straps.station ≠ 0 →
    let heard := { s.line with ackOut := true }
    (s.straps.infeed = true ∨ k + 1 ≠ s.straps.station →
      exec (.offerFrame k s.straps.station o) s = .next { s with
        line := heard.request k (.refuse ⟨o.offerNumber, .notNeighbour⟩) }) ∧
    (s.straps.infeed = false → k + 1 = s.straps.station → s.control.station ≠ .run → s.control.station ≠ .paused →
      exec (.offerFrame k s.straps.station o) s = .next { s with
        line := heard.request k (.refuse ⟨o.offerNumber, .notRunning⟩) }) ∧
    (s.straps.infeed = false → k + 1 = s.straps.station → s.control.station = .run ∨ s.control.station = .paused →
      s.stage.state ≠ .empty →
      exec (.offerFrame k s.straps.station o) s = .next { s with
        line := heard.request k (.refuse ⟨o.offerNumber, .stageBusy⟩) }) ∧
    (s.straps.infeed = false → k + 1 = s.straps.station → s.control.station = .run ∨ s.control.station = .paused →
      s.stage.state = .empty →
      ∃ t : State, exec (.offerFrame k s.straps.station o) s = .next t ∧
        t.stage = { s.stage with
          state := .receiving
          assembly := some ⟨none, [], none, false⟩
          kept := some ⟨k, o⟩
          note := none
          transferTimer := .running s.transferTimeout } ∧
        t.line = (heard.request k (.take ⟨o.offerNumber, o.serial, o.lineSeq⟩)).request 0 .state ∧
        t = { s with stage := t.stage, line := t.line, screen := t.screen }) ∧
    (∀ target, target ≠ 0 → target ≠ s.straps.station → exec (.offerFrame k target o) s = .next { s with line := heard })

/-- R47, R48: the TAKE that answers the offer in progress starts the handing: the offer timer stops, the transfer timer runs,
and the U + 2 RECORD parts are asked for in part order behind all that waits. Any other TAKE, of another sender, with another number,
serial or line sequence, in another stage state, without a record, or in BOOT, is disregarded. -/
def Obligations.TakeBeginsHanding : Prop :=
  (∀ (s : State) (p : TakePayload), s.straps.station < 8 → s.straps.station ≠ 0 → s.control.station ≠ .boot →
    ∀ r, s.stage.record = some r →
      s.stage.state = .offering → p = ⟨s.stage.offerNumber, r.serial, r.lineSeq⟩ →
        ∃ t : State, exec (.takeFrame (s.straps.station + 1) s.straps.station p) s = .next t ∧
          t.stage = { s.stage with
            state := .handing
            offerTimer := .stopped
            transferTimer := .running s.transferTimeout
            push := .notBegun
            lastPartLeft := false
            closeWhenLeft := false } ∧
          t = { s with stage := t.stage, line := t.line, screen := t.screen } ∧
          t.line.queue ++ t.line.waiting =
            (({ s.line with ackOut := true } : LineUnit).request 0 .state).queue ++ s.line.waiting ++
              r.parts.map (fun x => ⟨s.straps.station + 1, .record s.stage.offerNumber x, none, false⟩)) ∧
  (∀ (s : State) (k : Nat) (p : TakePayload), s.IsPeer k → s.straps.station ≠ 0 →
    (s.control.station = .boot ∨ s.stage.state ≠ .offering ∨ k ≠ s.straps.station + 1 ∨
      ∀ r, s.stage.record = some r → p ≠ ⟨s.stage.offerNumber, r.serial, r.lineSeq⟩) →
    exec (.takeFrame k s.straps.station p) s = .next { s with line := { s.line with ackOut := true } })

/-- R14, R52, R53: a record sent in its parts, in order, is rebuilt by the assembly of the station that answered its OFFER,
field for field: U + 2 parts, numbered 0 to U + 1, complete and unbroken. -/
def Obligations.AssemblyRestoresRecord : Prop :=
  ∀ (n : Nat) (r : StripRecord),
    (∀ t, r.tracked = some t → (∀ e ∈ t.table, e.progress.length = t.segments) ∧ (∀ x ∈ t.suspects, x.unit ≤ t.table.length)) →
    r.parts.length = r.units + 2 ∧ r.parts.map (·.number) = List.range (r.units + 2) ∧
      (r.parts.foldl (fun a p => a.takePart (offerOf n r) p) RecordAssembly.fresh).record? = some r

/-- R14, R52, R171, R182: a RECORD part of the OFFER's sender is given to the assembly of a RECEIVING stage; in other states, and
from another sender, it is discarded. The assembly takes no part once it is broken or complete, nor one whose content does not suit its
number: a header part numbered 0, a unit part from 1 but not U + 1, a suspect part from U + 1, U being the OFFER's (log entry 38). Of the
others it takes the one due and is broken by one out of order, by a header part whose serial, line sequence, tracked flag or units (log
entry 63) differ from the OFFER's, by a unit part with the wrong number of progress entries, and by a suspect above U. A frame with a bad
check, or whose class, kind and length disagree, or, which is an inference (log entry 41), whose sender is no station number, is
discarded without acknowledgement, and a good one whose codes name nothing with one; under the station's own number such a frame that
the station takes also raises DUPLICATE_STATION outside BOOT, which stops the station. That a frame discarded whose codes are good
too is treated like it is the model's choice (log entry 78). -/
def Obligations.RecordPartJoinsAssembly : Prop :=
  (∀ (s : State) (k : Nat) (p : RecordPayload), s.IsPeer k → s.straps.station ≠ 0 →
    (s.control.station ≠ .boot → s.stage.state = .receiving →
      ∀ o, s.stage.kept = some o → k = o.sender → ∀ a, s.stage.assembly = some a →
        exec (.recordFrame k s.straps.station p) s = .next { s with
          line := { s.line with ackOut := true }
          stage := { s.stage with assembly := some (a.takePart o.offer p) } }) ∧
    (s.control.station = .boot ∨ s.stage.state ≠ .receiving ∨ (∀ o, s.stage.kept = some o → k ≠ o.sender) →
      exec (.recordFrame k s.straps.station p) s = .next { s with line := { s.line with ackOut := true } })) ∧
  (∀ (a : RecordAssembly) (o : OfferPayload) (p : RecordPayload),
    let n := p.number
    (a.broken = true ∨ a.complete = true → a.takePart o p = a) ∧ (a.complete = true ↔ a.suspects ≠ none ∧ a.broken = false) ∧
    (a.header = none → a.due = 0) ∧ (∀ h, a.header = some h → a.suspects = none → a.due = a.units.length + 1) ∧
    (∀ h, p.content = .header h → (n ≠ 0 → a.takePart o p = a) ∧
      (a.broken = false → a.complete = false → n = 0 →
        (a.due ≠ 0 → a.takePart o p = { a with broken := true }) ∧
        (a.header = none → a.takePart o p =
          if h.serial = o.serial ∧ h.lineSeq = o.lineSeq ∧ h.tracked = o.tracked ∧ h.units = o.units then
            { a with header := some h } else { a with broken := true }))) ∧
    (∀ e, p.content = .unit e → (n = 0 ∨ n = o.units + 1 → a.takePart o p = a) ∧
      (a.broken = false → a.complete = false → 1 ≤ n → n ≠ o.units + 1 →
        (n ≠ a.due → a.takePart o p = { a with broken := true }) ∧
        (∀ h, a.header = some h → n = a.due → a.takePart o p =
          if n ≤ h.units ∧ e.progress.length = h.segments then { a with units := a.units ++ [e] }
          else { a with broken := true }))) ∧
    (∀ l, p.content = .suspects l → (n ≤ o.units → a.takePart o p = a) ∧
      (a.broken = false → a.complete = false → o.units < n →
        (n ≠ a.due → a.takePart o p = { a with broken := true }) ∧
        (∀ h, a.header = some h → n = a.due → a.takePart o p =
          if n = h.units + 1 ∧ ∀ x ∈ l, x.unit ≤ h.units then { a with suspects := some l }
          else { a with broken := true })))) ∧
  (∀ (s : State) (bytes : List Byte),
    (goodFrame bytes = none → exec (.frameDiscard bytes) s = .next { s with line := { s.line with ackOut := false } }) ∧
    (∀ g, goodFrame bytes = some g →
      let sender := g.2.1
      let target := g.2.2.1
      let acked := { s with line := { s.line with ackOut := true } }
      (sender ≠ s.straps.station ∨ (target ≠ 0 ∧ target ≠ s.straps.station) ∨ s.control.station = .boot →
        exec (.frameDiscard bytes) s = .next acked) ∧
      (s.Shaped → sender = s.straps.station → target = 0 ∨ target = s.straps.station → s.control.station ≠ .boot →
        ∃ t : State, exec (.frameDiscard bytes) s = .next t ∧ t.line.ackOut = true ∧ t.control.station = .stopped ∧
          (t.alarms.entry Source.duplicateStation).state ≠ .clear ∧ t.conditionOf Source.duplicateStation = true ∧
          (t.alarms.entry Source.duplicateStation).detail = .station sender ∧ t.stage.state = s.stage.state ∧
          t.stage.assembly = s.stage.assembly ∧ t.line.roster = s.line.roster)))

/-- R95 to R99: a PULL_RESULT of a wire that this HEAD bonded moves the trims of its class by R96's table, held at the limits;
a HELD or PASS raises the good-run count, and the eighth moves each trim one step toward 0. A trim asked beyond its limit raises
TRIM_LIMIT with the class, a confirm failure raises PROCESS_DRIFT. A low or failed pull with any other break moves no trim and returns
the good-run count to 0. -/
def Obligations.PullResultTeachesTrims : Prop :=
  ∀ (s : State) (k : Nat) (r : PullResult), s.Shaped → s.TrimInv → s.IsPeer k → s.control.station ≠ .boot →
    s.program?.isSome = true → s.straps.role = .head → r.bondedBy = s.straps.station → r.bondClass ≤ 15 →
    let e := s.energy.trimOf r.bondClass
    let o := r.outcome
    let b := r.breakCode
    let up1 := o = .lift1 ∨ (o = .failNd ∧ b = .ballLift)
    let up2 := o = .lift2 ∨ (o = .failNd ∧ b = .stitchLift)
    let down1 := (o = .low ∨ o = .failNd) ∧ b = .neck
    let down2 := (o = .low ∨ o = .failNd) ∧ b = .heel
    ∃ t : State, exec (.pullResultFrame k r) s = .next t ∧
      (∀ c, c ≠ r.bondClass → t.energy.trimOf c = s.energy.trimOf c) ∧ t.energy.bond = s.energy.bond ∧
      (up1 → t.energy.trimOf r.bondClass = ⟨min 20 (e.first + 2), e.second, 0⟩) ∧
      (up2 → t.energy.trimOf r.bondClass = ⟨e.first, min 20 (e.second + 2), 0⟩) ∧
      (down1 → t.energy.trimOf r.bondClass = ⟨max (-20) (e.first - 1), e.second, 0⟩) ∧
      (down2 → t.energy.trimOf r.bondClass = ⟨e.first, max (-20) (e.second - 1), 0⟩) ∧
      (o = .low ∨ o = .failNd → ¬up1 → ¬up2 → ¬down1 → ¬down2 → t.energy.trimOf r.bondClass = ⟨e.first, e.second, 0⟩) ∧
      (o = .noHook → t.energy.trimOf r.bondClass = e) ∧
      (o = .held ∨ o = .pass → e.goodRun < 7 → t.energy.trimOf r.bondClass = { e with goodRun := e.goodRun + 1 }) ∧
      (o = .held ∨ o = .pass → e.goodRun = 7 →
        t.energy.trimOf r.bondClass = ⟨e.first - Int.sign e.first, e.second - Int.sign e.second, 0⟩) ∧
      ((up1 ∧ 18 < e.first) ∨ (up2 ∧ 18 < e.second) ∨ (down1 ∧ e.first < -19) ∨ (down2 ∧ e.second < -19) →
        (t.alarms.entry Source.trimLimit).state = .active ∧
        (t.alarms.entry Source.trimLimit).detail = .bondClass r.bondClass ∧ t.control.holdRequest = true) ∧
      (r.confirmFail = true →
        (t.alarms.entry Source.processDrift).state = .active ∧
        (t.alarms.entry Source.processDrift).detail = .unitWire r.unit r.wire ∧ t.control.holdRequest = true)

/-- R149: a PULL_RESULT of another station heard at the OUTFEED station outside BOOT, with a line sequence, is filed: after the
entry's last line, as one more dropped line where the entry holds 24, in a new entry, or as one more lost result with REPORT_LOSS
where the table is full. Elsewhere nothing is filed. -/
def Obligations.ResultsAreFiled : Prop :=
  ∀ (s : State) (k : Nat) (r : PullResult), s.Shaped → s.IsPeer k →
    ∃ t : State, exec (.pullResultFrame k r) s = .next t ∧
      (s.straps.outfeed = false ∨ s.control.station = .boot ∨ r.lineSeq = 0 → t.report = s.report) ∧
      (s.straps.outfeed = true → s.control.station ≠ .boot → r.lineSeq ≠ 0 →
        (∀ pre e post, s.report.table = pre ++ e :: post → e.lineSeq = r.lineSeq → (∀ x ∈ pre, x.lineSeq ≠ r.lineSeq) →
          (e.lines.length < 24 →
            t.report = { s.report with table := pre ++ { e with lines := e.lines ++ [r] } :: post }) ∧
          (24 ≤ e.lines.length →
            t.report = { s.report with table := pre ++ { e with dropped := bump 255 e.dropped } :: post })) ∧
        ((∀ x ∈ s.report.table, x.lineSeq ≠ r.lineSeq) →
          (s.report.table.length < 4 →
            t.report = { s.report with table := s.report.table ++ [⟨r.lineSeq, [r], 0⟩] }) ∧
          (4 ≤ s.report.table.length →
            t.report = { s.report with lost := bump 255 s.report.lost } ∧
              ((s.alarms.entry Source.reportLoss).level ≠ 0 →
                (t.alarms.entry Source.reportLoss).state = .active ∧
                (t.alarms.entry Source.reportLoss).detail = .lineSeq r.lineSeq))))

/-! ## The transmit queue and roll call -/

/-- R171, R172, R174: with nothing of this station's on the line, the frame that goes on it is the oldest of the lowest class and
kind, with STATE and an ALARM's summary filled as the station then stands (R33, R175). A frame that lost the contest keeps its
place, which is the model's choice (log entry 8), but a RECORD part whose handoff was given up while it stood on the line leaves the
queue (R50, log entry 12). A frame of classes 5 and 6 that waits joins when fewer than eight of them, and
fewer than sixteen frames, stand in the queue; a result is then handed to the own report unit (R131). A command taken without what it needs changes nothing (log entry 1). -/
def Obligations.SendingTakesLowestClassFirst : Prop :=
  (∀ (s : State) (pre post : List TxEntry) (e : TxEntry), s.line.queue = pre ++ e :: post →
    (∀ x ∈ s.line.queue, x.onLine = none) →
    (∀ x ∈ pre, e.body.frameClass < x.body.frameClass ∨
      (e.body.frameClass = x.body.frameClass ∧ e.body.kindCode < x.body.kindCode)) →
    (∀ x ∈ post, e.body.frameClass < x.body.frameClass ∨
      (e.body.frameClass = x.body.frameClass ∧ e.body.kindCode ≤ x.body.kindCode)) →
    exec .frameSendStart s = .next { s with line := { s.line with
      queue := pre ++ { e with onLine := some (s.payloadOf e.body) } :: post } } ∧
    (e.body = .state → s.payloadOf e.body = .state s.ownReport) ∧
    (∀ i c l n d, e.body = .alarm i c l n d → s.payloadOf e.body = .alarm ⟨i, c, l, n, d, s.alarms.summary⟩)) ∧
  (∀ s : State, (s.line.queue = [] ∨ ∃ x ∈ s.line.queue, x.onLine.isSome = true) → exec .frameSendStart s = .next s) ∧
  (∀ (s : State) (pre post : List TxEntry) (e : TxEntry), s.line.queue = pre ++ e :: post →
    (∀ x ∈ pre ++ post, x.onLine = none) →
    (e.givenUp = false ∨ e.onLine = none →
      exec .arbitrationLost s = .next { s with line := { s.line with queue := pre ++ { e with onLine := none } :: post } }) ∧
    (e.givenUp = true → e.onLine.isSome = true →
      exec .arbitrationLost s = .next { s with line := { s.line with queue := pre ++ post } })) ∧
  (∀ (s : State) (e : TxEntry) (rest : List TxEntry), s.line.waiting = e :: rest →
    let joined := { s.line with queue := s.line.queue ++ [e], waiting := rest }
    (s.line.bulkCount < 8 → s.line.queue.length < 16 →
      ((∀ x, e.body ≠ .pullResult x) → exec .waitingFrameJoins s = .next { s with line := joined }) ∧
      (∀ x, e.body = .pullResult x →
        (s.straps.outfeed = false → exec .waitingFrameJoins s = .next { s with line := joined }) ∧
        (s.straps.outfeed = true → s.control.station ≠ .boot → x.lineSeq ≠ 0 → s.report.table = [] →
          exec .waitingFrameJoins s = .next { s with
            line := joined, report := { s.report with table := [⟨x.lineSeq, [x], 0⟩] } }))) ∧
    (8 ≤ s.line.bulkCount ∨ 16 ≤ s.line.queue.length → exec .waitingFrameJoins s = .next s))

/-- R48, R131, R173: the end of a frame's sending. The frame leaves the queue. Acknowledged, it returns the unheard count to 0 and ends
LINE_ALONE's condition. Unacknowledged, it raises the count, and at the third LINE_ALONE, but not on a line of one station. With the last
RECORD part of the handoff gone, the push begins. With nothing of the station on the line it changes nothing (log entry 1). -/
def Obligations.SendEndCountsUnheard : Prop :=
  (∀ (s : State) (pre post : List TxEntry) (e : TxEntry), s.Shaped → s.line.queue = pre ++ e :: post →
    (∀ x ∈ pre ++ post, x.onLine = none) → e.onLine.isSome = true →
    (s.stage.state ≠ .handing →
      (s.conditionOf Source.lineAlone = false →
        exec (.frameSendEnd true) s = .next { s with line := { s.line with queue := pre ++ post, unheard := 0 } }) ∧
      (s.conditionOf Source.lineAlone = true →
        ∃ t : State, exec (.frameSendEnd true) s = .next t ∧ t.line.unheard = 0 ∧
          t.conditionOf Source.lineAlone = false ∧
          t = { s with alarms := t.alarms, line := t.line, screen := t.screen }) ∧
      (s.line.unheard ≠ 2 ∨ soleStation s.straps = true →
        exec (.frameSendEnd false) s = .next { s with line := { s.line with
          queue := pre ++ post, unheard := if s.line.unheard < 255 then s.line.unheard + 1 else s.line.unheard } }) ∧
      (s.line.unheard = 2 → soleStation s.straps = false →
        ∃ t : State, exec (.frameSendEnd false) s = .next t ∧ t.line.unheard = 3 ∧
          (t.alarms.entry Source.lineAlone).state ≠ .clear ∧ t.conditionOf Source.lineAlone = true ∧
          t = { s with control := t.control, alarms := t.alarms, line := t.line, screen := t.screen })) ∧
    (∀ r p ms acked, s.stage.state = .handing → s.stage.record = some r → e.body = .record s.stage.offerNumber p →
      p.number = r.units + 1 → s.stage.transferTimer = .running ms → s.stage.push = .notBegun → s.stage.pusher = .rest →
      ∃ t : State, exec (.frameSendEnd acked) s = .next t ∧
        t.stage = { s.stage with lastPartLeft := true, push := .moving, pusher := .driving })) ∧
  (∀ (s : State) (acked : Bool), (∀ x ∈ s.line.queue, x.onLine = none) → exec (.frameSendEnd acked) s = .next s)

/-- R179: the roll-call timer's expiry in ROLLCALL with the line incomplete: PRESENT again, the timer again, and ROSTER_GAP, the
first time with the lowest absent station as detail. Once it is stopped, or in any other state, it does nothing
(log entry 1). -/
def Obligations.RollCallTimerAsksAgain : Prop :=
  ∀ s : State, s.Shaped →
    (∀ ms, s.line.rollCallTimer = .running ms → s.control.station = .rollcall → s.rollCallComplete = false →
      ∃ t : State, exec .rollCallTimerExpiry s = .next t ∧ t.line.rollCallTimer = .running 2000 ∧
        t.control.station = .rollcall ∧ t.conditionOf Source.rosterGap = true ∧
        (s.conditionOf Source.rosterGap = true → t.alarms = s.alarms) ∧
        (s.conditionOf Source.rosterGap = false → (t.alarms.entry Source.rosterGap).state ≠ .clear ∧
          ∀ k, 1 ≤ k → k ≤ 8 → s.present k = false → (∀ j, 1 ≤ j → j < k → s.present j = true) →
            (t.alarms.entry Source.rosterGap).detail = .station k) ∧
        (s.programId?.isSome = true → s.line.queue.length < 16 →
          ∃ e ∈ t.line.queue, ∃ q, e.body = .present q ∧ q.station = s.straps.station)) ∧
    (s.line.rollCallTimer = .stopped ∨ s.line.rollCallTimer = .expired ∨ s.control.station ≠ .rollcall →
      exec .rollCallTimerExpiry s = .next s)

/-- R20, R104, R171, R178 to R180: a frame with this station's own number, as its sender and, where the kind has one, as its target,
is acknowledged and raises DUPLICATE_STATION outside BOOT, which stops the station; no block takes it. A PRESENT frame that changes the
roster outside BOOT has it judged: PROGRAM_MISMATCH is present exactly with an entry whose program id differs, and LINE_LAYOUT exactly
with a layout breach, of two OUTFEED stations the lower being the end (log entry 34), each with the lowest station as detail; a complete
roll call ends ROSTER_GAP's condition and, with no STOP-class entry standing, ROLLCALL, its timer stopped. -/
def Obligations.OwnNumberAndRosterAreJudged : Prop :=
  (∀ (s : State) (c : Instr), s.Shaped → 1 ≤ s.straps.station → s.straps.station ≤ 8 →
    let k := s.straps.station
    c = .stopFrame k ∨ c = .restartFrame k ∨ (∃ p, c = .presentFrame k p) ∨ (∃ p, c = .alarmFrame k p) ∨
        (∃ p, c = .stateFrame k p) ∨ c = .lineStartFrame k ∨ (∃ r, c = .pullResultFrame k r) ∨
        (∃ p, c = .offerFrame k k p) ∨ (∃ p, c = .takeFrame k k p) ∨ (∃ p, c = .refuseFrame k k p) ∨
        (∃ p, c = .arrivedFrame k k p) ∨ (∃ p, c = .recordFrame k k p) →
      (s.control.station = .boot → exec c s = .next { s with line := { s.line with ackOut := true } }) ∧
      (s.control.station ≠ .boot → ∃ t : State, exec c s = .next t ∧ t.line.ackOut = true ∧
        t.control.station = .stopped ∧ t.control.lineStarted = s.control.lineStarted ∧
        t.control.restartWaiting = s.control.restartWaiting ∧
        t.alarms.entry Source.duplicateStation =
          (let old := s.alarms.entry Source.duplicateStation
           if old.state = .clear then
             { old with state := .active, condition := true, count := bump 255 old.count, detail := .station k }
           else { old with condition := true, detail := .station k }) ∧
        t.alarms.entry (31 + k) = s.alarms.entry (31 + k) ∧ t.line.roster = s.line.roster ∧ t.report = s.report ∧
        t.energy.trims = s.energy.trims ∧ t.stage.state = s.stage.state ∧ t.stage.assembly = s.stage.assembly ∧
        t.stage.permit = s.stage.permit ∧ t.stage.offerTimer = s.stage.offerTimer)) ∧
  (∀ (s : State) (k : Nat) (p : PresentPayload), s.Shaped → s.IsPeer k → s.control.station ≠ .boot →
    ∃ t : State, exec (.presentFrame k p) s = .next t ∧ (t.line.roster ≠ s.line.roster →
      (∀ id, s.programId? = some id →
        (∀ j ∈ stationNumbers, t.Shows j (·.programId ≠ id) →
          (t.alarms.entry Source.programMismatch).state ≠ .clear ∧ t.conditionOf Source.programMismatch = true ∧
            ((∀ m ∈ stationNumbers, m < j → ¬t.Shows m (·.programId ≠ id)) →
              (t.alarms.entry Source.programMismatch).detail = .station j)) ∧
        ((∀ j ∈ stationNumbers, ¬t.Shows j (·.programId ≠ id)) → t.conditionOf Source.programMismatch = false)) ∧
      (∀ j, t.LayoutBreach j → (t.alarms.entry Source.lineLayout).state ≠ .clear ∧
        t.conditionOf Source.lineLayout = true ∧
        ((∀ m, m < j → ¬t.LayoutBreach m) → (t.alarms.entry Source.lineLayout).detail = .station j)) ∧
      ((∀ j, ¬t.LayoutBreach j) → t.conditionOf Source.lineLayout = false) ∧
      (∀ n, t.CompleteTo n → t.conditionOf Source.rosterGap = false) ∧
      (t.alarms.stopStands = true → t.control.station = .stopped) ∧
      (s.control.station = .rollcall → t.alarms.stopStands = true → t.line.rollCallTimer = .stopped) ∧
      (s.control.station = .rollcall → t.alarms.stopStands = false →
        (∀ n, t.CompleteTo n → t.control.station = .ready ∧ t.line.rollCallTimer = .stopped) ∧
        ((∀ n, ¬t.CompleteTo n) → t.control.station = .rollcall ∧ t.line.rollCallTimer = s.line.rollCallTimer))))

/-! ## The heat monitor -/

/-- R59, R60, R61: a visit stores the next zone's reading, or the mark of an invalid one, and after the end of the load judges
it: its cause by R60's table, the pause request, HEAT_PAUSE at a new cause and at the request's end, ZONE_SENSOR at an invalid
reading of an enabled zone. Nothing else changes. -/
def Obligations.ZoneVisitJudgesZone : Prop :=
  ∀ (s : State) (valid : Bool) (x : Int), s.Shaped → 1 ≤ s.heat.nextZone → s.heat.nextZone ≤ 6 →
    let z := s.heat.nextZone
    let old := s.heat.zone z
    let g := s.zoneSetting z
    let counts := valid = true ∧ -40 ≤ x ∧ x ≤ 500
    ∃ t : State, exec (.zoneVisit valid x) s = .next t ∧
      t = { s with control := t.control, alarms := t.alarms, line := t.line, heat := t.heat, screen := t.screen } ∧
      t.heat.nextZone = (if z = 6 then 1 else z + 1) ∧
      (∀ j, 1 ≤ j → j ≠ z → t.heat.zone j = s.heat.zone j) ∧
      (counts → (t.heat.zone z).reading = some x ∧ (t.heat.zone z).lastInvalid = false) ∧
      (¬counts → (t.heat.zone z).reading = old.reading ∧ (t.heat.zone z).lastInvalid = true) ∧
      (s.loader.loaded = .loading → (t.heat.zone z).cause = old.cause ∧ t.heat.pauseRequest = s.heat.pauseRequest ∧
        t.alarms = s.alarms) ∧
      (s.loader.loaded ≠ .loading →
        (g.enabled = false → (t.heat.zone z).cause = .none) ∧
        (g.enabled = true → ¬counts → (t.heat.zone z).cause = .cold) ∧
        (g.enabled = true → counts → g.tLow ≤ g.tHigh →
          (g.tHigh < x → (t.heat.zone z).cause = .hot) ∧ (x < g.tLow → (t.heat.zone z).cause = .cold) ∧
          (g.tLow ≤ x → x ≤ g.tHigh → g.tLow + s.coolOff ≤ x → x ≤ g.tHigh - s.coolOff →
            (t.heat.zone z).cause = .none) ∧
          (g.tLow ≤ x → x ≤ g.tHigh → (x < g.tLow + s.coolOff ∨ g.tHigh - s.coolOff < x) →
            (t.heat.zone z).cause = old.cause)) ∧
        (t.anyCause = true → t.heat.pauseRequest = true) ∧
        (t.anyCause = false → t.allRecovered = true → t.heat.pauseRequest = false) ∧
        (t.anyCause = false → t.allRecovered = false → t.heat.pauseRequest = s.heat.pauseRequest) ∧
        ((t.heat.zone z).cause ≠ old.cause → (t.heat.zone z).cause ≠ .none →
          (s.alarms.entry Source.heatPause).level ≠ 0 →
          (t.alarms.entry Source.heatPause).state ≠ .clear ∧ t.conditionOf Source.heatPause = true ∧
            (t.alarms.entry Source.heatPause).detail = .zone z) ∧
        (s.heat.pauseRequest = true → t.heat.pauseRequest = false → t.conditionOf Source.heatPause = false) ∧
        (g.enabled = true → ¬counts → (s.alarms.entry Source.zoneSensor).level ≠ 0 →
          (t.alarms.entry Source.zoneSensor).state ≠ .clear ∧ t.conditionOf Source.zoneSensor = true ∧
            (t.alarms.entry Source.zoneSensor).detail = .zone z))

/-- R62: the compensation temperature of a zone is its last reading where the zone is enabled and its last visit gave a valid
one, and its set temperature in every other case, which gives no deficit; the energy unit reads that of the zone mapped to the
current column at the start of each bond, a visit changes no bond in progress, and at power-on every zone gives its set
temperature. -/
def Obligations.CompensationTemperatureOfZone : Prop :=
  (∀ (s : State) (z : Nat) (r : Int), s.zoneEnabled z = true → (s.heat.zone z).lastInvalid = false →
    (s.heat.zone z).reading = some r → s.compensationTemperature z = r) ∧
  (∀ (s : State) (z : Nat),
    s.zoneEnabled z = false ∨ (s.heat.zone z).lastInvalid = true ∨ (s.heat.zone z).reading = none →
    s.compensationTemperature z = (s.zoneSetting z).tSet ∧ s.deficit z = 0) ∧
  (∀ (s : State) (f : WireInFlight) (p : Program) (x : Int), s.wire.inFlight = some f → s.program? = some p →
    s.wire.awaits = .none →
    let z := zoneOfColumn p s.stage.column
    let d := max 0 ((s.zoneSetting z).tSet - s.compensationTemperature z)
    (s.wire.cycle = .searchFirst →
      ∃ t b, exec (.searchFirstContact x) s = .next t ∧ t.energy.bond = some b ∧ b.compensation = min 10 (d / 5)) ∧
    (s.wire.cycle = .searchSecond →
      ∃ t b, exec (.searchSecondContact x) s = .next t ∧ t.energy.bond = some b ∧ b.compensation = min 10 (d / 5))) ∧
  (∀ (s t : State) (valid : Bool) (x : Int), exec (.zoneVisit valid x) s = .next t → t.energy = s.energy) ∧
  (∀ (s t : State) (p : Straps) (r : FirstReading) (z : Nat), exec (.powerOn p r) s = .next t →
    (t.heat.zone z).reading = none ∧ t.compensationTemperature z = (t.zoneSetting z).tSet)

/-! ## The energy unit -/

/-- R87: the effective power of a bond is the floor of a hundredth of nominal power times 100 + trim + compensation, a factor
from 80 to 130; where the product exceeds 100 000 it is 1000 and the saturated mark is set, and otherwise, at exactly 100 000
too, the mark is clear. Power and mark stay with the bond through its samples to the last bond record, and the mark, no outcome
of its own, changes what an outcome asks for. -/
def Obligations.EffectivePowerIsLatched : Prop :=
  (∀ (s : State) (f : WireInFlight) (x : Int) (side : Side), s.TrimInv → s.wire.inFlight = some f →
    s.wire.awaits = .none →
    s.wire.cycle = (match side with | .first => .searchFirst | .second => .searchSecond) →
    ∃ t b, exec (match side with | .first => .searchFirstContact x | .second => .searchSecondContact x) s = .next t ∧
      t.energy.bond = some b ∧ b.bondClass = f.bondClass ∧ b.side = side ∧
      b.trim = (match side with
        | .first => (s.energy.trimOf f.bondClass).first
        | .second => (s.energy.trimOf f.bondClass).second) ∧
      80 ≤ 100 + b.trim + b.compensation ∧ 100 + b.trim + b.compensation ≤ 130 ∧
      (let product := ((s.bondSet f.bondClass side).nominalPower : Int) * (100 + b.trim + b.compensation)
       (100000 < product → b.power = 1000 ∧ b.saturated = true) ∧
       (product ≤ 100000 → (b.power : Int) = product / 100 ∧ b.saturated = false))) ∧
  (∀ (s : State) (b : Bond) (z : Option Int) (g : Nat), s.energy.bond = some b →
    ∃ t : State, exec (.bondSample z g) s = .next t ∧
      (∀ c, t.energy.bond = some c → c.power = b.power ∧ c.saturated = b.saturated) ∧
      (t.energy.bond = none → ∃ l, t.energy.lastBond = some l ∧ l.power = b.power ∧ l.saturated = b.saturated)) ∧
  (∀ (s : State) (u w : Nat) (o : BondOutcome), o = .sinkMet ∨ o = .timed ∨ o = .fast →
    s.bondConsequence o false u w = s ∧ s.bondConsequence o true u w = s.askSuspect u w .saturated) ∧
  (∀ (s : State) (u w : Nat),
    s.bondConsequence .short true u w = s.requestReject u .bondFail ∧
    s.bondConsequence .short false u w =
      (if s.pullDownstream then s.askSuspect u w .shortSink else s.requestReject u .bondFail) ∧
    ∀ mark, s.bondConsequence .crush mark u w = s.requestReject u .bondFail)

/-- R88 to R93: the demand of an interval is floor(P × i / Rs) up to the ramp's end and P after it. A sample's sink is its fall
below contact, held within 0 to 500, or the last one where none is reported; the first of the crush, target and time tests that
holds ends the bond: demand and force go, the last bond record takes the values, FAST is counted, LOOPING or TAILING opens,
and the unit is rejected BOND_FAIL or takes a suspect by R91's table, while it is OPEN. A suspect that stands already is left as it is;
one for which the list of 16 has no place is counted as dropped, with SUSPECT_DROP. -/
def Obligations.SamplesRampAndEndBond : Prop :=
  (∀ (s : State) (b : Bond), s.energy.bond = some b → s.wire.cycle = .bondFirst ∨ s.wire.cycle = .bondSecond →
    let rs := (s.bondSet b.bondClass b.side).rampSteps
    exec .demandInterval s = .next { s with ports := { s.ports with
      ultrasonic := if b.samples + 1 ≤ rs then b.power * (b.samples + 1) / rs else b.power } }) ∧
  (∀ (s : State) (b : Bond) (f : WireInFlight) (z : Option Int) (g : Nat), s.energy.bond = some b →
    s.wire.inFlight = some f → s.wire.cycle = .bondFirst ∨ s.wire.cycle = .bondSecond →
    let q := s.bondSet b.bondClass b.side
    let e := b.samples + 1
    let sink := match z with
      | some z => if b.contactZ - z < 0 then 0 else if 500 < b.contactZ - z then 500 else (b.contactZ - z).toNat
      | none => b.sink
    let crush := q.maxSink < sink
    let met := ¬crush ∧ q.targetSink ≤ sink
    let late := ¬crush ∧ ¬met ∧ e = q.maxTime
    ∃ t : State, exec (.bondSample z g) s = .next t ∧
      (¬crush → ¬met → ¬late → t = { s with energy := { s.energy with
        bond := some { b with samples := e, sink := sink, generator := some g } } }) ∧
      (∀ o, (o = .crush ∧ crush) ∨ (o = .sinkMet ∧ met ∧ q.minTime ≤ e) ∨ (o = .fast ∧ met ∧ e < q.minTime) ∨
          (o = .timed ∧ late ∧ q.minSink ≤ sink) ∨ (o = .short ∧ late ∧ sink < q.minSink) →
        t.energy = { s.energy with
          bond := none
          lastBond := some ⟨b.bondClass, b.side, b.power, b.saturated, o, e, sink, some g⟩
          fastCount := if o = .fast then bump 99999999 s.energy.fastCount else s.energy.fastCount } ∧
        t.ports.ultrasonic = 0 ∧ t.ports.bondForce = none ∧ t.wire.stock = s.wire.stock ∧
        (b.side = .first → t.wire.cycle = .looping ∧ t.wire.inFlight = some f) ∧
        (b.side = .second → t.wire.cycle = .tailing ∧ t.wire.inFlight = some f) ∧
        (b.saturated = false → o ≠ .crush → o ≠ .short → t.stage = s.stage) ∧
        (∀ u, s.unit? f.unit = some u → s.stage.state = .loaded →
          (o = .crush ∨ (o = .short ∧ (b.saturated = true ∨ s.pullDownstream = false)) →
            t.unit? f.unit = some { u with status := if u.status = .isOpen then .reject .bondFail else u.status }) ∧
          (∀ r tk, s.stage.record = some r → r.tracked = some tk → u.status = .isOpen →
            (∀ x ∈ tk.suspects, x.unit ≠ f.unit ∨ x.wire ≠ f.wire) → tk.suspects.length < 16 →
            (b.saturated = true → o = .sinkMet ∨ o = .timed ∨ o = .fast →
              t.stage.record = some { r with tracked := some { tk with
                suspects := tk.suspects ++ [⟨f.unit, f.wire, .saturated⟩] } }) ∧
            (b.saturated = false → o = .short → s.pullDownstream = true →
              t.stage.record = some { r with tracked := some { tk with
                suspects := tk.suspects ++ [⟨f.unit, f.wire, .shortSink⟩] } })) ∧
          ((b.saturated = true ∧ (o = .sinkMet ∨ o = .timed ∨ o = .fast)) ∨
              (b.saturated = false ∧ o = .short ∧ s.pullDownstream = true) →
            (u.status ≠ .isOpen → t.stage = s.stage) ∧
            (∀ r tk, s.stage.record = some r → r.tracked = some tk → u.status = .isOpen →
              ((∃ x ∈ tk.suspects, x.unit = f.unit ∧ x.wire = f.wire) → t.stage = s.stage ∧ t.alarms = s.alarms) ∧
              ((∀ x ∈ tk.suspects, x.unit ≠ f.unit ∨ x.wire ≠ f.wire) → 16 ≤ tk.suspects.length →
                t.stage.record = some { r with tracked := some { tk with dropped := bump 255 tk.dropped } } ∧
                (s.Shaped → (s.alarms.entry Source.suspectDrop).level ≠ 0 →
                  (t.alarms.entry Source.suspectDrop).state = .active ∧
                  (t.alarms.entry Source.suspectDrop).detail = .unitWire f.unit f.wire)))))))

/-! ## The stage -/

/-- R2, R23, R40, R50, R54: the three timers of the stage. The dwell limit, reached once for a strip, raises DWELL_LIMIT and sets the
dwell flag except in HANDING. The sender's transfer timer stops the push, withdraws the RECORD parts that wait and raises
HANDOFF_TIMEOUT for station k + 1; the receiver's raises it for k - 1. The stage keeps its state and its record. A RESUME press with
HANDOFF_TIMEOUT no longer ACTIVE, accepted or not (log entry 30), reads the sender's sensors: a covered exit waits on, a strip at the
arrival sensor returns the stage to FINISHED, none empties it; the receiver discards its assembly and is EMPTY with a note of the OFFER
it had answered. A RECORD part on the line runs to its end or leaves the queue if it loses the contest, and is marked for it (log entry 12), and a limit or timeout of a timer that does not run changes
nothing (log entry 1). -/
def Obligations.StageTimersExpire : Prop :=
  ∀ s : State, s.Shaped →
    (s.stage.dwell.isRunning = true → s.stage.dwell.reached = false →
      ∃ t : State, exec .dwellLimitReached s = .next t ∧ t.conditionOf Source.dwellLimit = true ∧
        (t.alarms.entry Source.dwellLimit).state ≠ .clear ∧
        (∀ r, s.stage.record = some r → (t.alarms.entry Source.dwellLimit).detail = .lineSeq r.lineSeq) ∧
        t = { s with control := t.control, alarms := t.alarms, line := t.line, stage := t.stage, screen := t.screen } ∧
        t.stage = { s.stage with dwell := { s.stage.dwell with reached := true }, record := t.stage.record } ∧
        (s.stage.state = .handing → t.stage.record = s.stage.record) ∧
        (s.stage.state = .loaded ∨ s.stage.state = .finished ∨ s.stage.state = .offering ∨ s.stage.state = .unloading →
          t.stage.record = s.stage.record.map fun r => { r with dwell := true })) ∧
    (s.stage.dwell.isRunning = false ∨ s.stage.dwell.reached = true → exec .dwellLimitReached s = .next s) ∧
    (∀ ms, s.stage.transferTimer = .running ms →
      (s.stage.state = .handing →
        ∃ t : State, exec .senderTransferTimeout s = .next t ∧
          t.stage = { s.stage with
            transferTimer := .expired
            closeWhenLeft := false
            push := if s.stage.push = .moving then .stopped else s.stage.push
            pusher := if s.stage.pusher = .driving then .returning else s.stage.pusher } ∧
          (t.alarms.entry Source.handoffTimeout).state = .active ∧
          (t.alarms.entry Source.handoffTimeout).detail = .station (s.straps.station + 1) ∧
          t.control = { s.control with holdRequest := true } ∧
          (∀ e ∈ t.line.waiting, ∀ p, e.body ≠ .record s.stage.offerNumber p) ∧
          (∀ e ∈ t.line.queue, ∀ p, e.body = .record s.stage.offerNumber p → e.onLine.isSome = true ∧ e.givenUp = true) ∧
          t = { s with control := t.control, alarms := t.alarms, line := t.line, stage := t.stage, screen := t.screen }) ∧
      (s.stage.state = .receiving →
        ∃ t : State, exec .receiverTransferTimeout s = .next t ∧
          t.stage = { s.stage with transferTimer := .expired } ∧
          (t.alarms.entry Source.handoffTimeout).state = .active ∧
          (t.alarms.entry Source.handoffTimeout).detail = .station (s.straps.station - 1) ∧
          t.control = { s.control with holdRequest := true } ∧
          t = { s with control := t.control, alarms := t.alarms, line := t.line, stage := t.stage, screen := t.screen })) ∧
    (s.stage.transferTimer = .stopped ∨ s.stage.transferTimer = .expired →
      exec .senderTransferTimeout s = .next s ∧ exec .receiverTransferTimeout s = .next s) ∧
    (∀ p : StripSensors, s.control.station ≠ .boot → s.elevator.input.activity ≠ .waitingResume →
      s.elevator.output.activity ≠ .waitingResume →
      let old := s.alarms.entry Source.handoffTimeout
      ∃ t : State, exec (.resumeKey p) s = .next t ∧
        (old.state ≠ .active ∨ old.level ≤ s.alarms.mask → s.stage.transferTimer = .expired →
          (s.stage.state = .handing →
            (p.exit = true → t.stage.state = .handing ∧ t.stage.record = s.stage.record ∧
              t.stage.transferTimer = .expired ∧ t.stage.push = s.stage.push) ∧
            (p.exit = false → p.arrival = true → t.stage.state = .finished ∧ t.stage.record = s.stage.record ∧
              t.stage.transferTimer = .stopped ∧ t.stage.push = .notBegun) ∧
            (p.exit = false → p.arrival = false → t.stage.state = .empty ∧ t.stage.record = none ∧
              t.stage.transferTimer = .stopped ∧ t.stage.dwell.isRunning = false)) ∧
          (s.stage.state = .receiving → t.stage.state = .empty ∧ t.stage.assembly = none ∧ t.stage.kept = none ∧
            t.stage.transferTimer = .stopped ∧
            t.stage.note = s.stage.kept.map fun k => ⟨k.sender, k.offer.offerNumber, k.offer.serial, k.offer.lineSeq⟩)) ∧
        ((old.state = .active ∧ s.alarms.mask < old.level) ∨ s.stage.transferTimer ≠ .expired →
          t.stage.state = s.stage.state ∧ (s.stage.state ≠ .loaded → t.stage.record = s.stage.record) ∧
            t.stage.assembly = s.stage.assembly ∧ t.stage.kept = s.stage.kept ∧ t.stage.note = s.stage.note ∧ t.stage.transferTimer = s.stage.transferTimer ∧
            t.stage.push = s.stage.push))

/-- R41, R42, R43: with the cycle and the index drive at rest, a LOADED stage in RUN works the lowest column that has work or
indexes to it, and in RUN or PAUSED, with no column left, takes the leave step: FINISHED, or the cover wait with NO_COVER where
cover is needed and lacking. An index motion that ends sets the column position. A HEAD station with its head OUT, and an
untracked record, give no column work. Cover is needed at a HEAD with its head OUT while its own segment is incomplete on an OPEN unit of
a tracked strip, and it exists while its spare is present, with its head IN and not STOPPED. A stage in cover wait judges it again at
each change of its spare's roster entry, outside BOOT: found, the wait ends with NO_COVER's condition gone, and the leave step judges
cover anew (log entry 57); lacking, the wait goes on and NO_COVER is not raised again. A choice that is not due changes nothing (log entry
1). -/
def Obligations.StageWorksLowestColumn : Prop :=
  (∀ s : State, s.Shaped → s.stage.state = .loaded → s.stage.indexMotion = none → s.wire.cycle = .idle →
    s.pull.cycle = .idle →
    (s.control.station = .run → ∀ c, 1 ≤ c → c ≤ s.columns → s.columnHasWork c = true →
      (∀ j, 1 ≤ j → j < c → s.columnHasWork j = false) →
      (c = s.stage.column → exec .stageChooseWork s = .next { s with stage := { s.stage with working := true } }) ∧
      (c ≠ s.stage.column →
        ∃ t : State, exec .stageChooseWork s = .next t ∧
          t.stage = { s.stage with indexMotion := some c, working := false } ∧
          t.ports = { s.ports with index := .goTo c } ∧
          t = { s with stage := t.stage, ports := t.ports, screen := t.screen })) ∧
    (s.control.station = .run ∨ s.control.station = .paused →
      (∀ c, 1 ≤ c → c ≤ s.columns → s.columnHasWork c = false) →
      (s.coverNeeded = false ∨ s.coverBy s.ownSpare = true →
        ∃ t : State, exec .stageChooseWork s = .next t ∧
          t.stage = { s.stage with state := .finished, coverWait := false, working := t.stage.working } ∧
          t = { s with alarms := t.alarms, line := t.line, stage := t.stage, screen := t.screen }) ∧
      (s.coverNeeded = true → s.coverBy s.ownSpare = false →
        ∃ t : State, exec .stageChooseWork s = .next t ∧
          t.stage = { s.stage with coverWait := true, working := t.stage.working } ∧
          (s.stage.coverWait = true → t.alarms = s.alarms) ∧
          (s.stage.coverWait = false → (t.alarms.entry Source.noCover).state ≠ .clear ∧
            t.conditionOf Source.noCover = true ∧ (t.alarms.entry Source.noCover).detail = .station s.ownSpare))) ∧
    (s.control.station ≠ .run → s.control.station ≠ .paused → exec .stageChooseWork s = .next s)) ∧
  (∀ s : State, s.stage.state ≠ .loaded ∨ s.stage.indexMotion.isSome = true → exec .stageChooseWork s = .next s) ∧
  (∀ s : State,
    (∀ c, s.stage.indexMotion = some c →
      exec .indexMotionEnd s = .next { s with stage := { s.stage with column := c, indexMotion := none } }) ∧
    (s.stage.indexMotion = none → exec .indexMotionEnd s = .next s)) ∧
  (∀ (s : State) (c : Nat), (s.straps.role = .head ∧ s.control.head = .headOut) ∨ s.tracked? = none →
    s.columnHasWork c = false) ∧
  (∀ s : State, s.coverNeeded = true ↔ s.straps.role = .head ∧ s.control.head = .headOut ∧
    ∃ p tk, s.program? = some p ∧ s.tracked? = some tk ∧
      (segmentOf p s.straps.station).first ≤ (segmentOf p s.straps.station).last ∧
      ∃ e ∈ tk.table, e.status = .isOpen ∧ ∃ g, e.progress[s.straps.station - 1]? = some g ∧
        g.next ≠ (segmentOf p s.straps.station).last + 1) ∧
  (∀ (s : State) (k : Nat), s.coverBy k = true ↔ k ≠ 0 ∧ ∃ i, (s.rosterEntry k).identity = some i ∧
    ∃ r, (s.rosterEntry k).report = some r ∧ r.head = .headIn ∧ r.station ≠ .stopped) ∧
  (∀ (s : State) (k : Nat) (p : StatePayload), s.Shaped → s.IsPeer k → s.control.station ≠ .boot →
    s.stage.state = .loaded → s.stage.coverWait = true → s.control.head = .headOut →
    ∃ t : State, exec (.stateFrame k p) s = .next t ∧ t.stage.state = .loaded ∧
      (k = s.ownSpare → p.head = .headIn → p.station ≠ .stopped → (s.rosterEntry k).identity.isSome = true →
        t.stage.coverWait = false ∧ t.conditionOf Source.noCover = false) ∧
      (k ≠ s.ownSpare ∨ p.head = .headOut ∨ p.station = .stopped ∨ (s.rosterEntry k).identity = none →
        t.stage.coverWait = true ∧ t.alarms.entry Source.noCover = s.alarms.entry Source.noCover)) ∧
  (∀ (s : State) (k : Nat) (p : PresentPayload), s.Shaped → s.IsPeer k → s.control.station ≠ .boot →
    s.stage.state = .loaded → s.stage.coverWait = true → s.control.head = .headOut → k = s.ownSpare →
    ∃ t : State, exec (.presentFrame k p) s = .next t ∧ t.stage.state = .loaded ∧
      ((∃ r, (s.rosterEntry k).report = some r ∧ r.head = .headIn ∧ r.station ≠ .stopped) →
        t.stage.coverWait = false ∧ t.conditionOf Source.noCover = false) ∧
      ((¬∃ r, (s.rosterEntry k).report = some r ∧ r.head = .headIn ∧ r.station ≠ .stopped) →
        t.stage.coverWait = true ∧ t.alarms.entry Source.noCover = s.alarms.entry Source.noCover))

/-- R39, R53, R55: an arrival ends a transfer with the record of a complete assembly, or with an untracked one of the OFFER's
identity and UNTRACKED_STRIP, and tells the sender; in EMPTY it makes an untracked record of the note's identity, or of none; in
both the stage is LOADED at column 1 with its dwell timer from 0, and the pull unit's items of the strip begin again. In the other
states but FEEDING it is disregarded. -/
def Obligations.ArrivalGivesStageARecord : Prop :=
  (∀ (s : State) (k : KeptOffer) (a : RecordAssembly), s.Shaped → s.stage.state = .receiving → s.stage.kept = some k →
    s.stage.assembly = some a →
    ∃ t : State, exec .arrival s = .next t ∧ t.stage.state = .loaded ∧ t.stage.column = 1 ∧
      t.stage.dwell = ⟨true, false, s.stage.dwell.limit⟩ ∧ t.stage.transferTimer = .stopped ∧ t.stage.assembly = none ∧ t.stage.kept = none ∧
      t.pull = { s.pull with pairs := [], auditCount := 0, confirmTried := false } ∧
      (∀ r, a.record? = some r → t.stage.record = some r ∧ t.alarms = s.alarms) ∧
      (a.record? = none → t.stage.record = some ⟨k.offer.serial, k.offer.lineSeq, false, false, none⟩ ∧
        ((s.alarms.entry Source.untrackedStrip).level ≠ 0 →
          (t.alarms.entry Source.untrackedStrip).state = .active ∧
          (t.alarms.entry Source.untrackedStrip).detail = .lineSeq k.offer.lineSeq)) ∧
      (s.line.queue.length < 13 →
        ∃ e ∈ t.line.queue, e.target = k.sender ∧ e.body = .arrived ⟨k.offer.offerNumber, k.offer.lineSeq⟩) ∧
      t = { s with alarms := t.alarms, line := t.line, stage := t.stage, pull := t.pull, screen := t.screen }) ∧
  (∀ s : State, s.Shaped → s.stage.state = .empty →
    ∃ t : State, exec .arrival s = .next t ∧ t.stage.state = .loaded ∧ t.stage.column = 1 ∧
      t.stage.dwell = ⟨true, false, s.stage.dwell.limit⟩ ∧ t.stage.note = none ∧
      t.pull = { s.pull with pairs := [], auditCount := 0, confirmTried := false } ∧
      ((s.alarms.entry Source.untrackedStrip).level ≠ 0 → (t.alarms.entry Source.untrackedStrip).state = .active) ∧
      (∀ n, s.stage.note = some n → t.stage.record = some ⟨n.serial, n.lineSeq, false, false, none⟩ ∧
        (s.line.queue.length < 13 →
          ∃ e ∈ t.line.queue, e.target = n.sender ∧ e.body = .arrived ⟨n.offerNumber, n.lineSeq⟩)) ∧
      (s.stage.note = none → t.stage.record = some ⟨⟨0, 0⟩, 0, false, false, none⟩ ∧
        ∀ e ∈ t.line.queue, ∀ p, e.body = .arrived p → e ∈ s.line.queue) ∧
      t = { s with alarms := t.alarms, line := t.line, stage := t.stage, pull := t.pull, screen := t.screen }) ∧
  (∀ s : State,
    s.stage.state ≠ .receiving → s.stage.state ≠ .empty → s.stage.state ≠ .feeding → exec .arrival s = .next s)

/-- R46, R47, R49: the ends of an offer and a handoff, and the offer itself. A FINISHED stage that may offer takes the next offer number,
spends its permit and asks for the OFFER. A REFUSE with the current offer number and the offer timer's expiry return OFFERING to FINISHED.
An ARRIVED with the handoff's number and line sequence discards the frozen copy and empties the stage; a pusher still driving completes
its stroke. Answers with another number are disregarded. An offer that is not due, and the expiry of a timer of no offer, change nothing
(log entry 1). -/
def Obligations.OfferIsMadeAndAnswered : Prop :=
  (∀ (s : State) (r : StripRecord), s.stage.record = some r →
    (s.stage.state = .finished → s.straps.outfeed = false → s.control.station = .run ∨ s.control.station = .paused →
      s.stage.permit = true → s.stage.indexMotion = none → s.pull.cycle = .idle →
      (∀ e ∈ s.line.queue ++ s.line.waiting, ∀ x, e.body = .pullResult x → x.serial ≠ r.serial ∨ x.lineSeq ≠ r.lineSeq) →
      let n := if s.stage.offerNumber < 255 then s.stage.offerNumber + 1 else 1
      ∃ t : State, exec .offerSend s = .next t ∧
        t.stage = { s.stage with
          state := .offering
          offerNumber := n
          permit := false
          offerTimer := .running s.offerTimeout } ∧
        t.line = (s.line.request (s.straps.station + 1)
          (.offer ⟨n, r.serial, r.lineSeq, r.tracked.isSome, r.units⟩)).request 0 .state ∧
        t = { s with stage := t.stage, line := t.line, screen := t.screen }) ∧
    (s.stage.state ≠ .finished ∨ s.straps.outfeed = true ∨ s.stage.permit = false ∨
        (s.control.station ≠ .run ∧ s.control.station ≠ .paused) ∨ s.pull.cycle ≠ .idle →
      exec .offerSend s = .next s)) ∧
  (∀ (s : State) (p : RefusePayload), s.straps.station < 8 → s.straps.station ≠ 0 → s.control.station ≠ .boot →
    (s.stage.state = .offering → p.offerNumber = s.stage.offerNumber →
      ∃ t : State, exec (.refuseFrame (s.straps.station + 1) s.straps.station p) s = .next t ∧
        t.stage = { s.stage with state := .finished, offerTimer := .stopped } ∧
        t = { s with stage := t.stage, line := t.line, screen := t.screen }) ∧
    (s.stage.state ≠ .offering ∨ p.offerNumber ≠ s.stage.offerNumber →
      exec (.refuseFrame (s.straps.station + 1) s.straps.station p) s = .next { s with
        line := { s.line with ackOut := true } })) ∧
  (∀ s : State,
    (s.stage.state = .offering →
      ∃ t : State, exec .offerTimerExpiry s = .next t ∧
        t.stage = { s.stage with state := .finished, offerTimer := .expired } ∧
        t = { s with stage := t.stage, line := t.line, screen := t.screen }) ∧
    (s.stage.state ≠ .offering → exec .offerTimerExpiry s = .next s)) ∧
  (∀ (s : State) (p : ArrivedPayload), s.straps.station < 8 → s.straps.station ≠ 0 → s.control.station ≠ .boot →
    (s.stage.state = .handing → p = ⟨s.stage.offerNumber, s.recordSeq⟩ →
      ∃ t : State, exec (.arrivedFrame (s.straps.station + 1) s.straps.station p) s = .next t ∧
        t.stage.state = .empty ∧ t.stage.record = none ∧ t.stage.transferTimer = .stopped ∧
        t.stage.dwell.isRunning = false ∧ t.stage.offerNumber = s.stage.offerNumber ∧
        t.stage.pusher = (if s.stage.pusher = .driving then .returning else s.stage.pusher) ∧
        t = { s with stage := t.stage, alarms := t.alarms, line := t.line, screen := t.screen }) ∧
    (s.stage.state ≠ .handing ∨ p ≠ ⟨s.stage.offerNumber, s.recordSeq⟩ →
      exec (.arrivedFrame (s.straps.station + 1) s.straps.station p) s = .next { s with
        line := { s.line with ackOut := true } }))

/-! ## The magazines -/

/-- R11, R49, R138 to R141: a feeding push. It starts with the stage EMPTY in RUN at a slot not yet judged whose strip is still seen,
and latches the OUTFEED station's number; with the strip gone the slot is VACANT and the next is the target. A stage whose pusher is
away from rest takes no push; that the input pusher must be back at rest too is the model's choice (log entry 82). A mark joins once. An arrival in FEEDING makes the tracked record of the next line sequence, with its
marked units SKIP, and leaves the input pusher at rest (log entry 19); the timer's expiry leaves the slot MISFED, the stage EMPTY and
MISFEED standing. A RESUME press with MISFEED no longer ACTIVE, accepted or not (log entry 30), goes on to the next slot. After the
last slot, judged VACANT or TAKEN or released MISFED, the next target is EXCHANGE and MAGAZINE_EMPTY stands. -/
def Obligations.FeedingPushMakesRecord : Prop :=
  (∀ (s : State) (n last : Nat), s.straps.infeed = true → s.stage.state = .empty → s.control.station = .run →
    s.elevator.input.activity = .idle → s.elevator.input.magazine = true →
    s.elevator.input.position = some (.slot n) → s.elevator.input.target = some (.slot n) →
    s.elevator.inputSlots[n - 1]? = some .unknown → s.elevator.inputPusher = .rest → s.stage.pusher = .rest → s.outfeedStation = some last →
    (∃ t : State, exec (.feedingPushStart true) s = .next t ∧ t.stage = { s.stage with state := .feeding } ∧
      t.elevator = { s.elevator with
        input := { s.elevator.input with activity := .pushing, pushTimer := .running s.pushTimeout }
        feeding := some ⟨n, last, s.elevator.magSeq, []⟩
        inputPusher := .driving } ∧
      t = { s with stage := t.stage, elevator := t.elevator, line := t.line, screen := t.screen }) ∧
    (∃ t : State, exec (.feedingPushStart false) s = .next t ∧ t.stage = s.stage ∧
      t.elevator = { s.elevator with
        inputSlots := s.elevator.inputSlots.set (n - 1) .vacant
        input := { s.elevator.input with
          target := some (if n < s.setting (·.magazine.inputSlots) 0 then .slot (n + 1) else .exchange) } } ∧
      (s.Shaped → s.setting (·.magazine.inputSlots) 0 ≤ n → (s.alarms.entry Source.magazineEmpty).level ≠ 0 →
        t.ShowsCondition Source.magazineEmpty .none))) ∧
  (∀ (s : State) (seen : Bool), s.stage.pusher ≠ .rest ∨ s.elevator.inputPusher ≠ .rest →
    exec (.feedingPushStart seen) s = .next s) ∧
  (∀ (s : State) (u : Nat) (f : FeedingPush), s.elevator.feeding = some f →
    exec (.inkMark u) s = .next { s with elevator := { s.elevator with
      feeding := some { f with marks := if u ∈ f.marks then f.marks else f.marks ++ [u] } } }) ∧
  (∀ (s : State) (f : FeedingPush) (p : Program), s.stage.state = .feeding → s.elevator.feeding = some f →
    s.program? = some p → s.elevator.input.deferred = 0 →
    let q := if s.elevator.lineSeqCounter < 65535 then s.elevator.lineSeqCounter + 1 else 1
    ∃ t r tk, exec .arrival s = .next t ∧ t.stage.state = .loaded ∧ t.stage.record = some r ∧ t.stage.column = 1 ∧
      t.stage.dwell = ⟨true, false, s.stage.dwell.limit⟩ ∧ t.pull = { s.pull with pairs := [], auditCount := 0, confirmTried := false } ∧
      r = ⟨⟨f.magSeq, f.slot⟩, q, false, decide (q % p.pull.sampleInterval = 0), some tk⟩ ∧
      tk.segments = f.segments ∧ tk.dropped = 0 ∧ tk.suspects = [] ∧ tk.table.length = p.columns * p.rows ∧
      (∀ u, 1 ≤ u → u ≤ p.columns * p.rows → ∃ e, tk.unit? u = some e ∧
        e.status = (if u ∈ f.marks then .skip else .isOpen) ∧ e.pulls = 0 ∧ e.worst = none ∧
        e.progress.length = f.segments ∧
        ∀ k, 1 ≤ k → k ≤ f.segments →
          e.progress[k - 1]? = some ⟨(segmentOf p k).first, 0, 0, (segmentOf p k).first⟩) ∧
      t.elevator = { s.elevator with
        lineSeqCounter := q
        inputSlots := s.elevator.inputSlots.set (f.slot - 1) .taken
        feeding := none
        inputPusher := .rest
        input := { s.elevator.input with
          activity := .idle
          pushTimer := .stopped
          target := some (if f.slot < p.magazine.inputSlots then .slot (f.slot + 1) else .exchange) } } ∧
      (s.Shaped → p.magazine.inputSlots ≤ f.slot → (s.alarms.entry Source.magazineEmpty).level ≠ 0 →
        t.ShowsCondition Source.magazineEmpty .none)) ∧
  (∀ (s : State) (f : FeedingPush), s.Shaped → s.stage.state = .feeding → s.elevator.feeding = some f →
    ∃ t : State, exec .feedingPushTimeout s = .next t ∧ t.stage.state = .empty ∧ t.stage.record = none ∧
      t.elevator = { s.elevator with
        inputSlots := s.elevator.inputSlots.set (f.slot - 1) .misfed
        feeding := none
        inputPusher := .returning
        input := { s.elevator.input with activity := .waitingResume, pushTimer := .expired } } ∧
      (t.alarms.entry Source.misfeed).state = .active ∧ (t.alarms.entry Source.misfeed).detail = .slot f.slot ∧
      t.control = { s.control with holdRequest := true }) ∧
  (∀ (s : State) (n : Nat) (p : StripSensors), s.Shaped → s.control.station ≠ .boot →
    s.elevator.input.activity = .waitingResume → s.elevator.input.position = some (.slot n) →
    s.elevator.input.deferred = 0 →
    let old := s.alarms.entry Source.misfeed
    ∃ t : State, exec (.resumeKey p) s = .next t ∧
      (old.state ≠ .active ∨ old.level ≤ s.alarms.mask → t.elevator.inputSlots = s.elevator.inputSlots ∧
        t.elevator.magSeq = s.elevator.magSeq ∧
        t.elevator.input = { s.elevator.input with
          activity := .idle
          target := some (if n < s.setting (·.magazine.inputSlots) 0 then .slot (n + 1) else .exchange) } ∧
        (s.setting (·.magazine.inputSlots) 0 ≤ n → (s.alarms.entry Source.magazineEmpty).level ≠ 0 →
          t.ShowsCondition Source.magazineEmpty .none)) ∧
      (old.state = .active → s.alarms.mask < old.level → t.elevator.input = s.elevator.input))

/-- R48, R49, R56, R144, R146, R151, R152: a strip that leaves the stage. A handoff push ends, with the stage HANDING until ARRIVED,
or EMPTY where a warm restart came in the meantime. An unloading push ends with the slot FILLED, the report composed into the reserved
place, the stage EMPTY and the next slot the target, or EXCHANGE with MAGAZINE_FULL after the last (R146). The pusher is at rest at
the end of either push (log entry 19), and one back at rest lets a push that waited for it begin (log entry 39). A return to rest of a
pusher that is not returning changes nothing (log entry 1). -/
def Obligations.StripLeavesStage : Prop :=
  (∀ s : State, s.stage.state = .handing → s.stage.push = .moving →
    ∃ t : State, exec .stripLeft s = .next t ∧ t.stage.pusher = .rest ∧ t.stage.dwell.isRunning = false ∧
      (s.stage.closeWhenLeft = false →
        t.stage = { s.stage with push := .gone, pusher := .rest, dwell := { s.stage.dwell with isRunning := false } }) ∧
      (s.stage.closeWhenLeft = true → t.stage.state = .empty ∧ t.stage.record = none ∧
        t.stage.transferTimer = .stopped) ∧
      t = { s with alarms := t.alarms, line := t.line, stage := t.stage, screen := t.screen }) ∧
  (∀ (s : State) (u : Unloading) (r : StripRecord), s.stage.state = .unloading → s.elevator.output.activity = .pushing →
    s.elevator.unloading = some u → s.stage.record = some r → s.elevator.output.deferred = 0 →
    ∃ t : State, exec .stripLeft s = .next t ∧ t.stage.state = .empty ∧ t.stage.record = none ∧
      t.stage.pusher = .rest ∧ t.stage.dwell.isRunning = false ∧
      t.elevator = { s.elevator with
        outputSlots := s.elevator.outputSlots.set (u.slot - 1) (.filled r.serial u.good u.reject)
        unloading := none
        output := { s.elevator.output with
          activity := .idle
          pushTimer := .stopped
          target := some (if u.slot < s.setting (·.magazine.outputSlots) 0 then .slot (u.slot + 1) else .exchange) } } ∧
      (s.Shaped → s.setting (·.magazine.outputSlots) 0 ≤ u.slot → (s.alarms.entry Source.magazineFull).level ≠ 0 →
        t.ShowsCondition Source.magazineFull .none) ∧
      t.report.reserved = false ∧ t.report.lost = 0 ∧ t.report.sending = s.report.sending ∧
      (r.lineSeq = 0 → t.report.table = s.report.table) ∧
      (r.lineSeq ≠ 0 → t.report.table = s.report.table.filter fun e =>
        decide (e.lineSeq ≠ r.lineSeq) && !seqBefore e.lineSeq r.lineSeq) ∧
      ∃ lines : List ReportLine, t.report.ready = s.report.ready ++ [lines] ∧
        (r.tracked = none → lines.length = 2 ∧ lines[1]? = some (.ending r.lineSeq 2 0 0)) ∧
        (∀ tk e, r.tracked = some tk → r.lineSeq ≠ 0 → s.report.table = [e] → e.lineSeq = r.lineSeq →
          lines = .trackedHeader r.serial r.lineSeq tk.table.length tk.segments r.dwell r.sample tk.dropped
              tk.suspects.length u.slot u.good u.reject s.report.lost ::
            (unitLines 1 tk.table ++ e.lines.map .pull ++
              [.ending r.lineSeq (tk.table.length + e.lines.length + 2) e.lines.length e.dropped])) ∧
        (∀ tk, r.tracked = some tk → s.report.table = [] → lines.length = tk.table.length + 2)) ∧
  (∀ s : State,
    (s.elevator.inputPusher = .returning →
      exec (.pusherReturnToRest .input) s = .next { s with elevator := { s.elevator with inputPusher := .rest } }) ∧
    (s.elevator.inputPusher ≠ .returning → exec (.pusherReturnToRest .input) s = .next s) ∧
    (∀ ms, s.stage.pusher = .returning → s.stage.state = .handing → s.stage.push = .notBegun →
      s.stage.lastPartLeft = true → s.stage.transferTimer = .running ms →
      exec (.pusherReturnToRest .stage) s = .next { s with
        stage := { s.stage with pusher := .driving, push := .moving } }) ∧
    (s.stage.pusher = .returning → s.stage.state ≠ .handing ∨ s.stage.lastPartLeft = false →
      exec (.pusherReturnToRest .stage) s = .next { s with stage := { s.stage with pusher := .rest } }) ∧
    (s.stage.pusher ≠ .returning → exec (.pusherReturnToRest .stage) s = .next s))

/-- R16, R143, R145, R146: unloading. A FINISHED stage of the OUTFEED station with an output slot and a report place finds the slot in
use, which is BLOCKED and passed, with MAGAZINE_FULL and EXCHANGE as the target after the last, or free, and then closes its record,
reserves the place and pushes. The push timer's expiry raises MISFEED and waits for RESUME with the stage UNLOADING. A RESUME press
with MISFEED no longer ACTIVE, accepted or not (log entry 30), reads the stage's sensors: a covered exit waits on, a strip at the
arrival sensor lets the retry push again without reading the slot, and with none the unloading ends as at a push's end, the pusher as
it stands (log entry 19). -/
def Obligations.UnloadingStoresStrip : Prop :=
  (∀ (s : State) (n : Nat) (r : StripRecord), s.Shaped → s.straps.outfeed = true → s.stage.state = .finished →
    s.stage.record = some r → s.control.station = .run ∨ s.control.station = .paused →
    s.elevator.output.magazine = true → s.elevator.output.activity = .idle →
    s.elevator.output.position = some (.slot n) → s.elevator.output.target = some (.slot n) →
    s.elevator.outputSlots[n - 1]? = some .empty → 0 < s.report.free → s.stage.indexMotion = none →
    s.pull.cycle = .idle → s.resultWaiting = false → s.stage.pusher = .rest →
    (∃ t : State, exec (.unloadStart true) s = .next t ∧ t.stage = s.stage ∧ t.report = s.report ∧
      t.elevator = { s.elevator with
        outputSlots := s.elevator.outputSlots.set (n - 1) .blocked
        output := { s.elevator.output with
          target := some (if n < s.setting (·.magazine.outputSlots) 0 then .slot (n + 1) else .exchange) } } ∧
      ((s.alarms.entry Source.slotBlocked).level ≠ 0 → (t.alarms.entry Source.slotBlocked).state = .active ∧
        (t.alarms.entry Source.slotBlocked).detail = .slot n) ∧
      (s.setting (·.magazine.outputSlots) 0 ≤ n → (s.alarms.entry Source.magazineFull).level ≠ 0 →
        t.ShowsCondition Source.magazineFull .none)) ∧
    (∃ t x, exec (.unloadStart false) s = .next t ∧
      t.stage = { s.stage with state := .unloading, record := some x, pusher := .driving } ∧
      x.serial = r.serial ∧ x.lineSeq = r.lineSeq ∧ x.dwell = r.dwell ∧ x.sample = r.sample ∧
      (r.tracked = none → x.tracked = none ∧ t.elevator.unloading = some ⟨n, 0, 0⟩) ∧
      (∀ tk, r.tracked = some tk → ∃ ck, x.tracked = some ck ∧
        ck = { tk with table := ck.table } ∧
        ck.table = tk.table.map (fun e => if e.status = .isOpen then { e with status := .reject .incomplete } else e) ∧
        t.elevator.unloading = some ⟨n, (tk.table.filter fun e => decide (e.status = .done)).length,
          (tk.table.filter fun e => decide (e.status ≠ .done)).length⟩) ∧
      t.elevator.output = { s.elevator.output with activity := .pushing, pushTimer := .running s.pushTimeout } ∧
      t.report = { s.report with reserved := true } ∧
      t = { s with stage := t.stage, elevator := t.elevator, report := t.report, line := t.line, screen := t.screen })) ∧
  (∀ (s : State) (u : Unloading), s.Shaped → s.stage.state = .unloading → s.elevator.unloading = some u →
    (s.elevator.output.activity = .pushing →
      ∃ t : State, exec .unloadingPushTimeout s = .next t ∧
        t.stage = { s.stage with pusher := .returning } ∧ t.report = s.report ∧
        t.elevator = { s.elevator with output := { s.elevator.output with
          activity := .waitingResume, pushTimer := .expired } } ∧
        (t.alarms.entry Source.misfeed).state = .active ∧ (t.alarms.entry Source.misfeed).detail = .slot u.slot ∧
        t.control = { s.control with holdRequest := true }) ∧
    (∀ n, s.control.station = .run ∨ s.control.station = .paused → s.elevator.output.activity = .idle →
      s.stage.pusher = .rest → s.elevator.output.magazine = true → s.elevator.output.position = some (.slot n) →
      s.elevator.output.target = some (.slot n) →
      exec .unloadingPushRetry s = .next { s with
        stage := { s.stage with pusher := .driving }
        elevator := { s.elevator with
          unloading := some { u with slot := n }
          output := { s.elevator.output with activity := .pushing, pushTimer := .running s.pushTimeout } } })) ∧
  (∀ (s : State) (u : Unloading) (r : StripRecord) (p : StripSensors), s.Shaped → s.control.station ≠ .boot →
    s.stage.state = .unloading → s.elevator.unloading = some u → s.stage.record = some r →
    s.elevator.input.activity ≠ .waitingResume → s.elevator.output.activity = .waitingResume →
    s.elevator.output.deferred = 0 →
    let old := s.alarms.entry Source.misfeed
    ∃ t : State, exec (.resumeKey p) s = .next t ∧
      (old.state ≠ .active ∨ old.level ≤ s.alarms.mask →
        (p.exit = true → t.elevator.output = s.elevator.output ∧ t.stage.state = .unloading ∧
          t.stage.record = some r ∧ t.elevator.unloading = some u) ∧
        (p.exit = false → p.arrival = true → t.elevator.output = { s.elevator.output with activity := .idle } ∧
          t.stage.state = .unloading ∧ t.stage.record = some r ∧ t.elevator.unloading = some u) ∧
        (p.exit = false → p.arrival = false → t.stage.state = .empty ∧ t.stage.record = none ∧
          t.stage.pusher = s.stage.pusher ∧ t.stage.dwell.isRunning = false ∧ t.elevator.unloading = none ∧
          t.elevator.outputSlots = s.elevator.outputSlots.set (u.slot - 1) (.filled r.serial u.good u.reject) ∧
          t.elevator.output = { s.elevator.output with
            activity := .idle
            pushTimer := .stopped
            target := some (if u.slot < s.setting (·.magazine.outputSlots) 0 then .slot (u.slot + 1) else .exchange) } ∧
          (s.setting (·.magazine.outputSlots) 0 ≤ u.slot → (s.alarms.entry Source.magazineFull).level ≠ 0 →
            t.ShowsCondition Source.magazineFull .none) ∧
          t.report.reserved = false ∧ ∃ lines, t.report.ready = s.report.ready ++ [lines])) ∧
      (old.state = .active → s.alarms.mask < old.level → t.elevator.output = s.elevator.output ∧
        t.stage.state = .unloading ∧ t.stage.record = some r ∧ t.report = s.report))

/-- R135 to R138, R141, R142, R146: the elevators. A move begins in RUN from IDLE toward a target that differs from the position, to a
slot only with the magazine there; at its end the position is the target, and the slot is judged: an UNKNOWN input slot without a strip is
VACANT and passed, one with a strip waits, one already judged is passed; past the last slot the target is EXCHANGE, with MAGAZINE_EMPTY or
MAGAZINE_FULL. A move ends at the place that was its target when it began (log entry 22), and where the target has changed or the magazine
is out it judges no slot (log entry 23). A new magazine begins its slot table and target anew and ends the empty or full condition; each
one sensed in a push is counted and waits (log entry 21). A magazine taken out keeps the table and raises the condition. A move whose
conditions do not hold does not begin (log entry 1). -/
def Obligations.ElevatorsServeMagazines : Prop :=
  (∀ (s : State) (p : Place), s.straps.infeed = true → s.elevator.input.activity = .idle →
    s.elevator.input.target = some p → s.elevator.input.position ≠ some p → s.elevator.inputPusher = .rest →
    (s.control.station = .run → p = .exchange ∨ s.elevator.input.magazine = true →
      exec (.elevatorMoveStart .input) s = .next { s with
        elevator := { s.elevator with
          input := { s.elevator.input with activity := .moving, destination := some p } }
        ports := { s.ports with inputDrive := .goTo p (s.setting (·.magazine.inputDirection) .up) } }) ∧
    (s.control.station ≠ .run ∨ (p ≠ .exchange ∧ s.elevator.input.magazine = false) →
      exec (.elevatorMoveStart .input) s = .next s)) ∧
  (∀ (s : State) (p : Place), s.straps.outfeed = true → s.elevator.output.activity = .idle →
    s.elevator.output.target = some p → s.elevator.output.position ≠ some p → s.stage.pusher = .rest →
    (s.control.station = .run → p = .exchange ∨ s.elevator.output.magazine = true →
      exec (.elevatorMoveStart .output) s = .next { s with
        elevator := { s.elevator with
          output := { s.elevator.output with activity := .moving, destination := some p } }
        ports := { s.ports with outputDrive := .goTo p (s.setting (·.magazine.outputDirection) .up) } }) ∧
    (s.control.station ≠ .run ∨ (p ≠ .exchange ∧ s.elevator.output.magazine = false) →
      exec (.elevatorMoveStart .output) s = .next s)) ∧
  (∀ (s : State) (n : Nat) (seen : Bool) (v : InputSlot), s.Shaped → s.elevator.input.activity = .moving →
    s.elevator.input.destination = some (.slot n) → s.elevator.input.target = some (.slot n) →
    s.elevator.input.magazine = true → s.elevator.inputSlots[n - 1]? = some v →
    let there := { s.elevator.input with activity := .idle, position := some (.slot n), destination := none }
    let next := some (if n < s.setting (·.magazine.inputSlots) 0 then Place.slot (n + 1) else .exchange)
    ∃ t : State, exec (.elevatorMoveEnd .input seen) s = .next t ∧
      (v = .unknown → seen = true → t.elevator = { s.elevator with input := there }) ∧
      (v = .unknown → seen = false → t.elevator = { s.elevator with
        input := { there with target := next }, inputSlots := s.elevator.inputSlots.set (n - 1) .vacant }) ∧
      (v ≠ .unknown → t.elevator = { s.elevator with input := { there with target := next } }) ∧
      (v ≠ .unknown ∨ seen = false → s.setting (·.magazine.inputSlots) 0 ≤ n →
        (s.alarms.entry Source.magazineEmpty).level ≠ 0 →
        (t.alarms.entry Source.magazineEmpty).state ≠ .clear ∧ t.conditionOf Source.magazineEmpty = true)) ∧
  (∀ (s : State) (n : Nat) (seen : Bool) (v : OutputSlot), s.Shaped → s.elevator.output.activity = .moving →
    s.elevator.output.destination = some (.slot n) → s.elevator.output.target = some (.slot n) →
    s.elevator.output.magazine = true → s.elevator.outputSlots[n - 1]? = some v →
    let there := { s.elevator.output with activity := .idle, position := some (.slot n), destination := none }
    let next := some (if n < s.setting (·.magazine.outputSlots) 0 then Place.slot (n + 1) else .exchange)
    ∃ t : State, exec (.elevatorMoveEnd .output seen) s = .next t ∧
      t.elevator = { s.elevator with output := if v = .empty then there else { there with target := next } } ∧
      (v ≠ .empty → s.setting (·.magazine.outputSlots) 0 ≤ n → (s.alarms.entry Source.magazineFull).level ≠ 0 →
        (t.alarms.entry Source.magazineFull).state ≠ .clear ∧ t.conditionOf Source.magazineFull = true)) ∧
  (∀ (s : State) (d : Place) (seen : Bool),
    (s.elevator.input.activity = .moving → s.elevator.input.destination = some d →
      s.elevator.input.target ≠ some d ∨ s.elevator.input.magazine = false ∨ d = .exchange →
      exec (.elevatorMoveEnd .input seen) s = .next { s with elevator := { s.elevator with
        input := { s.elevator.input with activity := .idle, position := some d, destination := none } } }) ∧
    (s.elevator.output.activity = .moving → s.elevator.output.destination = some d →
      s.elevator.output.target ≠ some d ∨ s.elevator.output.magazine = false ∨ d = .exchange →
      exec (.elevatorMoveEnd .output seen) s = .next { s with elevator := { s.elevator with
        output := { s.elevator.output with activity := .idle, position := some d, destination := none } } })) ∧
  (∀ s : State, s.Shaped → s.straps.infeed = true →
    (s.elevator.input.magazine = false →
      ∃ t : State, exec (.newMagazine .input) s = .next t ∧
        (s.elevator.input.activity = .idle ∨ s.elevator.input.activity = .moving →
          t.elevator = { s.elevator with
            magSeq := if s.elevator.magSeq < 9999 then s.elevator.magSeq + 1 else 1
            inputSlots := List.replicate 50 .unknown
            input := { s.elevator.input with magazine := true, target := some (.slot 1) } } ∧
          t.conditionOf Source.magazineEmpty = false) ∧
        (s.elevator.input.activity = .pushing ∨ s.elevator.input.activity = .waitingResume →
          t = { s with elevator := { s.elevator with input := { s.elevator.input with
            magazine := true, deferred := s.elevator.input.deferred + 1 } } })) ∧
    (s.elevator.input.magazine = true →
      ∃ t : State, exec (.magazineRemoved .input) s = .next t ∧
        t.elevator = { s.elevator with input := { s.elevator.input with magazine := false } } ∧
        ((s.alarms.entry Source.magazineEmpty).level ≠ 0 →
          (t.alarms.entry Source.magazineEmpty).state ≠ .clear ∧ t.conditionOf Source.magazineEmpty = true))) ∧
  (∀ s : State, s.Shaped → s.straps.outfeed = true →
    (s.elevator.output.magazine = false →
      ∃ t : State, exec (.newMagazine .output) s = .next t ∧
        (s.elevator.output.activity = .idle ∨ s.elevator.output.activity = .moving →
          t.elevator = { s.elevator with
            outputSlots := List.replicate 50 .empty
            output := { s.elevator.output with magazine := true, target := some (.slot 1) } } ∧
          t.conditionOf Source.magazineFull = false) ∧
        (s.elevator.output.activity = .pushing ∨ s.elevator.output.activity = .waitingResume →
          t = { s with elevator := { s.elevator with output := { s.elevator.output with
            magazine := true, deferred := s.elevator.output.deferred + 1 } } })) ∧
    (s.elevator.output.magazine = true →
      ∃ t : State, exec (.magazineRemoved .output) s = .next t ∧
        t.elevator = { s.elevator with output := { s.elevator.output with magazine := false } } ∧
        ((s.alarms.entry Source.magazineFull).level ≠ 0 →
          (t.alarms.entry Source.magazineFull).state ≠ .clear ∧ t.conditionOf Source.magazineFull = true)))

/-! ## The wire cycle -/

/-- R65 to R69, R77, R106: the next wire of a column stands on its first unit, by rows, that is OPEN with an incomplete segment this
station works, its own or that of a lower station whose spare it is, and is the lowest next wire among those segments; a column without
such a unit has none. A cycle on it needs RUN, the head IN, and no hold, pause or restart asked for; with the stock below its use the head
goes OUT with WIRE_END, else it enters TO_FIRST, or a lead flame-off without a ball. The fire's spark decides ball-ready; a lead flame-off
that succeeds goes on where the cycle may still start, any other ends the cycle, with FLAME_FAIL where no spark came. A start whose
conditions do not hold changes nothing (log entry 1). -/
def Obligations.WireCycleStartsWithBall : Prop :=
  (∀ (s : State) (p : Program) (tk : TrackedPart) (c : Nat), s.program? = some p → s.tracked? = some tk →
    let left (e : UnitEntry) (k : Nat) (g : Progress) : Prop :=
      e.status = .isOpen ∧ e.progress[k - 1]? = some g ∧ s.worksSegment p k = true ∧ segmentComplete p k g = false
    let done (u : Nat) : Prop := ∀ e, tk.unit? u = some e → ∀ k g, 1 ≤ k → ¬left e k g
    (∀ u w k, s.nextWire c = some (u, w, k) →
      (∃ pre post, columnUnits p.rows c = pre ++ u :: post ∧ ∀ v ∈ pre, done v) ∧
      ∃ e g, tk.unit? u = some e ∧ 1 ≤ k ∧ left e k g ∧ g.next = w ∧ ∀ j x, 1 ≤ j → left e j x → w ≤ x.next) ∧
    (s.nextWire c = none → ∀ u ∈ columnUnits p.rows c, done u)) ∧
  (∀ (s : State) (p : Program) (k : Nat) (g : Progress),
    (s.worksSegment p k = true ↔ s.straps.role = .head ∧ s.control.head = .headIn ∧
      (k = s.straps.station ∨ (k < s.straps.station ∧ spareOf p k = s.straps.station))) ∧
    (segmentComplete p k g = true ↔ (segmentOf p k).last < (segmentOf p k).first ∨ g.next = (segmentOf p k).last + 1)) ∧
  (∀ rows c : Nat, columnUnits rows c = (List.range rows).map fun r => (c - 1) * rows + 1 + r) ∧
  (∀ (s : State) (p : Program) (u w k : Nat) (row : WireRow), s.Shaped → s.program? = some p → s.wire.cycle = .idle →
    s.stage.state = .loaded → s.stage.indexMotion = none → s.currentWire = some (u, w, k) → wireRow? p w = some row →
    s.control.station = .run → s.control.head = .headIn →
    (s.control.holdRequest = false → s.heat.pauseRequest = false → s.control.restartWaiting = false →
      let span := isqrt ((row.x2 - row.x1) * (row.x2 - row.x1) + (row.y2 - row.y1) * (row.y2 - row.y1)).toNat
      let use := span * (profileOf p row.profile).loopFactor / 1000 + p.head.tailAllowance
      let flight (lead : Bool) : WireInFlight := ⟨u, w, k, row.bondClass, row.profile, use, false, .due, lead⟩
      (s.wire.stock < use →
        ∃ t : State, exec .wireCycleStart s = .next t ∧ t.control = { s.control with head := .headOut } ∧
          ((s.alarms.entry Source.wireEnd).level ≠ 0 → (t.alarms.entry Source.wireEnd).state ≠ .clear ∧
            t.conditionOf Source.wireEnd = true ∧ (t.alarms.entry Source.wireEnd).detail = .unitWire u w) ∧
          t = { s with control := t.control, alarms := t.alarms, line := t.line, screen := t.screen }) ∧
      (use ≤ s.wire.stock → s.wire.ballReady = true →
        exec .wireCycleStart s = .next { s with
          stage := { s.stage with working := true }
          wire := { s.wire with cycle := .toFirst, awaits := .none, inFlight := some (flight false) }
          ports := { s.ports with
            xy := .moveTo row.x1 (((unitRow p.rows u : Int) - 1) * (p.head.rowPitch : Int) + row.y1)
            z := .moveTo p.head.searchHeight } }) ∧
      (use ≤ s.wire.stock → s.wire.ballReady = false →
        exec .wireCycleStart s = .next { s with
          stage := { s.stage with working := true }
          wire := { s.wire with cycle := .flaming, awaits := .leadHead, inFlight := some (flight true) }
          ports := { s.ports with z := .moveTo p.head.safeHeight, clampClosed := true } })) ∧
    (s.control.holdRequest = true ∨ s.heat.pauseRequest = true ∨ s.control.restartWaiting = true →
      exec .wireCycleStart s = .next s)) ∧
  (∀ s : State, s.control.station ≠ .run ∨ s.control.head = .headOut ∨ s.stage.state ≠ .loaded ∨
    s.stage.indexMotion.isSome = true ∨ s.wire.cycle ≠ .idle → exec .wireCycleStart s = .next s) ∧
  (∀ s : State, s.wire.cycle = .flaming → s.wire.awaits = .leadHead →
    exec .leadFlameHeadReady s = .next { s with
      wire := { s.wire with awaits := .fire }, ports := { s.ports with fire := true } }) ∧
  (∀ (s : State) (f : WireInFlight), s.Shaped → s.wire.inFlight = some f → s.wire.cycle = .flaming →
    s.wire.awaits = .fire →
    (f.lead = true → s.wireMayStart = true →
      ∃ t : State, exec (.flameOffEnd true) s = .next t ∧
        t.wire = { s.wire with
          cycle := .toFirst, awaits := .none, inFlight := some { f with lead := false }, ballReady := true } ∧
        t.ports.fire = false ∧ t = { s with wire := t.wire, ports := t.ports }) ∧
    (f.lead = false ∨ s.wireMayStart = false →
      exec (.flameOffEnd true) s = .next { s with
        wire := { s.wire with cycle := .idle, awaits := .none, inFlight := none, ballReady := true }
        ports := { s.ports with fire := false } }) ∧
    (∃ t : State, exec (.flameOffEnd false) s = .next t ∧
      t.wire = { s.wire with cycle := .idle, awaits := .none, inFlight := none, ballReady := false } ∧
      t.ports = { s.ports with fire := false } ∧ (t.alarms.entry Source.flameFail).state = .active ∧
      (t.alarms.entry Source.flameFail).detail = .unitWire f.unit f.wire ∧
      t.control = { s.control with holdRequest := true } ∧ t.stage = s.stage ∧ t.energy = s.energy))

/-- R70 to R75, R79, R86: the searches. In position over the first bond the sequencer searches with the first side's impact force.
Contact begins the bond with its class, side and contact Z, no sample taken, and the side's bond force held; that the bond's sink reads
0 before its first sample is the model's choice (log entry 81). The first search's limit is a missing die, which rejects an OPEN unit
NO_SURFACE, keeps the ball and takes no debit; the second's raises SEARCH_FAIL_2, rejects an OPEN unit NO_SURFACE and begins a cut. A
cut's end debits the use that is DUE and returns the cycle to IDLE. -/
def Obligations.SearchesFindBothBonds : Prop :=
  (∀ (s : State) (f : WireInFlight), s.wire.inFlight = some f → s.wire.cycle = .toFirst →
    exec .toFirstInPosition s = .next { s with
      wire := { s.wire with cycle := .searchFirst, awaits := .none }
      ports := { s.ports with z := .search (s.bondSet f.bondClass .first).impactForce (s.head (·.searchDistance)) } }) ∧
  (∀ (s : State) (f : WireInFlight) (x : Int), s.wire.inFlight = some f → s.wire.awaits = .none →
    (s.wire.cycle = .searchFirst →
      ∃ t b, exec (.searchFirstContact x) s = .next t ∧
        t.wire = { s.wire with cycle := .bondFirst, inFlight := some { f with bondEntered := true } } ∧
        t.energy = { s.energy with bond := some b } ∧ b.bondClass = f.bondClass ∧ b.side = .first ∧ b.contactZ = x ∧
        b.samples = 0 ∧ b.sink = 0 ∧
        t.ports = { s.ports with bondForce := some (s.bondSet f.bondClass .first).bondForce } ∧
        t = { s with wire := t.wire, energy := t.energy, ports := t.ports }) ∧
    (s.wire.cycle = .searchSecond →
      ∃ t b, exec (.searchSecondContact x) s = .next t ∧ t.wire = { s.wire with cycle := .bondSecond } ∧
        t.energy = { s.energy with bond := some b } ∧ b.bondClass = f.bondClass ∧ b.side = .second ∧ b.contactZ = x ∧
        b.samples = 0 ∧ b.sink = 0 ∧
        t.ports = { s.ports with bondForce := some (s.bondSet f.bondClass .second).bondForce } ∧
        t = { s with wire := t.wire, energy := t.energy, ports := t.ports })) ∧
  (∀ (s : State) (f : WireInFlight), s.Shaped → s.wire.inFlight = some f → s.wire.awaits = .none →
    s.stage.state = .loaded → ∀ e, s.unit? f.unit = some e →
    let rejected := { e with status := if e.status = .isOpen then .reject .noSurface else e.status }
    let count := if e.status = .isOpen then bump 99999999 s.wire.unitsRejected else s.wire.unitsRejected
    (s.wire.cycle = .searchFirst →
      ∃ t : State, exec .searchFirstLimit s = .next t ∧ t.unit? f.unit = some rejected ∧
        t.wire = { s.wire with awaits := .missingDieReturn, unitsRejected := count } ∧
        t.ports = { s.ports with z := .moveTo (s.head (·.searchHeight)) } ∧ t.control = s.control ∧
        t.energy = s.energy ∧
        ((s.alarms.entry Source.missingDie).level ≠ 0 → (t.alarms.entry Source.missingDie).state = .active ∧
          (t.alarms.entry Source.missingDie).detail = .unitWire f.unit f.wire)) ∧
    (s.wire.cycle = .searchSecond →
      ∃ t : State, exec .searchSecondLimit s = .next t ∧ t.unit? f.unit = some rejected ∧
        t.wire = { s.wire with awaits := .cut, ballReady := false, unitsRejected := count } ∧
        t.ports = { s.ports with z := .moveTo (s.head (·.safeHeight)), clampClosed := true } ∧
        t.control = { s.control with holdRequest := true } ∧ t.energy = s.energy ∧
        (t.alarms.entry Source.searchFail2).state = .active ∧
        (t.alarms.entry Source.searchFail2).detail = .unitWire f.unit f.wire)) ∧
  (∀ s : State, s.wire.cycle = .searchFirst → s.wire.awaits = .missingDieReturn →
    exec .missingDieReturnEnd s = .next { s with
      wire := { s.wire with cycle := .idle, awaits := .none, inFlight := none } }) ∧
  (∀ (s : State) (f : WireInFlight), s.Shaped → s.wire.inFlight = some f → s.wire.awaits = .cut →
    s.wire.cycle = .looping ∨ s.wire.cycle = .searchSecond →
    ∃ t : State, exec .cutEnd s = .next t ∧
      t.wire = { s.wire with
        cycle := .idle
        awaits := .none
        inFlight := none
        stock := if f.debit = .due then s.wire.stock - f.use else s.wire.stock } ∧ t.stage = s.stage ∧
      (f.debit = .due → s.wire.stock - f.use < s.head (·.lowStock) → (s.alarms.entry Source.wireLow).level ≠ 0 →
        t.conditionOf Source.wireLow = true))

/-- R4, R5, R7, R73, R76, R78, R79: the loop and the tail. A lift with continuity is followed by the loop motion; without it
NON_STICK_1 is raised, an OPEN unit rejected, and the wire cut. The tail is torn in either case, after NON_STICK_2 where the stitch
did not hold. At TAILING's end the use that is DUE is debited; a unit still OPEN then takes the completion, with R7's attribution,
and is DONE when every segment it carries is complete; one no longer OPEN keeps its progress. FLAMING follows. -/
def Obligations.LoopAndTailCompleteWire : Prop :=
  (∀ (s : State) (f : WireInFlight) (e : UnitEntry), s.Shaped → s.wire.inFlight = some f → s.stage.state = .loaded →
    s.unit? f.unit = some e →
    let rejected (c : RejectCause) := { e with status := if e.status = .isOpen then .reject c else e.status }
    let count := if e.status = .isOpen then bump 99999999 s.wire.unitsRejected else s.wire.unitsRejected
    (s.wire.cycle = .looping → s.wire.awaits = .lift →
      (∃ t : State, exec (.loopLiftInPosition true) s = .next t ∧ t.wire = { s.wire with awaits := .loopMotion } ∧
        t.ports.z = .moveTo (s.head (·.searchHeight)) ∧ t = { s with wire := t.wire, ports := t.ports }) ∧
      (∃ t : State, exec (.loopLiftInPosition false) s = .next t ∧ t.unit? f.unit = some (rejected .nonStick1) ∧
        t.wire = { s.wire with awaits := .cut, ballReady := false, unitsRejected := count } ∧
        t.ports = { s.ports with z := .moveTo (s.head (·.safeHeight)), clampClosed := true } ∧
        t.control = { s.control with holdRequest := true } ∧ (t.alarms.entry Source.nonStick1).state = .active ∧
        (t.alarms.entry Source.nonStick1).detail = .unitWire f.unit f.wire)) ∧
    (s.wire.cycle = .looping → s.wire.awaits = .loopMotion →
      exec .loopMotionInPosition s = .next { s with
        wire := { s.wire with cycle := .searchSecond, awaits := .none }
        ports := { s.ports with
          z := .search (s.bondSet f.bondClass .second).impactForce (s.head (·.searchDistance)) } }) ∧
    (s.wire.cycle = .tailing → s.wire.awaits = .tailRise →
      (∃ t : State, exec (.tailRiseInPosition true) s = .next t ∧ t.wire = { s.wire with awaits := .tear } ∧
        t.ports = { s.ports with z := .moveTo (s.head (·.safeHeight)), clampClosed := true } ∧
        t = { s with wire := t.wire, ports := t.ports }) ∧
      (∃ t : State, exec (.tailRiseInPosition false) s = .next t ∧ t.unit? f.unit = some (rejected .nonStick2) ∧
        t.wire = { s.wire with awaits := .tear, unitsRejected := count } ∧
        t.ports = { s.ports with z := .moveTo (s.head (·.safeHeight)), clampClosed := true } ∧
        t.control = { s.control with holdRequest := true } ∧ (t.alarms.entry Source.nonStick2).state = .active ∧
        (t.alarms.entry Source.nonStick2).detail = .unitWire f.unit f.wire))) ∧
  (∀ (s : State) (f : WireInFlight) (p : Program) (e : UnitEntry) (g : Progress), s.Shaped → s.wire.inFlight = some f →
    s.program? = some p → s.stage.state = .loaded → s.unit? f.unit = some e → 1 ≤ f.segment →
    e.progress[f.segment - 1]? = some g → s.wire.cycle = .tailing → s.wire.awaits = .tear →
    let k := s.straps.station
    let first := (segmentOf p f.segment).first
    let g1 : Progress :=
      if g.startedBy = 0 then ⟨g.next + 1, k, k, first⟩
      else if k ≠ g.startedBy ∧ g.finishedBy = g.startedBy then ⟨g.next + 1, g.startedBy, k, f.wire⟩
      else ⟨g.next + 1, g.startedBy, g.finishedBy, g.split⟩
    let all := ∀ j x, (e.progress.set (f.segment - 1) g1)[j]? = some x →
      (segmentOf p (j + 1)).last < (segmentOf p (j + 1)).first ∨ x.next = (segmentOf p (j + 1)).last + 1
    ∃ t : State, exec .tailingEnd s = .next t ∧ t.wire.cycle = .flaming ∧ t.wire.awaits = .fire ∧
      t.ports = { s.ports with fire := true } ∧
      t.wire.stock = (if f.debit = .due then s.wire.stock - f.use else s.wire.stock) ∧
      t.wire.ballReady = s.wire.ballReady ∧ t.energy = s.energy ∧
      (e.status = .isOpen → t.wire.wiresBonded = bump 99999999 s.wire.wiresBonded ∧
        (all → t.unit? f.unit = some { e with status := .done, progress := e.progress.set (f.segment - 1) g1 } ∧
          t.wire.unitsDone = bump 99999999 s.wire.unitsDone) ∧
        (¬all → t.unit? f.unit = some { e with progress := e.progress.set (f.segment - 1) g1 } ∧
          t.wire.unitsDone = s.wire.unitsDone)) ∧
      (e.status ≠ .isOpen → t.stage = s.stage ∧ t.wire.wiresBonded = s.wire.wiresBonded ∧
        t.wire.unitsDone = s.wire.unitsDone))

/-! ## The record's readings (R8, R9) -/

/-- R8: the bonded-by station of a wire, read from the progress entry of its segment: started-by below the split, finished-by from
it, 0 from the next wire on. A pull cycle takes the reading of its wire with it, never one of 0, and its result carries it. -/
def Obligations.BondedByIsRead : Prop :=
  (∀ (g : Progress) (w : Nat),
    (w < g.next → w < g.split → readBonder g w = g.startedBy) ∧
    (w < g.next → g.split ≤ w → readBonder g w = g.finishedBy) ∧
    (g.next ≤ w → readBonder g w = 0)) ∧
  (∀ (p : Program) (e : UnitEntry) (k w : Nat) (g : Progress), e.progress[k]? = some g →
    (segmentOf p (k + 1)).first ≤ w → w ≤ (segmentOf p (k + 1)).last →
    (∀ j, j < k → ¬((segmentOf p (j + 1)).first ≤ w ∧ w ≤ (segmentOf p (j + 1)).last)) →
    bondedBy p e w = readBonder g w) ∧
  (∀ (s t : State) (f : PullInFlight), exec .pullCycleStart s = .next t → s.pull.cycle = .idle →
    t.pull.cycle ≠ .idle → t.pull.inFlight = some f →
    ∃ p e, s.program? = some p ∧ s.unit? f.unit = some e ∧ f.bondedBy = bondedBy p e f.wire ∧ f.bondedBy ≠ 0) ∧
  (∀ (r : StripRecord) (f : PullInFlight) (o : PullOutcome) (b : BreakCode), (resultOf r f o b).bondedBy = f.bondedBy)

/-- R9: the mark a pull's outcome other than NO_HOOK makes on its unit, whatever the unit's status: one more pull, to 15, and the
worse of the worst outcome so far and the new one, in the order HELD, PASS, LOW, LIFT_2, LIFT_1, FAIL_ND; the status change of the
same result comes after it. NO_HOOK marks nothing. -/
def Obligations.PullMarksItsUnit : Prop :=
  (∀ (s : State) (u : Nat) (o : PullOutcome) (e : UnitEntry), s.stage.state = .loaded ∨ s.stage.state = .finished →
    s.unit? u = some e → o ≠ .noHook →
    ∃ w, (s.pullMark u o).unit? u = some { e with
        pulls := if e.pulls < 15 then e.pulls + 1 else e.pulls, worst := some w } ∧
      (e.worst = none → w = o) ∧
      (∀ x, e.worst = some x → (w = x ∨ w = o) ∧
        ∀ l : List PullOutcome, l = [.held, .pass, .low, .lift2, .lift1, .failNd] → x ∈ l →
          l.idxOf x ≤ l.idxOf w ∧ l.idxOf o ≤ l.idxOf w)) ∧
  (∀ (s : State) (x : PullResult), x.outcome ≠ .noHook →
    s.markUnit x = (match rejectOf x.outcome with
      | some cause => (s.pullMark x.unit x.outcome).requestPullReject x.unit cause
      | none => s.pullMark x.unit x.outcome)) ∧
  (∀ (s : State) (x : PullResult), x.outcome = .noHook → s.markUnit x = s)

/-! ## The pull cycle -/

/-- R116 to R122, R127: a pull begins on the next pull of the column worked, or in FINISHED on an audit of mode WAIT, in RUN without a
hold, pause, restart or result waiting, at a PULL station, and never on a unit that is neither OPEN nor DONE nor on a pair already pulled.
Its moves follow: over the wire, down to the hook level, the lift at hook engagement, and IDLE at the release's end. The audit that waits
for its column asks for an index motion; the spacing timer's expiry lets the next audit come. The next pull of a column is the first open
pull of the first unit, in row order, that has one: its suspects in list order, then the confirm, the plan's pulls in plan order, and in
mode EVERY the audit candidate, found from the cursor; in mode WAIT the first unit in unit order with a candidate is audited (log entry
42). A FINISHED stage waits away from the OUTFEED while its permit is clear, at the OUTFEED while it lacks any condition of unloading
(R143, log entry 58). A pull or an index motion whose conditions do not hold does not begin (log entry 1). -/
def Obligations.PullCycleMovesThroughPhases : Prop :=
  (∀ (s : State) (p : Program) (c : PullChoice) (e : UnitEntry), s.straps.role = .pull → s.pull.cycle = .idle →
    s.program? = some p → s.pullChoice = some c → s.unit? c.unit = some e → s.control.station = .run →
    s.stage.indexMotion = none →
    (s.control.holdRequest = false → s.heat.pauseRequest = false → s.control.restartWaiting = false →
      s.resultWaiting = false →
      ∃ t : State, exec .pullCycleStart s = .next t ∧
        t.pull = { s.pull with
          cycle := .toWire
          inFlight := some ⟨c.unit, c.wire, wireClass p c.wire, bondedBy p e c.wire, c.kind, c.mode, none, 0, 0, false⟩ } ∧
        t.ports.z = .moveTo (s.loopHeightOf c.wire + p.pull.hookClearance) ∧
        (∀ row, wireRow? p c.wire = some row →
          t.ports.xy = .moveTo ((row.x1 + row.x2) / 2)
            (((unitRow p.rows c.unit : Int) - 1) * (p.head.rowPitch : Int) + (row.y1 + row.y2) / 2)) ∧
        t.stage = { s.stage with working := t.stage.working } ∧
        t = { s with stage := t.stage, pull := t.pull, ports := t.ports }) ∧
    (s.control.holdRequest = true ∨ s.heat.pauseRequest = true ∨ s.control.restartWaiting = true ∨
        s.resultWaiting = true → exec .pullCycleStart s = .next s)) ∧
  (∀ (s : State) (c : PullChoice) (e : UnitEntry), s.pullChoice = some c → s.unit? c.unit = some e →
    (e.status = .isOpen ∨ e.status = .done) ∧ s.pull.pairs.contains (c.unit, c.wire) = false) ∧
  (∀ s : State, s.straps.role = .head ∨ s.control.station ≠ .run → exec .pullCycleStart s = .next s) ∧
  (∀ (s : State) (f : PullInFlight), s.pull.inFlight = some f →
    (s.pull.cycle = .toWire →
      exec .toWireInPosition s = .next { s with
        pull := { s.pull with cycle := .hooking }
        ports := { s.ports with z := .moveTo (s.hookLevel f.wire) } }) ∧
    (s.pull.cycle = .hooking →
      exec .hookEngagement s = .next { s with
        pull := { s.pull with cycle := .lifting, inFlight := some { f with tare := none } }
        ports := { s.ports with z := .liftTo (s.setting (·.pull.liftTravel) 0) } }) ∧
    (s.pull.cycle = .releasing →
      exec .releaseEnd s = .next { s with pull := { s.pull with cycle := .idle, inFlight := none } })) ∧
  (∀ (s : State) (c : PullChoice), s.waitAudit = some c → s.straps.role = .pull → s.control.station = .run →
    s.stage.indexMotion = none → s.pull.cycle = .idle →
    (unitColumn s.rows c.unit ≠ s.stage.column →
      exec .auditWaitChoose s = .next { s with
        stage := { s.stage with indexMotion := some (unitColumn s.rows c.unit), working := false }
        ports := { s.ports with index := .goTo (unitColumn s.rows c.unit) } }) ∧
    (unitColumn s.rows c.unit = s.stage.column → exec .auditWaitChoose s = .next s)) ∧
  (∀ s : State, s.stage.state = .finished →
    (s.straps.outfeed = false → (s.stageWaits = true ↔ s.stage.permit = false)) ∧
    (s.straps.outfeed = true → (s.stageWaits = false ↔
      (s.control.station = .run ∨ s.control.station = .paused) ∧ s.outputSlot?.isSome = true ∧ 0 < s.report.free ∧
        s.stage.indexMotion = none ∧ s.pull.cycle = .idle ∧ s.resultWaiting = false))) ∧
  (∀ s : State, exec .auditSpacingExpiry s = .next { s with pull := { s.pull with spacing := .expired } }) ∧
  (∀ (s : State) (c : PullChoice), s.pullChoice = some c →
    (s.stage.state = .loaded → s.workColumn = some s.stage.column ∧ s.nextPull s.stage.column = some c) ∧
    (s.stage.state = .finished → s.waitAudit = some c ∧ unitColumn s.rows c.unit = s.stage.column) ∧
    (s.stage.state = .loaded ∨ s.stage.state = .finished)) ∧
  (∀ (s : State) (p : Program) (r : StripRecord) (tk : TrackedPart) (col : Nat), s.program? = some p →
    s.stage.record = some r → r.tracked = some tk →
    (∀ c, s.nextPull col = some c → ∃ pre post, columnUnits p.rows col = pre ++ c.unit :: post ∧
      s.pullOnUnit p r tk c.unit = some c ∧ ∀ v ∈ pre, s.pullOnUnit p r tk v = none) ∧
    (s.nextPull col = none → ∀ v ∈ columnUnits p.rows col, s.pullOnUnit p r tk v = none)) ∧
  (∀ (s : State) (p : Program) (r : StripRecord) (tk : TrackedPart) (u : Nat) (e : UnitEntry), tk.unit? u = some e →
    1 ≤ s.pull.cursor → s.pull.cursor ≤ p.wires.length →
    let isOpen (w : Nat) : Prop := (u, w) ∉ s.pull.pairs ∧ bondedBy p e w ≠ 0
    let plan := p.plan.take p.planCount
    let onPlan (x : PlanEntry) : Prop := x.unit = u ∧ x.mode ≠ none ∧ isOpen x.wire
    let confirms (f : PendingConfirm) : Prop := s.pull.pending = some f ∧ s.pull.confirmTried = false ∧
      f.origin ≠ r.lineSeq ∧ bondedBy p e f.wire = f.bondedBy ∧ isOpen f.wire
    let audits : Prop := p.pull.auditMode = .every ∧ e.status = .done ∧ s.pull.auditCount < p.pull.auditMax ∧
      s.pull.spacing = .expired
    let fromCursor (j : Nat) : Nat := (s.pull.cursor - 1 + j) % p.wires.length + 1
    let noSuspect : Prop := ∀ x ∈ tk.suspects, x.unit = u → ¬isOpen x.wire
    let noPlan : Prop := r.sample = true → s.pull.planOn = true → ∀ x ∈ plan, ¬onPlan x
    (∀ c, s.pullOnUnit p r tk u = some c → c.unit = u ∧ (e.status = .isOpen ∨ e.status = .done) ∧
      (c.kind = .suspect → c.mode = .nondestruct ∧ ∃ pre x post, tk.suspects = pre ++ x :: post ∧ x.unit = u ∧
        x.wire = c.wire ∧ isOpen x.wire ∧ ∀ y ∈ pre, y.unit = u → ¬isOpen y.wire) ∧
      (c.kind = .confirm → c.mode = .destruct ∧ noSuspect ∧ ∃ f, confirms f ∧ f.wire = c.wire) ∧
      (c.kind = .plan → noSuspect ∧ (∀ f, ¬confirms f) ∧ r.sample = true ∧ s.pull.planOn = true ∧
        ∃ pre x post, plan = pre ++ x :: post ∧ onPlan x ∧ x.wire = c.wire ∧ x.mode = some c.mode ∧
          ∀ y ∈ pre, ¬onPlan y) ∧
      (c.kind = .audit → c.mode = .destruct ∧ noSuspect ∧ (∀ f, ¬confirms f) ∧ noPlan ∧ audits ∧
        ∃ j, j < p.wires.length ∧ c.wire = fromCursor j ∧ isOpen c.wire ∧ ∀ i, i < j → ¬isOpen (fromCursor i))) ∧
    (s.pullOnUnit p r tk u = none → e.status = .isOpen ∨ e.status = .done →
      noSuspect ∧ (∀ f, ¬confirms f) ∧ noPlan ∧ (audits → ∀ j, j < p.wires.length → ¬isOpen (fromCursor j)))) ∧
  (∀ (s : State) (p : Program) (tk : TrackedPart), s.program? = some p → s.tracked? = some tk → 1 ≤ s.pull.cursor →
    s.pull.cursor ≤ p.wires.length →
    let isOpen (u : Nat) (e : UnitEntry) (w : Nat) : Prop := (u, w) ∉ s.pull.pairs ∧ bondedBy p e w ≠ 0
    let fromCursor (j : Nat) : Nat := (s.pull.cursor - 1 + j) % p.wires.length + 1
    (∀ c, s.waitAudit = some c →
      p.pull.auditMode = .wait ∧ s.stageWaits = true ∧ c.kind = .audit ∧ c.mode = .destruct ∧
        s.pull.auditCount < p.pull.auditMax ∧ s.pull.spacing = .expired ∧
        (∃ e j, tk.unit? c.unit = some e ∧ e.status = .done ∧ j < p.wires.length ∧ c.wire = fromCursor j ∧
          isOpen c.unit e c.wire ∧ ∀ i, i < j → ¬isOpen c.unit e (fromCursor i)) ∧
        ∀ v e, v < c.unit → tk.unit? v = some e → e.status = .done →
          ∀ j, j < p.wires.length → ¬isOpen v e (fromCursor j)) ∧
    (s.waitAudit = none → p.pull.auditMode = .wait → s.stageWaits = true → s.pull.auditCount < p.pull.auditMax →
      s.pull.spacing = .expired → ∀ v e, tk.unit? v = some e → e.status = .done →
        ∀ j, j < p.wires.length → ¬isOpen v e (fromCursor j)))

/-- R118, R123 to R127, R129 to R133: forces and outcomes. The first sample after engagement is the tare; each later one gives its
force, peak and overrange mark; a break, at a force under a quarter of a peak of at least 50 cgf, decides the pull first, and the test
force turns a nondestructive lift into HOLDING. The hold timer, the travel limit and the break give R124's and R125's outcomes, each
with its break code, and at each of the three the result is logged, as a failure too where it is one, marks its pair and its unit,
moves the hook-miss count and the confirm slot, with HOOK_MISS and CONFIRM_FAIL, sets the confirm-tried flag where it is a confirm's,
and enters RELEASING with the hook lowered clear of the wire. Its PULL_RESULT frame to every station joins the queue, and at the
OUTFEED station the own report unit takes the result then; with eight frames of classes 5 and 6 queued, or others waiting, it waits. -/
def Obligations.PullOutcomesAreDecided : Prop :=
  (∀ (s : State) (f : PullInFlight) (raw : Nat) (loc : LocatorCode), s.pull.inFlight = some f →
    s.pull.cycle = .lifting ∨ s.pull.cycle = .holding →
    (f.tare = none →
      exec (.loadCellSample raw loc) s = .next { s with pull := { s.pull with
        inFlight := some { f with tare := some raw } } }) ∧
    (∀ tare, f.tare = some tare →
      let exact := Int.tdiv (((raw : Int) - tare) * s.setting (·.pull.gain) 0) 4096
      let force := if exact < 0 then 0 else if 60000 < exact then 60000 else exact.toNat
      let f1 := { f with
        force := force, peak := max f.peak force, overrange := f.overrange || decide (60000 < exact) }
      let broken := 50 ≤ f1.peak ∧ force < f1.peak / 4
      (¬broken → f.mode = .nondestruct → s.pull.cycle = .lifting → s.pullTestOf f.bondClass ≤ force →
        exec (.loadCellSample raw loc) s = .next { s with
          pull := { s.pull with
            inFlight := some f1, cycle := .holding, holdTimer := .running (s.setting (·.pull.holdTime) 0) }
          ports := { s.ports with z := .holdPosition } }) ∧
      (¬broken → f.mode = .destruct ∨ s.pull.cycle = .holding ∨ force < s.pullTestOf f.bondClass →
        exec (.loadCellSample raw loc) s = .next { s with pull := { s.pull with inFlight := some f1 } }) ∧
      (broken → ∀ r, s.stage.record = some r →
        ∃ t x, exec (.loadCellSample raw loc) s = .next t ∧ t.pull.cycle = .releasing ∧ t.pull.log.getLast? = some x ∧
          x.breakCode = (match loc with
            | .neck => .neck | .span => .span | .heel => .heel | .ballLift => .ballLift | .stitchLift => .stitchLift
            | .other => .unknown) ∧
          x.force = f1.peak ∧ x.overrange = f1.overrange ∧
          (f.mode = .nondestruct → x.outcome = .failNd) ∧
          (f.mode = .destruct → x.outcome = (if loc = .ballLift then .lift1 else if loc = .stitchLift then .lift2
            else if s.pullMinOf f.bondClass ≤ f1.peak then .pass else .low))))) ∧
  (∀ (s : State) (f : PullInFlight) (r : StripRecord), s.Shaped → s.pull.inFlight = some f → s.stage.record = some r →
    let limit : PullOutcome := if f.peak < 50 then .noHook
      else match f.mode with
        | .nondestruct => .failNd
        | .destruct => if s.pullMinOf f.bondClass ≤ f.peak then .pass else .low
    let sampled (tare raw : Nat) : PullInFlight :=
      let exact := Int.tdiv (((raw : Int) - tare) * s.setting (·.pull.gain) 0) 4096
      let force := if exact < 0 then 0 else if 60000 < exact then 60000 else exact.toNat
      { f with force := force, peak := max f.peak force, overrange := f.overrange || decide (60000 < exact) }
    let codeOf (l : LocatorCode) : BreakCode := match l with
      | .neck => .neck | .span => .span | .heel => .heel | .ballLift => .ballLift | .stitchLift => .stitchLift
      | .other => .unknown
    let atBreak (g : PullInFlight) (l : LocatorCode) : PullOutcome := match f.mode with
      | .nondestruct => .failNd
      | .destruct => if l = .ballLift then .lift1 else if l = .stitchLift then .lift2
        else if s.pullMinOf f.bondClass ≤ g.peak then .pass else .low
    ∀ c o b g, (c = .holdTimerExpiry ∧ s.pull.cycle = .holding ∧ o = .held ∧ b = .noBreak ∧ g = f) ∨
        (c = .liftTravelLimit ∧ s.pull.cycle = .lifting ∧ o = limit ∧ b = .noBreak ∧ g = f) ∨
        (∃ raw loc tare, c = .loadCellSample raw loc ∧ (s.pull.cycle = .lifting ∨ s.pull.cycle = .holding) ∧
          f.tare = some tare ∧ g = sampled tare raw ∧ 50 ≤ g.peak ∧ g.force < g.peak / 4 ∧ o = atBreak g loc ∧
          b = codeOf loc) →
      let bad := o = .low ∨ o = .lift1 ∨ o = .lift2
      let x : PullResult := ⟨r.serial, r.lineSeq, f.unit, f.wire, f.bondClass, f.bondedBy, f.kind, f.mode, o, b,
        g.peak, g.overrange, decide (f.kind = .confirm ∧ bad)⟩
      ∃ t : State, exec c s = .next t ∧ t.pull.cycle = .releasing ∧ t.pull.inFlight = some g ∧
        t.ports = { s.ports with
          xy := .hookClear (s.setting (·.pull.hookClearance) 0)
          z := .unhook (s.hookLevel f.wire) (s.head (·.safeHeight)) } ∧
        t.pull.pairs = s.pull.pairs ++ [(f.unit, f.wire)] ∧
        t.pull.log = (if s.pull.log.length < 64 then s.pull.log ++ [x] else s.pull.log.drop 1 ++ [x]) ∧
        t.pull.failures = (if (bad ∨ o = .failNd) ∧ s.pull.failures.length < 8 then s.pull.failures ++ [x]
          else s.pull.failures) ∧
        t.pull.discards = (if (bad ∨ o = .failNd) ∧ 8 ≤ s.pull.failures.length then bump 255 s.pull.discards
          else s.pull.discards) ∧
        t.pull.hookMiss = (if o = .noHook then (if s.pull.hookMiss < 2 then s.pull.hookMiss + 1 else 0) else 0) ∧
        (o = .noHook → 2 ≤ s.pull.hookMiss → (t.alarms.entry Source.hookMiss).state = .active ∧
          (t.alarms.entry Source.hookMiss).detail = .unitWire f.unit f.wire) ∧
        t.pull.pending = (
          if f.kind = .confirm then (if o = .pass ∨ bad then none else s.pull.pending)
          else if (f.kind = .plan ∨ f.kind = .audit) ∧ f.mode = .destruct ∧ bad ∧ s.pull.pending = none then
            some ⟨f.wire, f.bondedBy, r.lineSeq⟩
          else s.pull.pending) ∧
        t.pull.confirmTried = (s.pull.confirmTried || decide (f.kind = .confirm)) ∧
        (s.line.queue.length < 14 → s.line.bulkCount < 8 → s.line.waiting = [] →
          ⟨0, .pullResult x, none, false⟩ ∈ t.line.queue ∧ t.line.waiting = [] ∧
          (s.straps.outfeed = true → s.control.station ≠ .boot → r.lineSeq ≠ 0 → s.report.table = [] →
            t.report = { s.report with table := [⟨r.lineSeq, [x], 0⟩] })) ∧
        (8 ≤ s.line.bulkCount ∨ s.line.waiting ≠ [] →
          t.line.waiting = s.line.waiting ++ [⟨0, .pullResult x, none, false⟩] ∧ t.report = s.report) ∧
        (s.straps.outfeed = false → t.report = s.report) ∧
        (f.kind = .confirm → bad → (t.alarms.entry Source.confirmFail).state = .active ∧
          (t.alarms.entry Source.confirmFail).detail = .unitWire f.unit f.wire ∧ t.control.holdRequest = true) ∧
        (f.kind = .audit → t.pull.auditCount = s.pull.auditCount + 1 ∧
          t.pull.cursor = (if f.wire < s.setting (·.wires.length) 0 then f.wire + 1 else 1) ∧
          t.pull.spacing = .running (s.setting (·.pull.auditSpacing) 0)) ∧
        (∀ e, s.unit? f.unit = some e → s.stage.state = .loaded ∨ s.stage.state = .finished →
          (o = .noHook → t.unit? f.unit = some e) ∧
          (o ≠ .noHook → ∃ y, t.unit? f.unit = some y ∧ y.pulls = (if e.pulls < 15 then e.pulls + 1 else e.pulls) ∧
            y.progress = e.progress ∧
            y.status = (if e.status = .isOpen ∨ e.status = .done then
              (if o = .held then e.status else if o = .pass then .reject .pullSacrifice else .reject .pullFail)
              else e.status))))

/-! ## The record port and the screen -/

/-- R154: an idle record port sends the oldest READY report, and a report sent frees its place; each leaves all else alone. A port that is
sending, or has no report READY, takes none (log entry 1). -/
def Obligations.RecordPortSendsOldestReport : Prop :=
  ∀ s : State,
    (∀ r rest, s.report.sending = none → s.report.ready = r :: rest →
      exec .reportSendStart s = .next { s with report := { s.report with sending := some r, ready := rest } }) ∧
    (s.report.sending.isSome = true ∨ s.report.ready = [] → exec .reportSendStart s = .next s) ∧
    exec .reportSendEnd s = .next { s with report := { s.report with sending := none } }

/-- R158 to R166: PAGE turns to the next page, clears rows 1 to 7 and raises PAGE_ENTER, but not in BOOT or under a banner; the tick
raises TICK on the current page's enabled triggers; with no banner shown a walk serves the lowest pending trigger, clears its pending
mark and changes the screen alone. Its chain, to the first descriptor without the chain flag or to descriptor 63, makes one transfer a
descriptor, in one step (log entry 40): the item as it stands, formatted, is written into the row, and the working values move. A ONCE
descriptor at count 0 makes none; the first descriptor of the trigger served, at its last count, disables that trigger. Each format
fills its field exactly; a negative number in TEXT has a minus sign, which is the model's choice (log entry 52). Indexed items are
absent out of their ranges and where the entry has no value; the texts PRESENT and ABSENT are the model's choice (log entry 26), and
so is a unit map row in TEXT (log entry 77). -/
def Obligations.ScreenServesTriggers : Prop :=
  (∀ s : State,
    (s.control.station ≠ .boot → s.bannerShown = false →
      let page := if s.screen.page < s.screen.pageCount then s.screen.page + 1 else 1
      exec .pageKey s = .next { s with screen := { s.screen with
        page := page
        buffer := s.screen.buffer.take 1 ++ List.replicate 7 blankRow
        triggers := s.screen.triggers.map (Trigger.raised .pageEnter page) } }) ∧
    (s.control.station = .boot ∨ s.bannerShown = true → exec .pageKey s = .next s) ∧
    exec .tick s = .next { s with screen := { s.screen with triggers := s.screen.triggers.map fun g =>
      if g.row.kind = .tick ∧ g.enabled = true ∧ (g.row.page = 0 ∨ g.row.page = s.screen.page) then
        { g with pending := true } else g } }) ∧
  (∀ s : State, s.bannerShown = true ∨ (∀ g ∈ s.screen.triggers, g.pending = false) →
    exec .fieldEngineWalk s = .next s) ∧
  (∀ (s : State) (pre post : List Trigger) (g : Trigger), s.bannerShown = false →
    s.screen.triggers = pre ++ g :: post → g.pending = true → (∀ x ∈ pre, x.pending = false) →
    ∃ t : State, exec .fieldEngineWalk s = .next t ∧ t = { s with screen := t.screen } ∧ t.screen.page = s.screen.page ∧
      t.screen.notice = s.screen.notice ∧ t.screen.triggers.map (·.row) = s.screen.triggers.map (·.row) ∧
      (∃ x, t.screen.triggers[pre.length]? = some x ∧ x.pending = false) ∧
      (∀ pre2 d ds post2, s.screen.descriptors = pre2 ++ d :: ds ++ post2 → pre2.length = g.row.first →
        pre2.length + ds.length ≤ 63 → (∀ x ∈ (d :: ds).dropLast, x.row.chain = true) →
        (pre2.length + ds.length = 63 ∨ ∀ x, (d :: ds).getLast? = some x → x.row.chain = false) →
        let write (b : List Text) (x : Descriptor) : List Text :=
          if x.row.isRepeat = false ∧ x.count = 0 then b
          else modifyAt (overlay x.row.column (formatValue x.row.format x.row.width (s.item x.row.item x.index))) x.currentRow b
        let moved (x : Descriptor) : Descriptor :=
          if x.row.isRepeat = false ∧ x.count = 0 then x
          else if x.row.isRepeat = true ∧ x.count ≤ 1 then
            { x with index := x.row.initIndex, currentRow := x.row.initRow, count := x.row.reload }
          else { x with
            index := x.index + x.row.indexStep, currentRow := x.currentRow + x.row.rowStep, count := x.count - 1 }
        t.screen.buffer = (d :: ds).foldl write s.screen.buffer ∧
          t.screen.descriptors = pre2 ++ (d :: ds).map moved ++ post2 ∧
          t.screen.triggers = pre ++ { g with
            pending := false, enabled := g.enabled && !(!d.row.isRepeat && decide (d.count = 1)) } :: post)) ∧
  (∀ w n : Nat,
    let stars := List.replicate w '*'
    let blank := List.replicate w ' '
    let digits := Nat.toDigits 10 n
    let hex := (Nat.toDigits 16 n).map Char.toUpper
    let signed (c : Char) := if w < digits.length + 1 then stars else List.replicate (w - 1 - digits.length) ' ' ++ c :: digits
    let left (x : Text) : Text := (x ++ List.replicate w ' ').take w
    formatValue .dec w (.number n) =
      (if w < digits.length then stars else List.replicate (w - digits.length) ' ' ++ digits) ∧
    formatValue .hex w (.number n) =
      (if w < hex.length then stars else List.replicate (w - hex.length) '0' ++ hex) ∧
    formatValue .sdec w (.number n) = signed (if n = 0 then ' ' else '+') ∧
    formatValue .text w (.number n) = left digits ∧
    (0 < n → formatValue .dec w (.number (-n)) = stars ∧ formatValue .hex w (.number (-n)) = stars ∧
      formatValue .sdec w (.number (-n)) = signed '-' ∧ formatValue .text w (.number (-n)) = left ('-' :: digits)) ∧
    (∀ x : Text, formatValue .text w (.name x) = left x ∧ formatValue .text w (.glyphs x) = left x ∧
      formatValue .map w (.glyphs x) = left x) ∧
    ∀ f v, (formatValue f w v).length = w ∧
      (v = .absent ∨ (f = .map ∧ ∀ x, v ≠ .glyphs x) ∨ (f ≠ .text ∧ ∃ x, v = .name x) →
        formatValue f w v = blank)) ∧
  (∀ (s : State) (i : Nat),
    (∀ e, s.unit? i = some e → s.item .unitStatus i = .name (statusName e.status) ∧
      s.item .pullCount i = .number e.pulls ∧ ((∀ c, e.status ≠ .reject c) → s.item .rejectCause i = .absent) ∧
      (∀ c, e.status = .reject c → s.item .rejectCause i = .name (causeName c)) ∧
      (e.worst = none → s.item .worstPull i = .absent) ∧
      (∀ o, e.worst = some o → s.item .worstPull i = .name (outcomeName o)) ∧
      ∀ k, 1 ≤ k → k ≤ 8 →
        (e.progress[k - 1]? = none → s.item .nextWire (i * 8 + k - 8) = .absent) ∧
        ∀ g, e.progress[k - 1]? = some g → s.item .nextWire (i * 8 + k - 8) = .number g.next ∧
          s.item .startedBy (i * 8 + k - 8) = .number g.startedBy ∧
          s.item .finishedBy (i * 8 + k - 8) = .number g.finishedBy ∧ s.item .split (i * 8 + k - 8) = .number g.split) ∧
    (s.unit? i = none → s.item .unitStatus i = .absent ∧ s.item .rejectCause i = .absent ∧
      s.item .pullCount i = .absent ∧ s.item .worstPull i = .absent) ∧
    (s.Shaped → i < 40 → s.item .alarmState i = .name (alarmStateName (s.alarms.entry i).state) ∧
      s.item .alarmLevel i = .number (s.alarms.entry i).level ∧ s.item .alarmCount i = .number (s.alarms.entry i).count ∧
      s.item .alarmName i = .name (sourceName i)) ∧
    (i < 1 ∨ 6 < i ∨ (s.heat.zone i).reading = none → s.item .zoneReading i = .absent) ∧
    (∀ x, 1 ≤ i → i ≤ 6 → (s.heat.zone i).reading = some x → s.item .zoneReading i = .number x) ∧
    (1 ≤ i → i ≤ 8 → s.item .rosterPresence i = .name (if s.present i = true then word "PRESENT" else word "ABSENT")) ∧
    (s.present i = false ∨ i < 1 ∨ 8 < i → s.item .rosterRole i = .absent ∧ s.item .rosterStation i = .absent ∧
      s.item .rosterHead i = .absent ∧ s.item .rosterStage i = .absent ∧ s.item .rosterReady i = .absent) ∧
    (s.setting (·.magazine.inputSlots) 0 < i → s.item .inputSlot i = .absent) ∧
    (s.setting (·.magazine.outputSlots) 0 < i → s.item .outputSlot i = .absent ∧ s.item .outputGood i = .absent) ∧
    ((∀ x g r, s.elevator.outputSlots[i - 1]? ≠ some (.filled x g r)) → s.item .outputSerial i = .absent ∧
      s.item .outputGood i = .absent ∧ s.item .outputReject i = .absent) ∧
    (∀ x, s.pull.log[i]? = some x → s.item .pullLogUnit (i + 1) = .number x.unit ∧
      s.item .pullLogForce (i + 1) = .number x.force ∧ s.item .pullLogOutcome (i + 1) = .name (outcomeName x.outcome)) ∧
    (∀ x, s.pull.failures[i]? = some x → s.item .failLogUnit (i + 1) = .number x.unit ∧
      s.item .failLogForce (i + 1) = .number x.force))

/-! ## Line frames byte by byte -/

/-- R182 to R185: the bytes of a line frame, with their check, class, kind and length, give the frame back, whatever its kind and
the values of its fields in their ranges, and so do its bits in the order they are sent. Each byte is sent most significant bit first;
these are the bits of the frame that stands on the line. -/
def Obligations.FrameBytesGiveFrameBack : Prop :=
  (∀ f : Frame, frameGood f = true →
    decodeFrame (frameBytes f) = some f ∧ decodeFrame (bytesOfBits (frameBits f)) = some f) ∧
  (∀ (f : Frame) (i j : Nat) (b : Byte), (frameBytes f)[i]? = some b → j < 8 →
    (frameBits f)[8 * i + j]? = some (b.getLsbD (7 - j))) ∧
  (∀ (s : State) (e : TxEntry) (p : Payload), s.line.onLine = some e → e.onLine = some p →
    s.bitsOnLine = some (frameBits ⟨s.straps.station, e.target, p⟩))

/-! ## What every step keeps -/

/-- R24, R25: from every state in which it holds, a step keeps: outside BOOT the station is STOPPED exactly while a STOP-class
entry, local or mirrored, is ACTIVE or ACKED. -/
def Obligations.StoppedExactlyWhileStopStands : Prop :=
  ∀ s t : State, s.Shaped → s.StopInv → step s = .next t → t.Shaped ∧ t.StopInv

/-- R84, R97, R98: from every state in which it holds, a step keeps: every trim lies within -20 to +20 and every good-run count is at
most 7. -/
def Obligations.TrimsStayWithinLimits : Prop :=
  ∀ s t : State, s.TrimInv → step s = .next t → t.TrimInv

/-- R63, R84, R88: from every state in which it holds, a step keeps: a wire is in flight exactly outside IDLE, a bond exactly in the
two bond phases with a power of at most 1000, and the ultrasonic demand is at most 1000 and 0 outside those phases. -/
def Obligations.BondOnlyInBondPhases : Prop :=
  ∀ s t : State, s.BondInv → step s = .next t → t.BondInv

/-- R1, R51: from every state in which it holds, a step keeps: the stage holds a record exactly in the states that have one, and an
assembly with the OFFER answered exactly in RECEIVING. -/
def Obligations.RecordExactlyWhileStripHeld : Prop :=
  ∀ s t : State, s.RecordInv → step s = .next t → t.RecordInv

/-- R113, R132, R133, R148, R149, R153, R173, R174: from every state in which it holds, a step keeps the bounds of the transmit queue,
the pull logs and counts, the report table and the report queue, with a place reserved while a strip is being unloaded. -/
def Obligations.TablesAndQueuesStayBounded : Prop :=
  ∀ s t : State, s.BoundInv → step s = .next t → t.BoundInv

/-- R26, R63, R84, R113: from every state in which it holds, a step keeps: a PULL station holds the wire sequencer, the trims, the bond
in progress, the last bond and the FAST count at their power-on values with its head OUT, and a HEAD station the pull unit's items but for
the plan state, which is judged at every station (R115). -/
def Obligations.BlocksOfOtherRoleRest : Prop :=
  ∀ s t : State, s.RoleInv → step s = .next t → t.RoleInv

/-- R36: the six invariants hold at reset, in the tables' shape. (The straps of the reset state are the model's choice, log entry
4.) -/
def Obligations.ResetMeetsInvariants : Prop :=
  State.reset.Shaped ∧ State.reset.StopInv ∧ State.reset.TrimInv ∧ State.reset.BondInv ∧ State.reset.RecordInv ∧
    State.reset.BoundInv ∧ State.reset.RoleInv
end

