-- ==== Sys2Proof/Laws/Frames.lean ====
section
/-! SUPPORT. The frame of every shared operation: one lemma for each, naming the blocks it leaves alone, so that no later
proof unfolds it to see that. Each is a simp lemma. -/

namespace Sys2Proof.Machine

/-! ## Alarms, frames, states -/

@[simp] theorem State.event_frame (k : EventKind) (s : State) :
    (State.event k s).straps = s.straps ∧ (State.event k s).control = s.control ∧
    (State.event k s).alarms = s.alarms ∧ (State.event k s).line = s.line ∧ (State.event k s).loader = s.loader ∧
    (State.event k s).stage = s.stage ∧ (State.event k s).heat = s.heat ∧ (State.event k s).wire = s.wire ∧
    (State.event k s).energy = s.energy ∧ (State.event k s).pull = s.pull ∧
    (State.event k s).elevator = s.elevator ∧ (State.event k s).report = s.report ∧
    (State.event k s).ports = s.ports ∧ (State.event k s).pending = s.pending := by
  unfold State.event
  exact ⟨rfl, rfl, rfl, rfl, rfl, rfl, rfl, rfl, rfl, rfl, rfl, rfl, rfl, rfl⟩

@[simp] theorem State.send_frame (target : Nat) (body : TxBody) (s : State) :
    (State.send target body s).straps = s.straps ∧ (State.send target body s).control = s.control ∧
    (State.send target body s).alarms = s.alarms ∧ (State.send target body s).loader = s.loader ∧
    (State.send target body s).stage = s.stage ∧ (State.send target body s).heat = s.heat ∧
    (State.send target body s).wire = s.wire ∧ (State.send target body s).energy = s.energy ∧
    (State.send target body s).pull = s.pull ∧ (State.send target body s).elevator = s.elevator ∧
    (State.send target body s).report = s.report ∧ (State.send target body s).screen = s.screen ∧
    (State.send target body s).ports = s.ports ∧ (State.send target body s).pending = s.pending := by
  unfold State.send
  exact ⟨rfl, rfl, rfl, rfl, rfl, rfl, rfl, rfl, rfl, rfl, rfl, rfl, rfl, rfl⟩

@[simp] theorem State.announce_frame (s : State) :
    (State.announce s).straps = s.straps ∧ (State.announce s).control = s.control ∧
    (State.announce s).alarms = s.alarms ∧ (State.announce s).loader = s.loader ∧
    (State.announce s).stage = s.stage ∧ (State.announce s).heat = s.heat ∧ (State.announce s).wire = s.wire ∧
    (State.announce s).energy = s.energy ∧ (State.announce s).pull = s.pull ∧
    (State.announce s).elevator = s.elevator ∧ (State.announce s).report = s.report ∧
    (State.announce s).ports = s.ports ∧ (State.announce s).pending = s.pending := by
  unfold State.announce
  exact ⟨rfl, rfl, rfl, rfl, rfl, rfl, rfl, rfl, rfl, rfl, rfl, rfl, rfl⟩

@[simp] theorem State.putEntry_frame (i : Nat) (e : AlarmEntry) (announced : Bool) (s : State) :
    (State.putEntry i e announced s).straps = s.straps ∧ (State.putEntry i e announced s).control = s.control ∧
    (State.putEntry i e announced s).loader = s.loader ∧ (State.putEntry i e announced s).stage = s.stage ∧
    (State.putEntry i e announced s).heat = s.heat ∧ (State.putEntry i e announced s).wire = s.wire ∧
    (State.putEntry i e announced s).energy = s.energy ∧ (State.putEntry i e announced s).pull = s.pull ∧
    (State.putEntry i e announced s).elevator = s.elevator ∧ (State.putEntry i e announced s).report = s.report ∧
    (State.putEntry i e announced s).ports = s.ports ∧ (State.putEntry i e announced s).pending = s.pending := by
  unfold State.putEntry
  exact ⟨rfl, rfl, rfl, rfl, rfl, rfl, rfl, rfl, rfl, rfl, rfl, rfl⟩

@[simp] theorem State.raiseAlarm_frame (source : Nat) (d : Detail) (s : State) :
    (State.raiseAlarm source d s).straps = s.straps ∧ (State.raiseAlarm source d s).loader = s.loader ∧
    (State.raiseAlarm source d s).stage = s.stage ∧ (State.raiseAlarm source d s).heat = s.heat ∧
    (State.raiseAlarm source d s).wire = s.wire ∧ (State.raiseAlarm source d s).energy = s.energy ∧
    (State.raiseAlarm source d s).pull = s.pull ∧ (State.raiseAlarm source d s).elevator = s.elevator ∧
    (State.raiseAlarm source d s).report = s.report ∧ (State.raiseAlarm source d s).ports = s.ports ∧
    (State.raiseAlarm source d s).pending = s.pending := by
  unfold State.raiseAlarm
  (repeat' split) <;> simp

@[simp] theorem State.conditionGone_frame (source : Nat) (s : State) :
    (State.conditionGone source s).straps = s.straps ∧ (State.conditionGone source s).control = s.control ∧
    (State.conditionGone source s).loader = s.loader ∧ (State.conditionGone source s).stage = s.stage ∧
    (State.conditionGone source s).heat = s.heat ∧ (State.conditionGone source s).wire = s.wire ∧
    (State.conditionGone source s).energy = s.energy ∧ (State.conditionGone source s).pull = s.pull ∧
    (State.conditionGone source s).elevator = s.elevator ∧ (State.conditionGone source s).report = s.report ∧
    (State.conditionGone source s).ports = s.ports ∧ (State.conditionGone source s).pending = s.pending := by
  unfold State.conditionGone
  dsimp only
  (repeat' split) <;> simp

@[simp] theorem State.acknowledge_frame (source : Nat) (s : State) :
    (State.acknowledge source s).straps = s.straps ∧ (State.acknowledge source s).control = s.control ∧
    (State.acknowledge source s).loader = s.loader ∧ (State.acknowledge source s).stage = s.stage ∧
    (State.acknowledge source s).heat = s.heat ∧ (State.acknowledge source s).wire = s.wire ∧
    (State.acknowledge source s).energy = s.energy ∧ (State.acknowledge source s).pull = s.pull ∧
    (State.acknowledge source s).elevator = s.elevator ∧ (State.acknowledge source s).report = s.report ∧
    (State.acknowledge source s).ports = s.ports ∧ (State.acknowledge source s).pending = s.pending := by
  unfold State.acknowledge
  exact ⟨rfl, rfl, rfl, rfl, rfl, rfl, rfl, rfl, rfl, rfl, rfl, rfl⟩

@[simp] theorem State.mirror_frame (k : Nat) (summary : Option Summary) (s : State) :
    (State.mirror k summary s).straps = s.straps ∧ (State.mirror k summary s).control = s.control ∧
    (State.mirror k summary s).loader = s.loader ∧ (State.mirror k summary s).stage = s.stage ∧
    (State.mirror k summary s).heat = s.heat ∧ (State.mirror k summary s).wire = s.wire ∧
    (State.mirror k summary s).energy = s.energy ∧ (State.mirror k summary s).pull = s.pull ∧
    (State.mirror k summary s).elevator = s.elevator ∧ (State.mirror k summary s).report = s.report ∧
    (State.mirror k summary s).ports = s.ports ∧ (State.mirror k summary s).pending = s.pending := by
  unfold State.mirror
  (repeat' split) <;> simp

@[simp] theorem State.setStation_frame (st : StationState) (s : State) :
    (State.setStation st s).straps = s.straps ∧ (State.setStation st s).alarms = s.alarms ∧
    (State.setStation st s).loader = s.loader ∧ (State.setStation st s).stage = s.stage ∧
    (State.setStation st s).heat = s.heat ∧ (State.setStation st s).wire = s.wire ∧
    (State.setStation st s).energy = s.energy ∧ (State.setStation st s).pull = s.pull ∧
    (State.setStation st s).elevator = s.elevator ∧ (State.setStation st s).report = s.report ∧
    (State.setStation st s).ports = s.ports ∧ (State.setStation st s).pending = s.pending := by
  unfold State.setStation
  (repeat' split) <;> simp

@[simp] theorem State.setHead_frame (h : HeadState) (s : State) :
    (State.setHead h s).straps = s.straps ∧ (State.setHead h s).alarms = s.alarms ∧
    (State.setHead h s).loader = s.loader ∧ (State.setHead h s).stage = s.stage ∧
    (State.setHead h s).heat = s.heat ∧ (State.setHead h s).wire = s.wire ∧ (State.setHead h s).energy = s.energy ∧
    (State.setHead h s).pull = s.pull ∧ (State.setHead h s).elevator = s.elevator ∧
    (State.setHead h s).report = s.report ∧ (State.setHead h s).ports = s.ports ∧
    (State.setHead h s).pending = s.pending := by
  unfold State.setHead
  (repeat' split) <;> simp

@[simp] theorem State.setStage_frame (st : StageState) (s : State) :
    (State.setStage st s).straps = s.straps ∧ (State.setStage st s).control = s.control ∧
    (State.setStage st s).alarms = s.alarms ∧ (State.setStage st s).loader = s.loader ∧
    (State.setStage st s).heat = s.heat ∧ (State.setStage st s).wire = s.wire ∧
    (State.setStage st s).energy = s.energy ∧ (State.setStage st s).pull = s.pull ∧
    (State.setStage st s).elevator = s.elevator ∧ (State.setStage st s).report = s.report ∧
    (State.setStage st s).ports = s.ports ∧ (State.setStage st s).pending = s.pending := by
  unfold State.setStage
  (repeat' split) <;> simp

@[simp] theorem State.startDwell_frame (s : State) :
    (State.startDwell s).straps = s.straps ∧ (State.startDwell s).control = s.control ∧
    (State.startDwell s).alarms = s.alarms ∧ (State.startDwell s).line = s.line ∧
    (State.startDwell s).loader = s.loader ∧ (State.startDwell s).heat = s.heat ∧
    (State.startDwell s).wire = s.wire ∧ (State.startDwell s).energy = s.energy ∧
    (State.startDwell s).pull = s.pull ∧ (State.startDwell s).elevator = s.elevator ∧
    (State.startDwell s).report = s.report ∧ (State.startDwell s).screen = s.screen ∧
    (State.startDwell s).ports = s.ports ∧ (State.startDwell s).pending = s.pending := by
  unfold State.startDwell
  exact ⟨rfl, rfl, rfl, rfl, rfl, rfl, rfl, rfl, rfl, rfl, rfl, rfl, rfl, rfl⟩

@[simp] theorem State.stopDwell_frame (s : State) :
    (State.stopDwell s).straps = s.straps ∧ (State.stopDwell s).control = s.control ∧
    (State.stopDwell s).loader = s.loader ∧ (State.stopDwell s).heat = s.heat ∧ (State.stopDwell s).wire = s.wire ∧
    (State.stopDwell s).energy = s.energy ∧ (State.stopDwell s).pull = s.pull ∧
    (State.stopDwell s).elevator = s.elevator ∧ (State.stopDwell s).report = s.report ∧
    (State.stopDwell s).ports = s.ports ∧ (State.stopDwell s).pending = s.pending := by
  unfold State.stopDwell
  dsimp only
  (repeat' split) <;> simp

@[simp] theorem State.freshStrip_frame (s : State) :
    (State.freshStrip s).straps = s.straps ∧ (State.freshStrip s).control = s.control ∧
    (State.freshStrip s).alarms = s.alarms ∧ (State.freshStrip s).line = s.line ∧
    (State.freshStrip s).loader = s.loader ∧ (State.freshStrip s).stage = s.stage ∧
    (State.freshStrip s).heat = s.heat ∧ (State.freshStrip s).wire = s.wire ∧
    (State.freshStrip s).energy = s.energy ∧ (State.freshStrip s).elevator = s.elevator ∧
    (State.freshStrip s).report = s.report ∧ (State.freshStrip s).screen = s.screen ∧
    (State.freshStrip s).ports = s.ports ∧ (State.freshStrip s).pending = s.pending := by
  unfold State.freshStrip
  exact ⟨rfl, rfl, rfl, rfl, rfl, rfl, rfl, rfl, rfl, rfl, rfl, rfl, rfl, rfl⟩

@[simp] theorem State.takeStrip_frame (r : StripRecord) (column : Nat) (s : State) :
    (State.takeStrip r column s).straps = s.straps ∧ (State.takeStrip r column s).control = s.control ∧
    (State.takeStrip r column s).alarms = s.alarms ∧ (State.takeStrip r column s).loader = s.loader ∧
    (State.takeStrip r column s).heat = s.heat ∧ (State.takeStrip r column s).wire = s.wire ∧
    (State.takeStrip r column s).energy = s.energy ∧ (State.takeStrip r column s).elevator = s.elevator ∧
    (State.takeStrip r column s).report = s.report ∧ (State.takeStrip r column s).ports = s.ports ∧
    (State.takeStrip r column s).pending = s.pending := by
  unfold State.takeStrip
  simp

@[simp] theorem State.emptyStage_frame (s : State) :
    (State.emptyStage s).straps = s.straps ∧ (State.emptyStage s).control = s.control ∧
    (State.emptyStage s).loader = s.loader ∧ (State.emptyStage s).heat = s.heat ∧
    (State.emptyStage s).wire = s.wire ∧ (State.emptyStage s).energy = s.energy ∧
    (State.emptyStage s).pull = s.pull ∧ (State.emptyStage s).elevator = s.elevator ∧
    (State.emptyStage s).report = s.report ∧ (State.emptyStage s).ports = s.ports ∧
    (State.emptyStage s).pending = s.pending := by
  unfold State.emptyStage
  (repeat' split) <;> simp

@[simp] theorem State.headToSafe_frame (s : State) :
    (State.headToSafe s).straps = s.straps ∧ (State.headToSafe s).control = s.control ∧
    (State.headToSafe s).alarms = s.alarms ∧ (State.headToSafe s).line = s.line ∧
    (State.headToSafe s).loader = s.loader ∧ (State.headToSafe s).stage = s.stage ∧
    (State.headToSafe s).heat = s.heat ∧ (State.headToSafe s).wire = s.wire ∧
    (State.headToSafe s).energy = s.energy ∧ (State.headToSafe s).pull = s.pull ∧
    (State.headToSafe s).elevator = s.elevator ∧ (State.headToSafe s).report = s.report ∧
    (State.headToSafe s).screen = s.screen ∧ (State.headToSafe s).pending = s.pending := by
  unfold State.headToSafe
  exact ⟨rfl, rfl, rfl, rfl, rfl, rfl, rfl, rfl, rfl, rfl, rfl, rfl, rfl, rfl⟩

/-! ## The strip record -/

@[simp] theorem State.setUnit_frame (u : Nat) (e : UnitEntry) (s : State) :
    (State.setUnit u e s).straps = s.straps ∧ (State.setUnit u e s).control = s.control ∧
    (State.setUnit u e s).alarms = s.alarms ∧ (State.setUnit u e s).line = s.line ∧
    (State.setUnit u e s).loader = s.loader ∧ (State.setUnit u e s).heat = s.heat ∧
    (State.setUnit u e s).wire = s.wire ∧ (State.setUnit u e s).energy = s.energy ∧
    (State.setUnit u e s).pull = s.pull ∧ (State.setUnit u e s).elevator = s.elevator ∧
    (State.setUnit u e s).report = s.report ∧ (State.setUnit u e s).screen = s.screen ∧
    (State.setUnit u e s).ports = s.ports ∧ (State.setUnit u e s).pending = s.pending := by
  unfold State.setUnit
  exact ⟨rfl, rfl, rfl, rfl, rfl, rfl, rfl, rfl, rfl, rfl, rfl, rfl, rfl, rfl⟩

@[simp] theorem State.requestReject_frame (u : Nat) (cause : RejectCause) (s : State) :
    (State.requestReject u cause s).straps = s.straps ∧ (State.requestReject u cause s).control = s.control ∧
    (State.requestReject u cause s).alarms = s.alarms ∧ (State.requestReject u cause s).line = s.line ∧
    (State.requestReject u cause s).loader = s.loader ∧ (State.requestReject u cause s).heat = s.heat ∧
    (State.requestReject u cause s).energy = s.energy ∧ (State.requestReject u cause s).pull = s.pull ∧
    (State.requestReject u cause s).elevator = s.elevator ∧ (State.requestReject u cause s).report = s.report ∧
    (State.requestReject u cause s).ports = s.ports ∧ (State.requestReject u cause s).pending = s.pending := by
  unfold State.requestReject
  (repeat' split) <;> simp

@[simp] theorem State.requestPullReject_frame (u : Nat) (cause : RejectCause) (s : State) :
    (State.requestPullReject u cause s).straps = s.straps ∧
    (State.requestPullReject u cause s).control = s.control ∧
    (State.requestPullReject u cause s).alarms = s.alarms ∧ (State.requestPullReject u cause s).line = s.line ∧
    (State.requestPullReject u cause s).loader = s.loader ∧ (State.requestPullReject u cause s).heat = s.heat ∧
    (State.requestPullReject u cause s).wire = s.wire ∧ (State.requestPullReject u cause s).energy = s.energy ∧
    (State.requestPullReject u cause s).pull = s.pull ∧ (State.requestPullReject u cause s).elevator = s.elevator ∧
    (State.requestPullReject u cause s).report = s.report ∧ (State.requestPullReject u cause s).ports = s.ports ∧
    (State.requestPullReject u cause s).pending = s.pending := by
  unfold State.requestPullReject
  (repeat' split) <;> simp

@[simp] theorem State.pullMark_frame (u : Nat) (o : PullOutcome) (s : State) :
    (State.pullMark u o s).straps = s.straps ∧ (State.pullMark u o s).control = s.control ∧
    (State.pullMark u o s).alarms = s.alarms ∧ (State.pullMark u o s).line = s.line ∧
    (State.pullMark u o s).loader = s.loader ∧ (State.pullMark u o s).heat = s.heat ∧
    (State.pullMark u o s).wire = s.wire ∧ (State.pullMark u o s).energy = s.energy ∧
    (State.pullMark u o s).pull = s.pull ∧ (State.pullMark u o s).elevator = s.elevator ∧
    (State.pullMark u o s).report = s.report ∧ (State.pullMark u o s).screen = s.screen ∧
    (State.pullMark u o s).ports = s.ports ∧ (State.pullMark u o s).pending = s.pending := by
  unfold State.pullMark
  (repeat' split) <;> simp

@[simp] theorem State.addSuspect_frame (u : Nat) (w : Nat) (cause : SuspectCause) (s : State) :
    (State.addSuspect u w cause s).straps = s.straps ∧ (State.addSuspect u w cause s).loader = s.loader ∧
    (State.addSuspect u w cause s).heat = s.heat ∧ (State.addSuspect u w cause s).wire = s.wire ∧
    (State.addSuspect u w cause s).energy = s.energy ∧ (State.addSuspect u w cause s).pull = s.pull ∧
    (State.addSuspect u w cause s).elevator = s.elevator ∧ (State.addSuspect u w cause s).report = s.report ∧
    (State.addSuspect u w cause s).ports = s.ports ∧ (State.addSuspect u w cause s).pending = s.pending := by
  unfold State.addSuspect
  (repeat' split) <;> simp

@[simp] theorem State.completeWire_frame (f : WireInFlight) (s : State) :
    (State.completeWire f s).straps = s.straps ∧ (State.completeWire f s).control = s.control ∧
    (State.completeWire f s).alarms = s.alarms ∧ (State.completeWire f s).line = s.line ∧
    (State.completeWire f s).loader = s.loader ∧ (State.completeWire f s).heat = s.heat ∧
    (State.completeWire f s).energy = s.energy ∧ (State.completeWire f s).pull = s.pull ∧
    (State.completeWire f s).elevator = s.elevator ∧ (State.completeWire f s).report = s.report ∧
    (State.completeWire f s).ports = s.ports ∧ (State.completeWire f s).pending = s.pending := by
  unfold State.completeWire
  (repeat' split) <;> simp

/-! ## Stopping and roll call -/

@[simp] theorem State.judgeStock_frame (s : State) :
    (State.judgeStock s).straps = s.straps ∧ (State.judgeStock s).loader = s.loader ∧
    (State.judgeStock s).stage = s.stage ∧ (State.judgeStock s).heat = s.heat ∧ (State.judgeStock s).wire = s.wire ∧
    (State.judgeStock s).energy = s.energy ∧ (State.judgeStock s).pull = s.pull ∧
    (State.judgeStock s).elevator = s.elevator ∧ (State.judgeStock s).report = s.report ∧
    (State.judgeStock s).ports = s.ports ∧ (State.judgeStock s).pending = s.pending := by
  unfold State.judgeStock
  (repeat' split) <;> simp

@[simp] theorem State.debit_frame (s : State) :
    (State.debit s).straps = s.straps ∧ (State.debit s).loader = s.loader ∧ (State.debit s).stage = s.stage ∧
    (State.debit s).heat = s.heat ∧ (State.debit s).energy = s.energy ∧ (State.debit s).pull = s.pull ∧
    (State.debit s).elevator = s.elevator ∧ (State.debit s).report = s.report ∧ (State.debit s).ports = s.ports ∧
    (State.debit s).pending = s.pending := by
  unfold State.debit
  (repeat' split) <;> simp

@[simp] theorem State.abortWire_frame (s : State) :
    (State.abortWire s).straps = s.straps ∧ (State.abortWire s).loader = s.loader ∧
    (State.abortWire s).heat = s.heat ∧ (State.abortWire s).pull = s.pull ∧
    (State.abortWire s).elevator = s.elevator ∧ (State.abortWire s).report = s.report ∧
    (State.abortWire s).pending = s.pending := by
  unfold State.abortWire
  (repeat' split) <;> simp

@[simp] theorem State.abandonPull_frame (s : State) :
    (State.abandonPull s).straps = s.straps ∧ (State.abandonPull s).control = s.control ∧
    (State.abandonPull s).alarms = s.alarms ∧ (State.abandonPull s).line = s.line ∧
    (State.abandonPull s).loader = s.loader ∧ (State.abandonPull s).stage = s.stage ∧
    (State.abandonPull s).heat = s.heat ∧ (State.abandonPull s).wire = s.wire ∧
    (State.abandonPull s).energy = s.energy ∧ (State.abandonPull s).elevator = s.elevator ∧
    (State.abandonPull s).report = s.report ∧ (State.abandonPull s).screen = s.screen ∧
    (State.abandonPull s).pending = s.pending := by
  unfold State.abandonPull
  exact ⟨rfl, rfl, rfl, rfl, rfl, rfl, rfl, rfl, rfl, rfl, rfl, rfl, rfl⟩

@[simp] theorem State.haltIndex_frame (s : State) :
    (State.haltIndex s).straps = s.straps ∧ (State.haltIndex s).control = s.control ∧
    (State.haltIndex s).alarms = s.alarms ∧ (State.haltIndex s).line = s.line ∧
    (State.haltIndex s).loader = s.loader ∧ (State.haltIndex s).heat = s.heat ∧ (State.haltIndex s).wire = s.wire ∧
    (State.haltIndex s).energy = s.energy ∧ (State.haltIndex s).pull = s.pull ∧
    (State.haltIndex s).elevator = s.elevator ∧ (State.haltIndex s).report = s.report ∧
    (State.haltIndex s).screen = s.screen ∧ (State.haltIndex s).pending = s.pending := by
  unfold State.haltIndex
  (repeat' split) <;> simp

@[simp] theorem State.haltElevators_frame (s : State) :
    (State.haltElevators s).straps = s.straps ∧ (State.haltElevators s).control = s.control ∧
    (State.haltElevators s).alarms = s.alarms ∧ (State.haltElevators s).line = s.line ∧
    (State.haltElevators s).loader = s.loader ∧ (State.haltElevators s).stage = s.stage ∧
    (State.haltElevators s).heat = s.heat ∧ (State.haltElevators s).wire = s.wire ∧
    (State.haltElevators s).energy = s.energy ∧ (State.haltElevators s).pull = s.pull ∧
    (State.haltElevators s).report = s.report ∧ (State.haltElevators s).screen = s.screen ∧
    (State.haltElevators s).pending = s.pending := by
  unfold State.haltElevators
  exact ⟨rfl, rfl, rfl, rfl, rfl, rfl, rfl, rfl, rfl, rfl, rfl, rfl, rfl⟩

@[simp] theorem State.stopRollCall_frame (s : State) :
    (State.stopRollCall s).straps = s.straps ∧ (State.stopRollCall s).control = s.control ∧
    (State.stopRollCall s).alarms = s.alarms ∧ (State.stopRollCall s).loader = s.loader ∧
    (State.stopRollCall s).stage = s.stage ∧ (State.stopRollCall s).heat = s.heat ∧
    (State.stopRollCall s).wire = s.wire ∧ (State.stopRollCall s).energy = s.energy ∧
    (State.stopRollCall s).pull = s.pull ∧ (State.stopRollCall s).elevator = s.elevator ∧
    (State.stopRollCall s).report = s.report ∧ (State.stopRollCall s).screen = s.screen ∧
    (State.stopRollCall s).ports = s.ports ∧ (State.stopRollCall s).pending = s.pending := by
  unfold State.stopRollCall
  (repeat' split) <;> simp

@[simp] theorem State.enterStopped_frame (s : State) :
    (State.enterStopped s).straps = s.straps ∧ (State.enterStopped s).loader = s.loader ∧
    (State.enterStopped s).heat = s.heat ∧ (State.enterStopped s).report = s.report ∧
    (State.enterStopped s).pending = s.pending := by
  unfold State.enterStopped
  simp

@[simp] theorem State.sendPresent_frame (s : State) :
    (State.sendPresent s).straps = s.straps ∧ (State.sendPresent s).control = s.control ∧
    (State.sendPresent s).alarms = s.alarms ∧ (State.sendPresent s).loader = s.loader ∧
    (State.sendPresent s).stage = s.stage ∧ (State.sendPresent s).heat = s.heat ∧
    (State.sendPresent s).wire = s.wire ∧ (State.sendPresent s).energy = s.energy ∧
    (State.sendPresent s).pull = s.pull ∧ (State.sendPresent s).elevator = s.elevator ∧
    (State.sendPresent s).report = s.report ∧ (State.sendPresent s).screen = s.screen ∧
    (State.sendPresent s).ports = s.ports ∧ (State.sendPresent s).pending = s.pending := by
  unfold State.sendPresent
  (repeat' split) <;> simp

@[simp] theorem State.judgeFinding_frame (source : Nat) (finding : Option Nat) (s : State) :
    (State.judgeFinding source finding s).straps = s.straps ∧
    (State.judgeFinding source finding s).loader = s.loader ∧
    (State.judgeFinding source finding s).stage = s.stage ∧ (State.judgeFinding source finding s).heat = s.heat ∧
    (State.judgeFinding source finding s).wire = s.wire ∧ (State.judgeFinding source finding s).energy = s.energy ∧
    (State.judgeFinding source finding s).pull = s.pull ∧
    (State.judgeFinding source finding s).elevator = s.elevator ∧
    (State.judgeFinding source finding s).report = s.report ∧
    (State.judgeFinding source finding s).ports = s.ports ∧
    (State.judgeFinding source finding s).pending = s.pending := by
  unfold State.judgeFinding
  (repeat' split) <;> simp

@[simp] theorem State.judgeGap_frame (s : State) :
    (State.judgeGap s).straps = s.straps ∧ (State.judgeGap s).control = s.control ∧
    (State.judgeGap s).loader = s.loader ∧ (State.judgeGap s).stage = s.stage ∧ (State.judgeGap s).heat = s.heat ∧
    (State.judgeGap s).wire = s.wire ∧ (State.judgeGap s).energy = s.energy ∧ (State.judgeGap s).pull = s.pull ∧
    (State.judgeGap s).elevator = s.elevator ∧ (State.judgeGap s).report = s.report ∧
    (State.judgeGap s).ports = s.ports ∧ (State.judgeGap s).pending = s.pending := by
  unfold State.judgeGap
  (repeat' split) <;> simp

@[simp] theorem State.judgeRoster_frame (s : State) :
    (State.judgeRoster s).straps = s.straps ∧ (State.judgeRoster s).loader = s.loader ∧
    (State.judgeRoster s).stage = s.stage ∧ (State.judgeRoster s).heat = s.heat ∧
    (State.judgeRoster s).wire = s.wire ∧ (State.judgeRoster s).energy = s.energy ∧
    (State.judgeRoster s).pull = s.pull ∧ (State.judgeRoster s).elevator = s.elevator ∧
    (State.judgeRoster s).report = s.report ∧ (State.judgeRoster s).ports = s.ports ∧
    (State.judgeRoster s).pending = s.pending := by
  unfold State.judgeRoster
  (repeat' split) <;> simp

@[simp] theorem State.tryReady_frame (s : State) :
    (State.tryReady s).straps = s.straps ∧ (State.tryReady s).alarms = s.alarms ∧
    (State.tryReady s).loader = s.loader ∧ (State.tryReady s).stage = s.stage ∧ (State.tryReady s).heat = s.heat ∧
    (State.tryReady s).wire = s.wire ∧ (State.tryReady s).energy = s.energy ∧ (State.tryReady s).pull = s.pull ∧
    (State.tryReady s).elevator = s.elevator ∧ (State.tryReady s).report = s.report ∧
    (State.tryReady s).ports = s.ports ∧ (State.tryReady s).pending = s.pending := by
  unfold State.tryReady
  (repeat' split) <;> simp

@[simp] theorem State.enterRollCall_frame (s : State) :
    (State.enterRollCall s).straps = s.straps ∧ (State.enterRollCall s).loader = s.loader ∧
    (State.enterRollCall s).stage = s.stage ∧ (State.enterRollCall s).heat = s.heat ∧
    (State.enterRollCall s).wire = s.wire ∧ (State.enterRollCall s).energy = s.energy ∧
    (State.enterRollCall s).pull = s.pull ∧ (State.enterRollCall s).elevator = s.elevator ∧
    (State.enterRollCall s).report = s.report ∧ (State.enterRollCall s).ports = s.ports ∧
    (State.enterRollCall s).pending = s.pending := by
  unfold State.enterRollCall
  simp

@[simp] theorem State.leaveStopped_frame (s : State) :
    (State.leaveStopped s).straps = s.straps ∧ (State.leaveStopped s).loader = s.loader ∧
    (State.leaveStopped s).stage = s.stage ∧ (State.leaveStopped s).heat = s.heat ∧
    (State.leaveStopped s).wire = s.wire ∧ (State.leaveStopped s).energy = s.energy ∧
    (State.leaveStopped s).pull = s.pull ∧ (State.leaveStopped s).elevator = s.elevator ∧
    (State.leaveStopped s).report = s.report ∧ (State.leaveStopped s).ports = s.ports ∧
    (State.leaveStopped s).pending = s.pending := by
  unfold State.leaveStopped
  (repeat' split) <;> simp

@[simp] theorem State.settleStop_frame (s : State) :
    (State.settleStop s).straps = s.straps ∧ (State.settleStop s).loader = s.loader ∧
    (State.settleStop s).heat = s.heat ∧ (State.settleStop s).report = s.report ∧
    (State.settleStop s).pending = s.pending := by
  unfold State.settleStop
  (repeat' split) <;> simp

@[simp] theorem State.settle_frame (s : State) :
    (State.settle s).straps = s.straps ∧ (State.settle s).loader = s.loader ∧ (State.settle s).heat = s.heat ∧
    (State.settle s).report = s.report ∧ (State.settle s).pending = s.pending := by
  unfold State.settle
  (repeat' split) <;> simp

/-! ## Reports -/

@[simp] theorem State.fileResult_frame (r : PullResult) (s : State) :
    (State.fileResult r s).straps = s.straps ∧ (State.fileResult r s).loader = s.loader ∧
    (State.fileResult r s).stage = s.stage ∧ (State.fileResult r s).heat = s.heat ∧
    (State.fileResult r s).wire = s.wire ∧ (State.fileResult r s).energy = s.energy ∧
    (State.fileResult r s).pull = s.pull ∧ (State.fileResult r s).elevator = s.elevator ∧
    (State.fileResult r s).ports = s.ports ∧ (State.fileResult r s).pending = s.pending := by
  unfold State.fileResult
  (repeat' split) <;> simp

@[simp] theorem State.loseEntry_frame (e : ReportEntry) (s : State) :
    (State.loseEntry e s).straps = s.straps ∧ (State.loseEntry e s).loader = s.loader ∧
    (State.loseEntry e s).stage = s.stage ∧ (State.loseEntry e s).heat = s.heat ∧
    (State.loseEntry e s).wire = s.wire ∧ (State.loseEntry e s).energy = s.energy ∧
    (State.loseEntry e s).pull = s.pull ∧ (State.loseEntry e s).elevator = s.elevator ∧
    (State.loseEntry e s).ports = s.ports ∧ (State.loseEntry e s).pending = s.pending := by
  unfold State.loseEntry
  simp

@[simp] theorem State.loseEntries_frame (l : List ReportEntry) (s : State) :
    (State.loseEntries l s).straps = s.straps ∧ (State.loseEntries l s).loader = s.loader ∧
    (State.loseEntries l s).stage = s.stage ∧ (State.loseEntries l s).heat = s.heat ∧
    (State.loseEntries l s).wire = s.wire ∧ (State.loseEntries l s).energy = s.energy ∧
    (State.loseEntries l s).pull = s.pull ∧ (State.loseEntries l s).elevator = s.elevator ∧
    (State.loseEntries l s).ports = s.ports ∧ (State.loseEntries l s).pending = s.pending := by
  induction l generalizing s <;> simp_all [State.loseEntries]

@[simp] theorem State.freeOrphans_frame (q : Nat) (s : State) :
    (State.freeOrphans q s).straps = s.straps ∧ (State.freeOrphans q s).loader = s.loader ∧
    (State.freeOrphans q s).stage = s.stage ∧ (State.freeOrphans q s).heat = s.heat ∧
    (State.freeOrphans q s).wire = s.wire ∧ (State.freeOrphans q s).energy = s.energy ∧
    (State.freeOrphans q s).pull = s.pull ∧ (State.freeOrphans q s).elevator = s.elevator ∧
    (State.freeOrphans q s).ports = s.ports ∧ (State.freeOrphans q s).pending = s.pending := by
  unfold State.freeOrphans
  (repeat' split) <;> simp

@[simp] theorem State.composeReport_frame (r : StripRecord) (u : Unloading) (s : State) :
    (State.composeReport r u s).straps = s.straps ∧ (State.composeReport r u s).loader = s.loader ∧
    (State.composeReport r u s).stage = s.stage ∧ (State.composeReport r u s).heat = s.heat ∧
    (State.composeReport r u s).wire = s.wire ∧ (State.composeReport r u s).energy = s.energy ∧
    (State.composeReport r u s).pull = s.pull ∧ (State.composeReport r u s).elevator = s.elevator ∧
    (State.composeReport r u s).ports = s.ports ∧ (State.composeReport r u s).pending = s.pending := by
  unfold State.composeReport
  dsimp only
  (repeat' split) <;> simp

/-! ## Magazines -/

@[simp] theorem State.setInputSlot_frame (n : Nat) (v : InputSlot) (s : State) :
    (State.setInputSlot n v s).straps = s.straps ∧ (State.setInputSlot n v s).control = s.control ∧
    (State.setInputSlot n v s).alarms = s.alarms ∧ (State.setInputSlot n v s).line = s.line ∧
    (State.setInputSlot n v s).loader = s.loader ∧ (State.setInputSlot n v s).stage = s.stage ∧
    (State.setInputSlot n v s).heat = s.heat ∧ (State.setInputSlot n v s).wire = s.wire ∧
    (State.setInputSlot n v s).energy = s.energy ∧ (State.setInputSlot n v s).pull = s.pull ∧
    (State.setInputSlot n v s).report = s.report ∧ (State.setInputSlot n v s).ports = s.ports ∧
    (State.setInputSlot n v s).pending = s.pending := by
  unfold State.setInputSlot
  exact ⟨rfl, rfl, rfl, rfl, rfl, rfl, rfl, rfl, rfl, rfl, rfl, rfl, rfl⟩

@[simp] theorem State.setOutputSlot_frame (n : Nat) (v : OutputSlot) (s : State) :
    (State.setOutputSlot n v s).straps = s.straps ∧ (State.setOutputSlot n v s).control = s.control ∧
    (State.setOutputSlot n v s).alarms = s.alarms ∧ (State.setOutputSlot n v s).line = s.line ∧
    (State.setOutputSlot n v s).loader = s.loader ∧ (State.setOutputSlot n v s).stage = s.stage ∧
    (State.setOutputSlot n v s).heat = s.heat ∧ (State.setOutputSlot n v s).wire = s.wire ∧
    (State.setOutputSlot n v s).energy = s.energy ∧ (State.setOutputSlot n v s).pull = s.pull ∧
    (State.setOutputSlot n v s).report = s.report ∧ (State.setOutputSlot n v s).ports = s.ports ∧
    (State.setOutputSlot n v s).pending = s.pending := by
  unfold State.setOutputSlot
  exact ⟨rfl, rfl, rfl, rfl, rfl, rfl, rfl, rfl, rfl, rfl, rfl, rfl, rfl⟩

@[simp] theorem State.setInput_frame (f : Elevator → Elevator) (s : State) :
    (State.setInput f s).straps = s.straps ∧ (State.setInput f s).control = s.control ∧
    (State.setInput f s).alarms = s.alarms ∧ (State.setInput f s).line = s.line ∧
    (State.setInput f s).loader = s.loader ∧ (State.setInput f s).stage = s.stage ∧
    (State.setInput f s).heat = s.heat ∧ (State.setInput f s).wire = s.wire ∧
    (State.setInput f s).energy = s.energy ∧ (State.setInput f s).pull = s.pull ∧
    (State.setInput f s).report = s.report ∧ (State.setInput f s).screen = s.screen ∧
    (State.setInput f s).ports = s.ports ∧ (State.setInput f s).pending = s.pending := by
  unfold State.setInput
  exact ⟨rfl, rfl, rfl, rfl, rfl, rfl, rfl, rfl, rfl, rfl, rfl, rfl, rfl, rfl⟩

@[simp] theorem State.setOutput_frame (f : Elevator → Elevator) (s : State) :
    (State.setOutput f s).straps = s.straps ∧ (State.setOutput f s).control = s.control ∧
    (State.setOutput f s).alarms = s.alarms ∧ (State.setOutput f s).line = s.line ∧
    (State.setOutput f s).loader = s.loader ∧ (State.setOutput f s).stage = s.stage ∧
    (State.setOutput f s).heat = s.heat ∧ (State.setOutput f s).wire = s.wire ∧
    (State.setOutput f s).energy = s.energy ∧ (State.setOutput f s).pull = s.pull ∧
    (State.setOutput f s).report = s.report ∧ (State.setOutput f s).screen = s.screen ∧
    (State.setOutput f s).ports = s.ports ∧ (State.setOutput f s).pending = s.pending := by
  unfold State.setOutput
  exact ⟨rfl, rfl, rfl, rfl, rfl, rfl, rfl, rfl, rfl, rfl, rfl, rfl, rfl, rfl⟩

@[simp] theorem State.nextInput_frame (n : Nat) (s : State) :
    (State.nextInput n s).straps = s.straps ∧ (State.nextInput n s).loader = s.loader ∧
    (State.nextInput n s).stage = s.stage ∧ (State.nextInput n s).heat = s.heat ∧
    (State.nextInput n s).wire = s.wire ∧ (State.nextInput n s).energy = s.energy ∧
    (State.nextInput n s).pull = s.pull ∧ (State.nextInput n s).report = s.report ∧
    (State.nextInput n s).ports = s.ports ∧ (State.nextInput n s).pending = s.pending := by
  unfold State.nextInput
  (repeat' split) <;> simp

@[simp] theorem State.nextOutput_frame (n : Nat) (s : State) :
    (State.nextOutput n s).straps = s.straps ∧ (State.nextOutput n s).loader = s.loader ∧
    (State.nextOutput n s).stage = s.stage ∧ (State.nextOutput n s).heat = s.heat ∧
    (State.nextOutput n s).wire = s.wire ∧ (State.nextOutput n s).energy = s.energy ∧
    (State.nextOutput n s).pull = s.pull ∧ (State.nextOutput n s).report = s.report ∧
    (State.nextOutput n s).ports = s.ports ∧ (State.nextOutput n s).pending = s.pending := by
  unfold State.nextOutput
  (repeat' split) <;> simp

@[simp] theorem State.newInputMagazine_frame (s : State) :
    (State.newInputMagazine s).straps = s.straps ∧ (State.newInputMagazine s).control = s.control ∧
    (State.newInputMagazine s).loader = s.loader ∧ (State.newInputMagazine s).stage = s.stage ∧
    (State.newInputMagazine s).heat = s.heat ∧ (State.newInputMagazine s).wire = s.wire ∧
    (State.newInputMagazine s).energy = s.energy ∧ (State.newInputMagazine s).pull = s.pull ∧
    (State.newInputMagazine s).report = s.report ∧ (State.newInputMagazine s).ports = s.ports ∧
    (State.newInputMagazine s).pending = s.pending := by
  unfold State.newInputMagazine
  simp

@[simp] theorem State.newOutputMagazine_frame (s : State) :
    (State.newOutputMagazine s).straps = s.straps ∧ (State.newOutputMagazine s).control = s.control ∧
    (State.newOutputMagazine s).loader = s.loader ∧ (State.newOutputMagazine s).stage = s.stage ∧
    (State.newOutputMagazine s).heat = s.heat ∧ (State.newOutputMagazine s).wire = s.wire ∧
    (State.newOutputMagazine s).energy = s.energy ∧ (State.newOutputMagazine s).pull = s.pull ∧
    (State.newOutputMagazine s).report = s.report ∧ (State.newOutputMagazine s).ports = s.ports ∧
    (State.newOutputMagazine s).pending = s.pending := by
  unfold State.newOutputMagazine
  simp

@[simp] theorem repeat_newInputMagazine_frame (n : Nat) (s : State) :
    (repeatStep State.newInputMagazine n s).straps = s.straps ∧
    (repeatStep State.newInputMagazine n s).control = s.control ∧
    (repeatStep State.newInputMagazine n s).loader = s.loader ∧
    (repeatStep State.newInputMagazine n s).stage = s.stage ∧
    (repeatStep State.newInputMagazine n s).heat = s.heat ∧ (repeatStep State.newInputMagazine n s).wire = s.wire ∧
    (repeatStep State.newInputMagazine n s).energy = s.energy ∧
    (repeatStep State.newInputMagazine n s).pull = s.pull ∧
    (repeatStep State.newInputMagazine n s).report = s.report ∧
    (repeatStep State.newInputMagazine n s).ports = s.ports ∧
    (repeatStep State.newInputMagazine n s).pending = s.pending := by
  induction n generalizing s <;> simp_all [repeatStep]

@[simp] theorem repeat_newOutputMagazine_frame (n : Nat) (s : State) :
    (repeatStep State.newOutputMagazine n s).straps = s.straps ∧
    (repeatStep State.newOutputMagazine n s).control = s.control ∧
    (repeatStep State.newOutputMagazine n s).loader = s.loader ∧
    (repeatStep State.newOutputMagazine n s).stage = s.stage ∧
    (repeatStep State.newOutputMagazine n s).heat = s.heat ∧
    (repeatStep State.newOutputMagazine n s).wire = s.wire ∧
    (repeatStep State.newOutputMagazine n s).energy = s.energy ∧
    (repeatStep State.newOutputMagazine n s).pull = s.pull ∧
    (repeatStep State.newOutputMagazine n s).report = s.report ∧
    (repeatStep State.newOutputMagazine n s).ports = s.ports ∧
    (repeatStep State.newOutputMagazine n s).pending = s.pending := by
  induction n generalizing s <;> simp_all [repeatStep]

@[simp] theorem State.inputIdle_frame (s : State) :
    (State.inputIdle s).straps = s.straps ∧ (State.inputIdle s).control = s.control ∧
    (State.inputIdle s).loader = s.loader ∧ (State.inputIdle s).stage = s.stage ∧
    (State.inputIdle s).heat = s.heat ∧ (State.inputIdle s).wire = s.wire ∧ (State.inputIdle s).energy = s.energy ∧
    (State.inputIdle s).pull = s.pull ∧ (State.inputIdle s).report = s.report ∧
    (State.inputIdle s).ports = s.ports ∧ (State.inputIdle s).pending = s.pending := by
  unfold State.inputIdle
  simp

@[simp] theorem State.outputIdle_frame (s : State) :
    (State.outputIdle s).straps = s.straps ∧ (State.outputIdle s).control = s.control ∧
    (State.outputIdle s).loader = s.loader ∧ (State.outputIdle s).stage = s.stage ∧
    (State.outputIdle s).heat = s.heat ∧ (State.outputIdle s).wire = s.wire ∧
    (State.outputIdle s).energy = s.energy ∧ (State.outputIdle s).pull = s.pull ∧
    (State.outputIdle s).report = s.report ∧ (State.outputIdle s).ports = s.ports ∧
    (State.outputIdle s).pending = s.pending := by
  unfold State.outputIdle
  simp

@[simp] theorem State.senseInput_frame (s : State) :
    (State.senseInput s).straps = s.straps ∧ (State.senseInput s).control = s.control ∧
    (State.senseInput s).loader = s.loader ∧ (State.senseInput s).stage = s.stage ∧
    (State.senseInput s).heat = s.heat ∧ (State.senseInput s).wire = s.wire ∧
    (State.senseInput s).energy = s.energy ∧ (State.senseInput s).pull = s.pull ∧
    (State.senseInput s).report = s.report ∧ (State.senseInput s).ports = s.ports ∧
    (State.senseInput s).pending = s.pending := by
  unfold State.senseInput
  (repeat' split) <;> simp

@[simp] theorem State.senseOutput_frame (s : State) :
    (State.senseOutput s).straps = s.straps ∧ (State.senseOutput s).control = s.control ∧
    (State.senseOutput s).loader = s.loader ∧ (State.senseOutput s).stage = s.stage ∧
    (State.senseOutput s).heat = s.heat ∧ (State.senseOutput s).wire = s.wire ∧
    (State.senseOutput s).energy = s.energy ∧ (State.senseOutput s).pull = s.pull ∧
    (State.senseOutput s).report = s.report ∧ (State.senseOutput s).ports = s.ports ∧
    (State.senseOutput s).pending = s.pending := by
  unfold State.senseOutput
  (repeat' split) <;> simp

@[simp] theorem State.judgeInputSlot_frame (present : Bool) (s : State) :
    (State.judgeInputSlot present s).straps = s.straps ∧ (State.judgeInputSlot present s).loader = s.loader ∧
    (State.judgeInputSlot present s).stage = s.stage ∧ (State.judgeInputSlot present s).heat = s.heat ∧
    (State.judgeInputSlot present s).wire = s.wire ∧ (State.judgeInputSlot present s).energy = s.energy ∧
    (State.judgeInputSlot present s).pull = s.pull ∧ (State.judgeInputSlot present s).report = s.report ∧
    (State.judgeInputSlot present s).ports = s.ports ∧ (State.judgeInputSlot present s).pending = s.pending := by
  unfold State.judgeInputSlot
  (repeat' split) <;> simp

@[simp] theorem State.judgeOutputSlot_frame (s : State) :
    (State.judgeOutputSlot s).straps = s.straps ∧ (State.judgeOutputSlot s).loader = s.loader ∧
    (State.judgeOutputSlot s).stage = s.stage ∧ (State.judgeOutputSlot s).heat = s.heat ∧
    (State.judgeOutputSlot s).wire = s.wire ∧ (State.judgeOutputSlot s).energy = s.energy ∧
    (State.judgeOutputSlot s).pull = s.pull ∧ (State.judgeOutputSlot s).report = s.report ∧
    (State.judgeOutputSlot s).ports = s.ports ∧ (State.judgeOutputSlot s).pending = s.pending := by
  unfold State.judgeOutputSlot
  (repeat' split) <;> simp

@[simp] theorem State.feedingEnd_frame (s : State) :
    (State.feedingEnd s).straps = s.straps ∧ (State.feedingEnd s).loader = s.loader ∧
    (State.feedingEnd s).heat = s.heat ∧ (State.feedingEnd s).wire = s.wire ∧
    (State.feedingEnd s).energy = s.energy ∧ (State.feedingEnd s).report = s.report ∧
    (State.feedingEnd s).ports = s.ports ∧ (State.feedingEnd s).pending = s.pending := by
  unfold State.feedingEnd
  (repeat' split) <;> simp

@[simp] theorem State.releaseInput_frame (s : State) :
    (State.releaseInput s).straps = s.straps ∧ (State.releaseInput s).loader = s.loader ∧
    (State.releaseInput s).stage = s.stage ∧ (State.releaseInput s).heat = s.heat ∧
    (State.releaseInput s).wire = s.wire ∧ (State.releaseInput s).energy = s.energy ∧
    (State.releaseInput s).pull = s.pull ∧ (State.releaseInput s).report = s.report ∧
    (State.releaseInput s).ports = s.ports ∧ (State.releaseInput s).pending = s.pending := by
  unfold State.releaseInput
  (repeat' split) <;> simp

@[simp] theorem State.startUnloadPush_frame (s : State) :
    (State.startUnloadPush s).straps = s.straps ∧ (State.startUnloadPush s).control = s.control ∧
    (State.startUnloadPush s).alarms = s.alarms ∧ (State.startUnloadPush s).line = s.line ∧
    (State.startUnloadPush s).loader = s.loader ∧ (State.startUnloadPush s).heat = s.heat ∧
    (State.startUnloadPush s).wire = s.wire ∧ (State.startUnloadPush s).energy = s.energy ∧
    (State.startUnloadPush s).pull = s.pull ∧ (State.startUnloadPush s).report = s.report ∧
    (State.startUnloadPush s).screen = s.screen ∧ (State.startUnloadPush s).ports = s.ports ∧
    (State.startUnloadPush s).pending = s.pending := by
  unfold State.startUnloadPush
  exact ⟨rfl, rfl, rfl, rfl, rfl, rfl, rfl, rfl, rfl, rfl, rfl, rfl, rfl⟩

@[simp] theorem State.finishUnload_frame (pusher : Pusher) (s : State) :
    (State.finishUnload pusher s).straps = s.straps ∧ (State.finishUnload pusher s).loader = s.loader ∧
    (State.finishUnload pusher s).heat = s.heat ∧ (State.finishUnload pusher s).wire = s.wire ∧
    (State.finishUnload pusher s).energy = s.energy ∧ (State.finishUnload pusher s).pull = s.pull ∧
    (State.finishUnload pusher s).ports = s.ports ∧ (State.finishUnload pusher s).pending = s.pending := by
  unfold State.finishUnload
  (repeat' split) <;> simp

@[simp] theorem State.releaseOutput_frame (sensors : StripSensors) (s : State) :
    (State.releaseOutput sensors s).straps = s.straps ∧ (State.releaseOutput sensors s).loader = s.loader ∧
    (State.releaseOutput sensors s).heat = s.heat ∧ (State.releaseOutput sensors s).wire = s.wire ∧
    (State.releaseOutput sensors s).energy = s.energy ∧ (State.releaseOutput sensors s).pull = s.pull ∧
    (State.releaseOutput sensors s).ports = s.ports ∧ (State.releaseOutput sensors s).pending = s.pending := by
  unfold State.releaseOutput
  (repeat' split) <;> simp

/-! ## The stage -/

@[simp] theorem State.setStageUnit_frame (f : StageUnit → StageUnit) (s : State) :
    (State.setStageUnit f s).straps = s.straps ∧ (State.setStageUnit f s).control = s.control ∧
    (State.setStageUnit f s).alarms = s.alarms ∧ (State.setStageUnit f s).line = s.line ∧
    (State.setStageUnit f s).loader = s.loader ∧ (State.setStageUnit f s).heat = s.heat ∧
    (State.setStageUnit f s).wire = s.wire ∧ (State.setStageUnit f s).energy = s.energy ∧
    (State.setStageUnit f s).pull = s.pull ∧ (State.setStageUnit f s).elevator = s.elevator ∧
    (State.setStageUnit f s).report = s.report ∧ (State.setStageUnit f s).screen = s.screen ∧
    (State.setStageUnit f s).ports = s.ports ∧ (State.setStageUnit f s).pending = s.pending := by
  unfold State.setStageUnit
  exact ⟨rfl, rfl, rfl, rfl, rfl, rfl, rfl, rfl, rfl, rfl, rfl, rfl, rfl, rfl⟩

@[simp] theorem State.setDwellFlag_frame (s : State) :
    (State.setDwellFlag s).straps = s.straps ∧ (State.setDwellFlag s).control = s.control ∧
    (State.setDwellFlag s).alarms = s.alarms ∧ (State.setDwellFlag s).line = s.line ∧
    (State.setDwellFlag s).loader = s.loader ∧ (State.setDwellFlag s).heat = s.heat ∧
    (State.setDwellFlag s).wire = s.wire ∧ (State.setDwellFlag s).energy = s.energy ∧
    (State.setDwellFlag s).pull = s.pull ∧ (State.setDwellFlag s).elevator = s.elevator ∧
    (State.setDwellFlag s).report = s.report ∧ (State.setDwellFlag s).screen = s.screen ∧
    (State.setDwellFlag s).ports = s.ports ∧ (State.setDwellFlag s).pending = s.pending := by
  unfold State.setDwellFlag
  (repeat' split) <;> simp

@[simp] theorem State.startIndex_frame (c : Nat) (s : State) :
    (State.startIndex c s).straps = s.straps ∧ (State.startIndex c s).control = s.control ∧
    (State.startIndex c s).alarms = s.alarms ∧ (State.startIndex c s).line = s.line ∧
    (State.startIndex c s).loader = s.loader ∧ (State.startIndex c s).heat = s.heat ∧
    (State.startIndex c s).wire = s.wire ∧ (State.startIndex c s).energy = s.energy ∧
    (State.startIndex c s).pull = s.pull ∧ (State.startIndex c s).elevator = s.elevator ∧
    (State.startIndex c s).report = s.report ∧ (State.startIndex c s).screen = s.screen ∧
    (State.startIndex c s).pending = s.pending := by
  unfold State.startIndex
  exact ⟨rfl, rfl, rfl, rfl, rfl, rfl, rfl, rfl, rfl, rfl, rfl, rfl, rfl⟩

@[simp] theorem State.endCoverWait_frame (s : State) :
    (State.endCoverWait s).straps = s.straps ∧ (State.endCoverWait s).control = s.control ∧
    (State.endCoverWait s).loader = s.loader ∧ (State.endCoverWait s).heat = s.heat ∧
    (State.endCoverWait s).wire = s.wire ∧ (State.endCoverWait s).energy = s.energy ∧
    (State.endCoverWait s).pull = s.pull ∧ (State.endCoverWait s).elevator = s.elevator ∧
    (State.endCoverWait s).report = s.report ∧ (State.endCoverWait s).ports = s.ports ∧
    (State.endCoverWait s).pending = s.pending := by
  unfold State.endCoverWait
  (repeat' split) <;> simp

@[simp] theorem State.leaveStep_frame (s : State) :
    (State.leaveStep s).straps = s.straps ∧ (State.leaveStep s).loader = s.loader ∧
    (State.leaveStep s).heat = s.heat ∧ (State.leaveStep s).wire = s.wire ∧ (State.leaveStep s).energy = s.energy ∧
    (State.leaveStep s).pull = s.pull ∧ (State.leaveStep s).elevator = s.elevator ∧
    (State.leaveStep s).report = s.report ∧ (State.leaveStep s).ports = s.ports ∧
    (State.leaveStep s).pending = s.pending := by
  unfold State.leaveStep
  (repeat' split) <;> simp

@[simp] theorem State.judgeCover_frame (s : State) :
    (State.judgeCover s).straps = s.straps ∧ (State.judgeCover s).control = s.control ∧
    (State.judgeCover s).loader = s.loader ∧ (State.judgeCover s).heat = s.heat ∧
    (State.judgeCover s).wire = s.wire ∧ (State.judgeCover s).energy = s.energy ∧
    (State.judgeCover s).pull = s.pull ∧ (State.judgeCover s).elevator = s.elevator ∧
    (State.judgeCover s).report = s.report ∧ (State.judgeCover s).ports = s.ports ∧
    (State.judgeCover s).pending = s.pending := by
  unfold State.judgeCover
  (repeat' split) <;> simp

@[simp] theorem State.columnDone_frame (s : State) :
    (State.columnDone s).straps = s.straps ∧ (State.columnDone s).control = s.control ∧
    (State.columnDone s).alarms = s.alarms ∧ (State.columnDone s).line = s.line ∧
    (State.columnDone s).loader = s.loader ∧ (State.columnDone s).heat = s.heat ∧
    (State.columnDone s).wire = s.wire ∧ (State.columnDone s).energy = s.energy ∧
    (State.columnDone s).pull = s.pull ∧ (State.columnDone s).elevator = s.elevator ∧
    (State.columnDone s).report = s.report ∧ (State.columnDone s).ports = s.ports ∧
    (State.columnDone s).pending = s.pending := by
  unfold State.columnDone
  (repeat' split) <;> simp

@[simp] theorem State.offerClosed_frame (timer : Timer) (s : State) :
    (State.offerClosed timer s).straps = s.straps ∧ (State.offerClosed timer s).control = s.control ∧
    (State.offerClosed timer s).alarms = s.alarms ∧ (State.offerClosed timer s).loader = s.loader ∧
    (State.offerClosed timer s).heat = s.heat ∧ (State.offerClosed timer s).wire = s.wire ∧
    (State.offerClosed timer s).energy = s.energy ∧ (State.offerClosed timer s).pull = s.pull ∧
    (State.offerClosed timer s).elevator = s.elevator ∧ (State.offerClosed timer s).report = s.report ∧
    (State.offerClosed timer s).ports = s.ports ∧ (State.offerClosed timer s).pending = s.pending := by
  unfold State.offerClosed
  simp

@[simp] theorem State.sendAll_frame (t : Nat) (l : List TxBody) (s : State) :
    (State.sendAll t l s).straps = s.straps ∧ (State.sendAll t l s).control = s.control ∧
    (State.sendAll t l s).alarms = s.alarms ∧ (State.sendAll t l s).loader = s.loader ∧
    (State.sendAll t l s).stage = s.stage ∧ (State.sendAll t l s).heat = s.heat ∧
    (State.sendAll t l s).wire = s.wire ∧ (State.sendAll t l s).energy = s.energy ∧
    (State.sendAll t l s).pull = s.pull ∧ (State.sendAll t l s).elevator = s.elevator ∧
    (State.sendAll t l s).report = s.report ∧ (State.sendAll t l s).screen = s.screen ∧
    (State.sendAll t l s).ports = s.ports ∧ (State.sendAll t l s).pending = s.pending := by
  induction l generalizing s <;> simp_all [State.sendAll]

@[simp] theorem State.beginHanding_frame (r : StripRecord) (s : State) :
    (State.beginHanding r s).straps = s.straps ∧ (State.beginHanding r s).control = s.control ∧
    (State.beginHanding r s).alarms = s.alarms ∧ (State.beginHanding r s).loader = s.loader ∧
    (State.beginHanding r s).heat = s.heat ∧ (State.beginHanding r s).wire = s.wire ∧
    (State.beginHanding r s).energy = s.energy ∧ (State.beginHanding r s).pull = s.pull ∧
    (State.beginHanding r s).elevator = s.elevator ∧ (State.beginHanding r s).report = s.report ∧
    (State.beginHanding r s).ports = s.ports ∧ (State.beginHanding r s).pending = s.pending := by
  unfold State.beginHanding
  simp

@[simp] theorem State.tryPush_frame (s : State) :
    (State.tryPush s).straps = s.straps ∧ (State.tryPush s).control = s.control ∧
    (State.tryPush s).alarms = s.alarms ∧ (State.tryPush s).line = s.line ∧ (State.tryPush s).loader = s.loader ∧
    (State.tryPush s).heat = s.heat ∧ (State.tryPush s).wire = s.wire ∧ (State.tryPush s).energy = s.energy ∧
    (State.tryPush s).pull = s.pull ∧ (State.tryPush s).elevator = s.elevator ∧
    (State.tryPush s).report = s.report ∧ (State.tryPush s).screen = s.screen ∧ (State.tryPush s).ports = s.ports ∧
    (State.tryPush s).pending = s.pending := by
  unfold State.tryPush
  (repeat' split) <;> simp

@[simp] theorem State.closeHandoff_frame (s : State) :
    (State.closeHandoff s).straps = s.straps ∧ (State.closeHandoff s).control = s.control ∧
    (State.closeHandoff s).loader = s.loader ∧ (State.closeHandoff s).heat = s.heat ∧
    (State.closeHandoff s).wire = s.wire ∧ (State.closeHandoff s).energy = s.energy ∧
    (State.closeHandoff s).pull = s.pull ∧ (State.closeHandoff s).elevator = s.elevator ∧
    (State.closeHandoff s).report = s.report ∧ (State.closeHandoff s).ports = s.ports ∧
    (State.closeHandoff s).pending = s.pending := by
  unfold State.closeHandoff
  simp

@[simp] theorem State.takeBack_frame (s : State) :
    (State.takeBack s).straps = s.straps ∧ (State.takeBack s).control = s.control ∧
    (State.takeBack s).alarms = s.alarms ∧ (State.takeBack s).loader = s.loader ∧ (State.takeBack s).heat = s.heat ∧
    (State.takeBack s).wire = s.wire ∧ (State.takeBack s).energy = s.energy ∧ (State.takeBack s).pull = s.pull ∧
    (State.takeBack s).elevator = s.elevator ∧ (State.takeBack s).report = s.report ∧
    (State.takeBack s).ports = s.ports ∧ (State.takeBack s).pending = s.pending := by
  unfold State.takeBack
  simp

@[simp] theorem State.resumeSender_frame (sensors : StripSensors) (s : State) :
    (State.resumeSender sensors s).straps = s.straps ∧ (State.resumeSender sensors s).control = s.control ∧
    (State.resumeSender sensors s).loader = s.loader ∧ (State.resumeSender sensors s).heat = s.heat ∧
    (State.resumeSender sensors s).wire = s.wire ∧ (State.resumeSender sensors s).energy = s.energy ∧
    (State.resumeSender sensors s).pull = s.pull ∧ (State.resumeSender sensors s).elevator = s.elevator ∧
    (State.resumeSender sensors s).report = s.report ∧ (State.resumeSender sensors s).ports = s.ports ∧
    (State.resumeSender sensors s).pending = s.pending := by
  unfold State.resumeSender
  (repeat' split) <;> simp

@[simp] theorem State.answerOffer_frame (sender : Nat) (o : OfferPayload) (s : State) :
    (State.answerOffer sender o s).straps = s.straps ∧ (State.answerOffer sender o s).control = s.control ∧
    (State.answerOffer sender o s).alarms = s.alarms ∧ (State.answerOffer sender o s).loader = s.loader ∧
    (State.answerOffer sender o s).heat = s.heat ∧ (State.answerOffer sender o s).wire = s.wire ∧
    (State.answerOffer sender o s).energy = s.energy ∧ (State.answerOffer sender o s).pull = s.pull ∧
    (State.answerOffer sender o s).elevator = s.elevator ∧ (State.answerOffer sender o s).report = s.report ∧
    (State.answerOffer sender o s).ports = s.ports ∧ (State.answerOffer sender o s).pending = s.pending := by
  unfold State.answerOffer
  (repeat' split) <;> simp

@[simp] theorem State.takeRecordPart_frame (sender : Nat) (p : RecordPayload) (s : State) :
    (State.takeRecordPart sender p s).straps = s.straps ∧ (State.takeRecordPart sender p s).control = s.control ∧
    (State.takeRecordPart sender p s).alarms = s.alarms ∧ (State.takeRecordPart sender p s).line = s.line ∧
    (State.takeRecordPart sender p s).loader = s.loader ∧ (State.takeRecordPart sender p s).heat = s.heat ∧
    (State.takeRecordPart sender p s).wire = s.wire ∧ (State.takeRecordPart sender p s).energy = s.energy ∧
    (State.takeRecordPart sender p s).pull = s.pull ∧ (State.takeRecordPart sender p s).elevator = s.elevator ∧
    (State.takeRecordPart sender p s).report = s.report ∧ (State.takeRecordPart sender p s).screen = s.screen ∧
    (State.takeRecordPart sender p s).ports = s.ports ∧ (State.takeRecordPart sender p s).pending = s.pending := by
  unfold State.takeRecordPart
  (repeat' split) <;> simp

@[simp] theorem State.giveUpTransfer_frame (s : State) :
    (State.giveUpTransfer s).straps = s.straps ∧ (State.giveUpTransfer s).control = s.control ∧
    (State.giveUpTransfer s).loader = s.loader ∧ (State.giveUpTransfer s).heat = s.heat ∧
    (State.giveUpTransfer s).wire = s.wire ∧ (State.giveUpTransfer s).energy = s.energy ∧
    (State.giveUpTransfer s).pull = s.pull ∧ (State.giveUpTransfer s).elevator = s.elevator ∧
    (State.giveUpTransfer s).report = s.report ∧ (State.giveUpTransfer s).ports = s.ports ∧
    (State.giveUpTransfer s).pending = s.pending := by
  unfold State.giveUpTransfer
  simp

@[simp] theorem State.resumeReceiver_frame (s : State) :
    (State.resumeReceiver s).straps = s.straps ∧ (State.resumeReceiver s).control = s.control ∧
    (State.resumeReceiver s).loader = s.loader ∧ (State.resumeReceiver s).heat = s.heat ∧
    (State.resumeReceiver s).wire = s.wire ∧ (State.resumeReceiver s).energy = s.energy ∧
    (State.resumeReceiver s).pull = s.pull ∧ (State.resumeReceiver s).elevator = s.elevator ∧
    (State.resumeReceiver s).report = s.report ∧ (State.resumeReceiver s).ports = s.ports ∧
    (State.resumeReceiver s).pending = s.pending := by
  unfold State.resumeReceiver
  (repeat' split) <;> simp

@[simp] theorem State.takeUntracked_frame (serial : Serial) (lineSeq : Nat) (column : Nat) (s : State) :
    (State.takeUntracked serial lineSeq column s).straps = s.straps ∧
    (State.takeUntracked serial lineSeq column s).loader = s.loader ∧
    (State.takeUntracked serial lineSeq column s).heat = s.heat ∧
    (State.takeUntracked serial lineSeq column s).wire = s.wire ∧
    (State.takeUntracked serial lineSeq column s).energy = s.energy ∧
    (State.takeUntracked serial lineSeq column s).elevator = s.elevator ∧
    (State.takeUntracked serial lineSeq column s).report = s.report ∧
    (State.takeUntracked serial lineSeq column s).ports = s.ports ∧
    (State.takeUntracked serial lineSeq column s).pending = s.pending := by
  unfold State.takeUntracked
  simp

@[simp] theorem State.arriveReceiving_frame (k : KeptOffer) (a : RecordAssembly) (s : State) :
    (State.arriveReceiving k a s).straps = s.straps ∧ (State.arriveReceiving k a s).loader = s.loader ∧
    (State.arriveReceiving k a s).heat = s.heat ∧ (State.arriveReceiving k a s).wire = s.wire ∧
    (State.arriveReceiving k a s).energy = s.energy ∧ (State.arriveReceiving k a s).elevator = s.elevator ∧
    (State.arriveReceiving k a s).report = s.report ∧ (State.arriveReceiving k a s).ports = s.ports ∧
    (State.arriveReceiving k a s).pending = s.pending := by
  unfold State.arriveReceiving
  (repeat' split) <;> simp

@[simp] theorem State.arriveEmpty_frame (s : State) :
    (State.arriveEmpty s).straps = s.straps ∧ (State.arriveEmpty s).loader = s.loader ∧
    (State.arriveEmpty s).heat = s.heat ∧ (State.arriveEmpty s).wire = s.wire ∧
    (State.arriveEmpty s).energy = s.energy ∧ (State.arriveEmpty s).elevator = s.elevator ∧
    (State.arriveEmpty s).report = s.report ∧ (State.arriveEmpty s).ports = s.ports ∧
    (State.arriveEmpty s).pending = s.pending := by
  unfold State.arriveEmpty
  (repeat' split) <;> simp

@[simp] theorem State.handoffLeft_frame (s : State) :
    (State.handoffLeft s).straps = s.straps ∧ (State.handoffLeft s).control = s.control ∧
    (State.handoffLeft s).loader = s.loader ∧ (State.handoffLeft s).heat = s.heat ∧
    (State.handoffLeft s).wire = s.wire ∧ (State.handoffLeft s).energy = s.energy ∧
    (State.handoffLeft s).pull = s.pull ∧ (State.handoffLeft s).elevator = s.elevator ∧
    (State.handoffLeft s).report = s.report ∧ (State.handoffLeft s).ports = s.ports ∧
    (State.handoffLeft s).pending = s.pending := by
  unfold State.handoffLeft
  (repeat' split) <;> simp

@[simp] theorem State.restartStage_frame (s : State) :
    (State.restartStage s).straps = s.straps ∧ (State.restartStage s).control = s.control ∧
    (State.restartStage s).loader = s.loader ∧ (State.restartStage s).heat = s.heat ∧
    (State.restartStage s).wire = s.wire ∧ (State.restartStage s).energy = s.energy ∧
    (State.restartStage s).pull = s.pull ∧ (State.restartStage s).elevator = s.elevator ∧
    (State.restartStage s).report = s.report ∧ (State.restartStage s).ports = s.ports ∧
    (State.restartStage s).pending = s.pending := by
  unfold State.restartStage
  dsimp only
  (repeat' split) <;> simp

/-! ## Heat -/

@[simp] theorem State.judgePause_frame (fresh : Option Nat) (s : State) :
    (State.judgePause fresh s).straps = s.straps ∧ (State.judgePause fresh s).loader = s.loader ∧
    (State.judgePause fresh s).stage = s.stage ∧ (State.judgePause fresh s).wire = s.wire ∧
    (State.judgePause fresh s).energy = s.energy ∧ (State.judgePause fresh s).pull = s.pull ∧
    (State.judgePause fresh s).elevator = s.elevator ∧ (State.judgePause fresh s).report = s.report ∧
    (State.judgePause fresh s).ports = s.ports ∧ (State.judgePause fresh s).pending = s.pending := by
  unfold State.judgePause
  (repeat' split) <;> simp

@[simp] theorem State.judgeSensor_frame (z : Nat) (s : State) :
    (State.judgeSensor z s).straps = s.straps ∧ (State.judgeSensor z s).loader = s.loader ∧
    (State.judgeSensor z s).stage = s.stage ∧ (State.judgeSensor z s).heat = s.heat ∧
    (State.judgeSensor z s).wire = s.wire ∧ (State.judgeSensor z s).energy = s.energy ∧
    (State.judgeSensor z s).pull = s.pull ∧ (State.judgeSensor z s).elevator = s.elevator ∧
    (State.judgeSensor z s).report = s.report ∧ (State.judgeSensor z s).ports = s.ports ∧
    (State.judgeSensor z s).pending = s.pending := by
  unfold State.judgeSensor
  (repeat' split) <;> simp

@[simp] theorem State.judgeZone_frame (z : Nat) (s : State) :
    (State.judgeZone z s).straps = s.straps ∧ (State.judgeZone z s).loader = s.loader ∧
    (State.judgeZone z s).stage = s.stage ∧ (State.judgeZone z s).wire = s.wire ∧
    (State.judgeZone z s).energy = s.energy ∧ (State.judgeZone z s).pull = s.pull ∧
    (State.judgeZone z s).elevator = s.elevator ∧ (State.judgeZone z s).report = s.report ∧
    (State.judgeZone z s).ports = s.ports ∧ (State.judgeZone z s).pending = s.pending := by
  unfold State.judgeZone
  simp

@[simp] theorem State.judgeAllZones_frame (s : State) :
    (State.judgeAllZones s).straps = s.straps ∧ (State.judgeAllZones s).loader = s.loader ∧
    (State.judgeAllZones s).stage = s.stage ∧ (State.judgeAllZones s).wire = s.wire ∧
    (State.judgeAllZones s).energy = s.energy ∧ (State.judgeAllZones s).pull = s.pull ∧
    (State.judgeAllZones s).elevator = s.elevator ∧ (State.judgeAllZones s).report = s.report ∧
    (State.judgeAllZones s).ports = s.ports ∧ (State.judgeAllZones s).pending = s.pending := by
  unfold State.judgeAllZones
  dsimp only
  (repeat' split) <;> simp

/-! ## Bonds and trims -/

@[simp] theorem State.startBond_frame (c : Nat) (side : Side) (contactZ : Int) (s : State) :
    (State.startBond c side contactZ s).straps = s.straps ∧
    (State.startBond c side contactZ s).control = s.control ∧
    (State.startBond c side contactZ s).alarms = s.alarms ∧ (State.startBond c side contactZ s).line = s.line ∧
    (State.startBond c side contactZ s).loader = s.loader ∧ (State.startBond c side contactZ s).stage = s.stage ∧
    (State.startBond c side contactZ s).heat = s.heat ∧ (State.startBond c side contactZ s).wire = s.wire ∧
    (State.startBond c side contactZ s).pull = s.pull ∧ (State.startBond c side contactZ s).elevator = s.elevator ∧
    (State.startBond c side contactZ s).report = s.report ∧ (State.startBond c side contactZ s).screen = s.screen ∧
    (State.startBond c side contactZ s).pending = s.pending := by
  unfold State.startBond
  exact ⟨rfl, rfl, rfl, rfl, rfl, rfl, rfl, rfl, rfl, rfl, rfl, rfl, rfl⟩

@[simp] theorem State.askSuspect_frame (u : Nat) (w : Nat) (cause : SuspectCause) (s : State) :
    (State.askSuspect u w cause s).straps = s.straps ∧ (State.askSuspect u w cause s).loader = s.loader ∧
    (State.askSuspect u w cause s).heat = s.heat ∧ (State.askSuspect u w cause s).wire = s.wire ∧
    (State.askSuspect u w cause s).energy = s.energy ∧ (State.askSuspect u w cause s).pull = s.pull ∧
    (State.askSuspect u w cause s).elevator = s.elevator ∧ (State.askSuspect u w cause s).report = s.report ∧
    (State.askSuspect u w cause s).ports = s.ports ∧ (State.askSuspect u w cause s).pending = s.pending := by
  unfold State.askSuspect
  (repeat' split) <;> simp

@[simp] theorem State.bondConsequence_frame (o : BondOutcome) (saturated : Bool) (u : Nat) (w : Nat) (s : State) :
    (State.bondConsequence o saturated u w s).straps = s.straps ∧
    (State.bondConsequence o saturated u w s).loader = s.loader ∧
    (State.bondConsequence o saturated u w s).heat = s.heat ∧
    (State.bondConsequence o saturated u w s).energy = s.energy ∧
    (State.bondConsequence o saturated u w s).pull = s.pull ∧
    (State.bondConsequence o saturated u w s).elevator = s.elevator ∧
    (State.bondConsequence o saturated u w s).report = s.report ∧
    (State.bondConsequence o saturated u w s).ports = s.ports ∧
    (State.bondConsequence o saturated u w s).pending = s.pending := by
  unfold State.bondConsequence
  (repeat' split) <;> simp

@[simp] theorem State.closeBond_frame (b : Bond) (o : BondOutcome) (s : State) :
    (State.closeBond b o s).straps = s.straps ∧ (State.closeBond b o s).control = s.control ∧
    (State.closeBond b o s).alarms = s.alarms ∧ (State.closeBond b o s).line = s.line ∧
    (State.closeBond b o s).loader = s.loader ∧ (State.closeBond b o s).stage = s.stage ∧
    (State.closeBond b o s).heat = s.heat ∧ (State.closeBond b o s).wire = s.wire ∧
    (State.closeBond b o s).pull = s.pull ∧ (State.closeBond b o s).elevator = s.elevator ∧
    (State.closeBond b o s).report = s.report ∧ (State.closeBond b o s).screen = s.screen ∧
    (State.closeBond b o s).pending = s.pending := by
  unfold State.closeBond
  exact ⟨rfl, rfl, rfl, rfl, rfl, rfl, rfl, rfl, rfl, rfl, rfl, rfl, rfl⟩

@[simp] theorem State.afterBond_frame (side : Side) (f : WireInFlight) (s : State) :
    (State.afterBond side f s).straps = s.straps ∧ (State.afterBond side f s).control = s.control ∧
    (State.afterBond side f s).alarms = s.alarms ∧ (State.afterBond side f s).line = s.line ∧
    (State.afterBond side f s).loader = s.loader ∧ (State.afterBond side f s).stage = s.stage ∧
    (State.afterBond side f s).heat = s.heat ∧ (State.afterBond side f s).energy = s.energy ∧
    (State.afterBond side f s).pull = s.pull ∧ (State.afterBond side f s).elevator = s.elevator ∧
    (State.afterBond side f s).report = s.report ∧ (State.afterBond side f s).screen = s.screen ∧
    (State.afterBond side f s).pending = s.pending := by
  unfold State.afterBond
  (repeat' split) <;> simp

@[simp] theorem State.updateTrims_frame (r : PullResult) (s : State) :
    (State.updateTrims r s).straps = s.straps ∧ (State.updateTrims r s).loader = s.loader ∧
    (State.updateTrims r s).stage = s.stage ∧ (State.updateTrims r s).heat = s.heat ∧
    (State.updateTrims r s).wire = s.wire ∧ (State.updateTrims r s).pull = s.pull ∧
    (State.updateTrims r s).elevator = s.elevator ∧ (State.updateTrims r s).report = s.report ∧
    (State.updateTrims r s).ports = s.ports ∧ (State.updateTrims r s).pending = s.pending := by
  unfold State.updateTrims
  dsimp only
  (repeat' split) <;> simp

@[simp] theorem State.learnResult_frame (r : PullResult) (s : State) :
    (State.learnResult r s).straps = s.straps ∧ (State.learnResult r s).loader = s.loader ∧
    (State.learnResult r s).stage = s.stage ∧ (State.learnResult r s).heat = s.heat ∧
    (State.learnResult r s).wire = s.wire ∧ (State.learnResult r s).pull = s.pull ∧
    (State.learnResult r s).elevator = s.elevator ∧ (State.learnResult r s).report = s.report ∧
    (State.learnResult r s).ports = s.ports ∧ (State.learnResult r s).pending = s.pending := by
  unfold State.learnResult
  (repeat' split) <;> simp

/-! ## The wire cycle -/

@[simp] theorem State.enterToFirst_frame (f : WireInFlight) (s : State) :
    (State.enterToFirst f s).straps = s.straps ∧ (State.enterToFirst f s).control = s.control ∧
    (State.enterToFirst f s).alarms = s.alarms ∧ (State.enterToFirst f s).line = s.line ∧
    (State.enterToFirst f s).loader = s.loader ∧ (State.enterToFirst f s).stage = s.stage ∧
    (State.enterToFirst f s).heat = s.heat ∧ (State.enterToFirst f s).energy = s.energy ∧
    (State.enterToFirst f s).pull = s.pull ∧ (State.enterToFirst f s).elevator = s.elevator ∧
    (State.enterToFirst f s).report = s.report ∧ (State.enterToFirst f s).screen = s.screen ∧
    (State.enterToFirst f s).pending = s.pending := by
  unfold State.enterToFirst
  exact ⟨rfl, rfl, rfl, rfl, rfl, rfl, rfl, rfl, rfl, rfl, rfl, rfl, rfl⟩

@[simp] theorem State.enterLead_frame (f : WireInFlight) (s : State) :
    (State.enterLead f s).straps = s.straps ∧ (State.enterLead f s).control = s.control ∧
    (State.enterLead f s).alarms = s.alarms ∧ (State.enterLead f s).line = s.line ∧
    (State.enterLead f s).loader = s.loader ∧ (State.enterLead f s).stage = s.stage ∧
    (State.enterLead f s).heat = s.heat ∧ (State.enterLead f s).energy = s.energy ∧
    (State.enterLead f s).pull = s.pull ∧ (State.enterLead f s).elevator = s.elevator ∧
    (State.enterLead f s).report = s.report ∧ (State.enterLead f s).screen = s.screen ∧
    (State.enterLead f s).pending = s.pending := by
  unfold State.enterLead
  exact ⟨rfl, rfl, rfl, rfl, rfl, rfl, rfl, rfl, rfl, rfl, rfl, rfl, rfl⟩

@[simp] theorem State.wireIdle_frame (s : State) :
    (State.wireIdle s).straps = s.straps ∧ (State.wireIdle s).control = s.control ∧
    (State.wireIdle s).alarms = s.alarms ∧ (State.wireIdle s).line = s.line ∧ (State.wireIdle s).loader = s.loader ∧
    (State.wireIdle s).stage = s.stage ∧ (State.wireIdle s).heat = s.heat ∧ (State.wireIdle s).energy = s.energy ∧
    (State.wireIdle s).pull = s.pull ∧ (State.wireIdle s).elevator = s.elevator ∧
    (State.wireIdle s).report = s.report ∧ (State.wireIdle s).screen = s.screen ∧
    (State.wireIdle s).ports = s.ports ∧ (State.wireIdle s).pending = s.pending := by
  unfold State.wireIdle
  exact ⟨rfl, rfl, rfl, rfl, rfl, rfl, rfl, rfl, rfl, rfl, rfl, rfl, rfl, rfl⟩

@[simp] theorem State.startCut_frame (s : State) :
    (State.startCut s).straps = s.straps ∧ (State.startCut s).control = s.control ∧
    (State.startCut s).alarms = s.alarms ∧ (State.startCut s).line = s.line ∧ (State.startCut s).loader = s.loader ∧
    (State.startCut s).stage = s.stage ∧ (State.startCut s).heat = s.heat ∧ (State.startCut s).energy = s.energy ∧
    (State.startCut s).pull = s.pull ∧ (State.startCut s).elevator = s.elevator ∧
    (State.startCut s).report = s.report ∧ (State.startCut s).screen = s.screen ∧
    (State.startCut s).pending = s.pending := by
  unfold State.startCut
  exact ⟨rfl, rfl, rfl, rfl, rfl, rfl, rfl, rfl, rfl, rfl, rfl, rfl, rfl⟩

@[simp] theorem State.flameDone_frame (spark : Bool) (s : State) :
    (State.flameDone spark s).straps = s.straps ∧ (State.flameDone spark s).control = s.control ∧
    (State.flameDone spark s).alarms = s.alarms ∧ (State.flameDone spark s).line = s.line ∧
    (State.flameDone spark s).loader = s.loader ∧ (State.flameDone spark s).stage = s.stage ∧
    (State.flameDone spark s).heat = s.heat ∧ (State.flameDone spark s).energy = s.energy ∧
    (State.flameDone spark s).pull = s.pull ∧ (State.flameDone spark s).elevator = s.elevator ∧
    (State.flameDone spark s).report = s.report ∧ (State.flameDone spark s).screen = s.screen ∧
    (State.flameDone spark s).pending = s.pending := by
  unfold State.flameDone
  exact ⟨rfl, rfl, rfl, rfl, rfl, rfl, rfl, rfl, rfl, rfl, rfl, rfl, rfl⟩

@[simp] theorem State.startSearch_frame (c : Nat) (side : Side) (cycle : WireCycle) (s : State) :
    (State.startSearch c side cycle s).straps = s.straps ∧ (State.startSearch c side cycle s).control = s.control ∧
    (State.startSearch c side cycle s).alarms = s.alarms ∧ (State.startSearch c side cycle s).line = s.line ∧
    (State.startSearch c side cycle s).loader = s.loader ∧ (State.startSearch c side cycle s).stage = s.stage ∧
    (State.startSearch c side cycle s).heat = s.heat ∧ (State.startSearch c side cycle s).energy = s.energy ∧
    (State.startSearch c side cycle s).pull = s.pull ∧ (State.startSearch c side cycle s).elevator = s.elevator ∧
    (State.startSearch c side cycle s).report = s.report ∧ (State.startSearch c side cycle s).screen = s.screen ∧
    (State.startSearch c side cycle s).pending = s.pending := by
  unfold State.startSearch
  exact ⟨rfl, rfl, rfl, rfl, rfl, rfl, rfl, rfl, rfl, rfl, rfl, rfl, rfl⟩

@[simp] theorem State.startLoop_frame (f : WireInFlight) (s : State) :
    (State.startLoop f s).straps = s.straps ∧ (State.startLoop f s).control = s.control ∧
    (State.startLoop f s).alarms = s.alarms ∧ (State.startLoop f s).line = s.line ∧
    (State.startLoop f s).loader = s.loader ∧ (State.startLoop f s).stage = s.stage ∧
    (State.startLoop f s).heat = s.heat ∧ (State.startLoop f s).energy = s.energy ∧
    (State.startLoop f s).pull = s.pull ∧ (State.startLoop f s).elevator = s.elevator ∧
    (State.startLoop f s).report = s.report ∧ (State.startLoop f s).screen = s.screen ∧
    (State.startLoop f s).pending = s.pending := by
  unfold State.startLoop
  exact ⟨rfl, rfl, rfl, rfl, rfl, rfl, rfl, rfl, rfl, rfl, rfl, rfl, rfl⟩

@[simp] theorem State.startTear_frame (s : State) :
    (State.startTear s).straps = s.straps ∧ (State.startTear s).control = s.control ∧
    (State.startTear s).alarms = s.alarms ∧ (State.startTear s).line = s.line ∧
    (State.startTear s).loader = s.loader ∧ (State.startTear s).stage = s.stage ∧
    (State.startTear s).heat = s.heat ∧ (State.startTear s).energy = s.energy ∧ (State.startTear s).pull = s.pull ∧
    (State.startTear s).elevator = s.elevator ∧ (State.startTear s).report = s.report ∧
    (State.startTear s).screen = s.screen ∧ (State.startTear s).pending = s.pending := by
  unfold State.startTear
  exact ⟨rfl, rfl, rfl, rfl, rfl, rfl, rfl, rfl, rfl, rfl, rfl, rfl, rfl⟩

/-! ## Pulls -/

@[simp] theorem State.moveToWire_frame (p : Program) (c : PullChoice) (s : State) :
    (State.moveToWire p c s).straps = s.straps ∧ (State.moveToWire p c s).control = s.control ∧
    (State.moveToWire p c s).alarms = s.alarms ∧ (State.moveToWire p c s).line = s.line ∧
    (State.moveToWire p c s).loader = s.loader ∧ (State.moveToWire p c s).stage = s.stage ∧
    (State.moveToWire p c s).heat = s.heat ∧ (State.moveToWire p c s).wire = s.wire ∧
    (State.moveToWire p c s).energy = s.energy ∧ (State.moveToWire p c s).pull = s.pull ∧
    (State.moveToWire p c s).elevator = s.elevator ∧ (State.moveToWire p c s).report = s.report ∧
    (State.moveToWire p c s).screen = s.screen ∧ (State.moveToWire p c s).pending = s.pending := by
  unfold State.moveToWire
  exact ⟨rfl, rfl, rfl, rfl, rfl, rfl, rfl, rfl, rfl, rfl, rfl, rfl, rfl, rfl⟩

@[simp] theorem State.enterPair_frame (x : PullResult) (s : State) :
    (State.enterPair x s).straps = s.straps ∧ (State.enterPair x s).control = s.control ∧
    (State.enterPair x s).alarms = s.alarms ∧ (State.enterPair x s).line = s.line ∧
    (State.enterPair x s).loader = s.loader ∧ (State.enterPair x s).stage = s.stage ∧
    (State.enterPair x s).heat = s.heat ∧ (State.enterPair x s).wire = s.wire ∧
    (State.enterPair x s).energy = s.energy ∧ (State.enterPair x s).elevator = s.elevator ∧
    (State.enterPair x s).report = s.report ∧ (State.enterPair x s).screen = s.screen ∧
    (State.enterPair x s).ports = s.ports ∧ (State.enterPair x s).pending = s.pending := by
  unfold State.enterPair
  exact ⟨rfl, rfl, rfl, rfl, rfl, rfl, rfl, rfl, rfl, rfl, rfl, rfl, rfl, rfl⟩

@[simp] theorem State.markUnit_frame (x : PullResult) (s : State) :
    (State.markUnit x s).straps = s.straps ∧ (State.markUnit x s).control = s.control ∧
    (State.markUnit x s).alarms = s.alarms ∧ (State.markUnit x s).line = s.line ∧
    (State.markUnit x s).loader = s.loader ∧ (State.markUnit x s).heat = s.heat ∧
    (State.markUnit x s).wire = s.wire ∧ (State.markUnit x s).energy = s.energy ∧
    (State.markUnit x s).pull = s.pull ∧ (State.markUnit x s).elevator = s.elevator ∧
    (State.markUnit x s).report = s.report ∧ (State.markUnit x s).ports = s.ports ∧
    (State.markUnit x s).pending = s.pending := by
  unfold State.markUnit
  (repeat' split) <;> simp

@[simp] theorem State.settleConfirm_frame (x : PullResult) (s : State) :
    (State.settleConfirm x s).straps = s.straps ∧ (State.settleConfirm x s).loader = s.loader ∧
    (State.settleConfirm x s).stage = s.stage ∧ (State.settleConfirm x s).heat = s.heat ∧
    (State.settleConfirm x s).wire = s.wire ∧ (State.settleConfirm x s).energy = s.energy ∧
    (State.settleConfirm x s).elevator = s.elevator ∧ (State.settleConfirm x s).report = s.report ∧
    (State.settleConfirm x s).ports = s.ports ∧ (State.settleConfirm x s).pending = s.pending := by
  unfold State.settleConfirm
  (repeat' split) <;> simp

@[simp] theorem State.countHookMiss_frame (x : PullResult) (s : State) :
    (State.countHookMiss x s).straps = s.straps ∧ (State.countHookMiss x s).loader = s.loader ∧
    (State.countHookMiss x s).stage = s.stage ∧ (State.countHookMiss x s).heat = s.heat ∧
    (State.countHookMiss x s).wire = s.wire ∧ (State.countHookMiss x s).energy = s.energy ∧
    (State.countHookMiss x s).elevator = s.elevator ∧ (State.countHookMiss x s).report = s.report ∧
    (State.countHookMiss x s).ports = s.ports ∧ (State.countHookMiss x s).pending = s.pending := by
  unfold State.countHookMiss
  (repeat' split) <;> simp

@[simp] theorem State.enterLogs_frame (x : PullResult) (s : State) :
    (State.enterLogs x s).straps = s.straps ∧ (State.enterLogs x s).control = s.control ∧
    (State.enterLogs x s).alarms = s.alarms ∧ (State.enterLogs x s).line = s.line ∧
    (State.enterLogs x s).loader = s.loader ∧ (State.enterLogs x s).stage = s.stage ∧
    (State.enterLogs x s).heat = s.heat ∧ (State.enterLogs x s).wire = s.wire ∧
    (State.enterLogs x s).energy = s.energy ∧ (State.enterLogs x s).elevator = s.elevator ∧
    (State.enterLogs x s).report = s.report ∧ (State.enterLogs x s).screen = s.screen ∧
    (State.enterLogs x s).ports = s.ports ∧ (State.enterLogs x s).pending = s.pending := by
  unfold State.enterLogs
  exact ⟨rfl, rfl, rfl, rfl, rfl, rfl, rfl, rfl, rfl, rfl, rfl, rfl, rfl, rfl⟩

@[simp] theorem State.sendResult_frame (x : PullResult) (s : State) :
    (State.sendResult x s).straps = s.straps ∧ (State.sendResult x s).loader = s.loader ∧
    (State.sendResult x s).stage = s.stage ∧ (State.sendResult x s).heat = s.heat ∧
    (State.sendResult x s).wire = s.wire ∧ (State.sendResult x s).energy = s.energy ∧
    (State.sendResult x s).pull = s.pull ∧ (State.sendResult x s).elevator = s.elevator ∧
    (State.sendResult x s).ports = s.ports ∧ (State.sendResult x s).pending = s.pending := by
  unfold State.sendResult
  (repeat' split) <;> simp

@[simp] theorem State.makeResult_frame (x : PullResult) (s : State) :
    (State.makeResult x s).straps = s.straps ∧ (State.makeResult x s).loader = s.loader ∧
    (State.makeResult x s).heat = s.heat ∧ (State.makeResult x s).wire = s.wire ∧
    (State.makeResult x s).energy = s.energy ∧ (State.makeResult x s).elevator = s.elevator ∧
    (State.makeResult x s).ports = s.ports ∧ (State.makeResult x s).pending = s.pending := by
  unfold State.makeResult
  simp

@[simp] theorem State.enterReleasing_frame (f : PullInFlight) (s : State) :
    (State.enterReleasing f s).straps = s.straps ∧ (State.enterReleasing f s).control = s.control ∧
    (State.enterReleasing f s).alarms = s.alarms ∧ (State.enterReleasing f s).line = s.line ∧
    (State.enterReleasing f s).loader = s.loader ∧ (State.enterReleasing f s).stage = s.stage ∧
    (State.enterReleasing f s).heat = s.heat ∧ (State.enterReleasing f s).wire = s.wire ∧
    (State.enterReleasing f s).energy = s.energy ∧ (State.enterReleasing f s).elevator = s.elevator ∧
    (State.enterReleasing f s).report = s.report ∧ (State.enterReleasing f s).screen = s.screen ∧
    (State.enterReleasing f s).pending = s.pending := by
  unfold State.enterReleasing
  exact ⟨rfl, rfl, rfl, rfl, rfl, rfl, rfl, rfl, rfl, rfl, rfl, rfl, rfl⟩

@[simp] theorem State.decidePull_frame (f : PullInFlight) (o : PullOutcome) (b : BreakCode) (s : State) :
    (State.decidePull f o b s).straps = s.straps ∧ (State.decidePull f o b s).loader = s.loader ∧
    (State.decidePull f o b s).heat = s.heat ∧ (State.decidePull f o b s).wire = s.wire ∧
    (State.decidePull f o b s).energy = s.energy ∧ (State.decidePull f o b s).elevator = s.elevator ∧
    (State.decidePull f o b s).pending = s.pending := by
  unfold State.decidePull
  (repeat' split) <;> simp

@[simp] theorem State.judgePullSample_frame (f : PullInFlight) (locator : LocatorCode) (s : State) :
    (State.judgePullSample f locator s).straps = s.straps ∧ (State.judgePullSample f locator s).loader = s.loader ∧
    (State.judgePullSample f locator s).heat = s.heat ∧ (State.judgePullSample f locator s).wire = s.wire ∧
    (State.judgePullSample f locator s).energy = s.energy ∧
    (State.judgePullSample f locator s).elevator = s.elevator ∧
    (State.judgePullSample f locator s).pending = s.pending := by
  unfold State.judgePullSample
  (repeat' split) <;> simp

/-! ## The line bus -/

@[simp] theorem State.heardBy_frame (s : State) :
    (State.heardBy s).straps = s.straps ∧ (State.heardBy s).control = s.control ∧
    (State.heardBy s).loader = s.loader ∧ (State.heardBy s).stage = s.stage ∧ (State.heardBy s).heat = s.heat ∧
    (State.heardBy s).wire = s.wire ∧ (State.heardBy s).energy = s.energy ∧ (State.heardBy s).pull = s.pull ∧
    (State.heardBy s).elevator = s.elevator ∧ (State.heardBy s).report = s.report ∧
    (State.heardBy s).ports = s.ports ∧ (State.heardBy s).pending = s.pending := by
  unfold State.heardBy
  dsimp only
  (repeat' split) <;> simp

@[simp] theorem State.unheardBy_frame (s : State) :
    (State.unheardBy s).straps = s.straps ∧ (State.unheardBy s).loader = s.loader ∧
    (State.unheardBy s).stage = s.stage ∧ (State.unheardBy s).heat = s.heat ∧ (State.unheardBy s).wire = s.wire ∧
    (State.unheardBy s).energy = s.energy ∧ (State.unheardBy s).pull = s.pull ∧
    (State.unheardBy s).elevator = s.elevator ∧ (State.unheardBy s).report = s.report ∧
    (State.unheardBy s).ports = s.ports ∧ (State.unheardBy s).pending = s.pending := by
  unfold State.unheardBy
  dsimp only
  (repeat' split) <;> simp

@[simp] theorem State.notePartLeft_frame (e : TxEntry) (s : State) :
    (State.notePartLeft e s).straps = s.straps ∧ (State.notePartLeft e s).control = s.control ∧
    (State.notePartLeft e s).alarms = s.alarms ∧ (State.notePartLeft e s).line = s.line ∧
    (State.notePartLeft e s).loader = s.loader ∧ (State.notePartLeft e s).heat = s.heat ∧
    (State.notePartLeft e s).wire = s.wire ∧ (State.notePartLeft e s).energy = s.energy ∧
    (State.notePartLeft e s).pull = s.pull ∧ (State.notePartLeft e s).elevator = s.elevator ∧
    (State.notePartLeft e s).report = s.report ∧ (State.notePartLeft e s).screen = s.screen ∧
    (State.notePartLeft e s).ports = s.ports ∧ (State.notePartLeft e s).pending = s.pending := by
  unfold State.notePartLeft
  (repeat' split) <;> simp

@[simp] theorem State.noteJoined_frame (e : TxEntry) (s : State) :
    (State.noteJoined e s).straps = s.straps ∧ (State.noteJoined e s).loader = s.loader ∧
    (State.noteJoined e s).stage = s.stage ∧ (State.noteJoined e s).heat = s.heat ∧
    (State.noteJoined e s).wire = s.wire ∧ (State.noteJoined e s).energy = s.energy ∧
    (State.noteJoined e s).pull = s.pull ∧ (State.noteJoined e s).elevator = s.elevator ∧
    (State.noteJoined e s).ports = s.ports ∧ (State.noteJoined e s).pending = s.pending := by
  unfold State.noteJoined
  (repeat' split) <;> simp

/-! ## The receive path -/

@[simp] theorem State.answer_frame (ack : Bool) (s : State) :
    (State.answer ack s).straps = s.straps ∧ (State.answer ack s).control = s.control ∧
    (State.answer ack s).alarms = s.alarms ∧ (State.answer ack s).loader = s.loader ∧
    (State.answer ack s).stage = s.stage ∧ (State.answer ack s).heat = s.heat ∧ (State.answer ack s).wire = s.wire ∧
    (State.answer ack s).energy = s.energy ∧ (State.answer ack s).pull = s.pull ∧
    (State.answer ack s).elevator = s.elevator ∧ (State.answer ack s).report = s.report ∧
    (State.answer ack s).screen = s.screen ∧ (State.answer ack s).ports = s.ports ∧
    (State.answer ack s).pending = s.pending := by
  unfold State.answer
  exact ⟨rfl, rfl, rfl, rfl, rfl, rfl, rfl, rfl, rfl, rfl, rfl, rfl, rfl, rfl⟩

@[simp] theorem State.duplicate_frame (s : State) :
    (State.duplicate s).straps = s.straps ∧ (State.duplicate s).loader = s.loader ∧
    (State.duplicate s).heat = s.heat ∧ (State.duplicate s).report = s.report ∧
    (State.duplicate s).pending = s.pending := by
  unfold State.duplicate
  (repeat' split) <;> simp

@[simp] theorem State.setRoster_frame (k : Nat) (e : RosterEntry) (s : State) :
    (State.setRoster k e s).straps = s.straps ∧ (State.setRoster k e s).control = s.control ∧
    (State.setRoster k e s).alarms = s.alarms ∧ (State.setRoster k e s).loader = s.loader ∧
    (State.setRoster k e s).stage = s.stage ∧ (State.setRoster k e s).heat = s.heat ∧
    (State.setRoster k e s).wire = s.wire ∧ (State.setRoster k e s).energy = s.energy ∧
    (State.setRoster k e s).pull = s.pull ∧ (State.setRoster k e s).elevator = s.elevator ∧
    (State.setRoster k e s).report = s.report ∧ (State.setRoster k e s).ports = s.ports ∧
    (State.setRoster k e s).pending = s.pending := by
  unfold State.setRoster
  (repeat' split) <;> simp

@[simp] theorem State.sendSummary_frame (s : State) :
    (State.sendSummary s).straps = s.straps ∧ (State.sendSummary s).control = s.control ∧
    (State.sendSummary s).alarms = s.alarms ∧ (State.sendSummary s).loader = s.loader ∧
    (State.sendSummary s).stage = s.stage ∧ (State.sendSummary s).heat = s.heat ∧
    (State.sendSummary s).wire = s.wire ∧ (State.sendSummary s).energy = s.energy ∧
    (State.sendSummary s).pull = s.pull ∧ (State.sendSummary s).elevator = s.elevator ∧
    (State.sendSummary s).report = s.report ∧ (State.sendSummary s).screen = s.screen ∧
    (State.sendSummary s).ports = s.ports ∧ (State.sendSummary s).pending = s.pending := by
  unfold State.sendSummary
  (repeat' split) <;> simp

@[simp] theorem State.answerPresent_frame (wasAbsent : Bool) (known : List Nat) (s : State) :
    (State.answerPresent wasAbsent known s).straps = s.straps ∧
    (State.answerPresent wasAbsent known s).control = s.control ∧
    (State.answerPresent wasAbsent known s).alarms = s.alarms ∧
    (State.answerPresent wasAbsent known s).loader = s.loader ∧
    (State.answerPresent wasAbsent known s).stage = s.stage ∧
    (State.answerPresent wasAbsent known s).heat = s.heat ∧ (State.answerPresent wasAbsent known s).wire = s.wire ∧
    (State.answerPresent wasAbsent known s).energy = s.energy ∧
    (State.answerPresent wasAbsent known s).pull = s.pull ∧
    (State.answerPresent wasAbsent known s).elevator = s.elevator ∧
    (State.answerPresent wasAbsent known s).report = s.report ∧
    (State.answerPresent wasAbsent known s).screen = s.screen ∧
    (State.answerPresent wasAbsent known s).ports = s.ports ∧
    (State.answerPresent wasAbsent known s).pending = s.pending := by
  unfold State.answerPresent
  (repeat' split) <;> simp

@[simp] theorem State.rosterHeard_frame (k : Nat) (s : State) :
    (State.rosterHeard k s).straps = s.straps ∧ (State.rosterHeard k s).loader = s.loader ∧
    (State.rosterHeard k s).heat = s.heat ∧ (State.rosterHeard k s).report = s.report ∧
    (State.rosterHeard k s).pending = s.pending := by
  unfold State.rosterHeard
  dsimp only
  (repeat' split) <;> simp

@[simp] theorem State.stageHears_frame (sender : Nat) (p : StatePayload) (s : State) :
    (State.stageHears sender p s).straps = s.straps ∧ (State.stageHears sender p s).control = s.control ∧
    (State.stageHears sender p s).alarms = s.alarms ∧ (State.stageHears sender p s).loader = s.loader ∧
    (State.stageHears sender p s).heat = s.heat ∧ (State.stageHears sender p s).wire = s.wire ∧
    (State.stageHears sender p s).energy = s.energy ∧ (State.stageHears sender p s).pull = s.pull ∧
    (State.stageHears sender p s).elevator = s.elevator ∧ (State.stageHears sender p s).report = s.report ∧
    (State.stageHears sender p s).screen = s.screen ∧ (State.stageHears sender p s).ports = s.ports ∧
    (State.stageHears sender p s).pending = s.pending := by
  unfold State.stageHears
  (repeat' split) <;> simp

@[simp] theorem State.mirrorFromState_frame (sender : Nat) (p : StatePayload) (s : State) :
    (State.mirrorFromState sender p s).straps = s.straps ∧ (State.mirrorFromState sender p s).control = s.control ∧
    (State.mirrorFromState sender p s).loader = s.loader ∧ (State.mirrorFromState sender p s).stage = s.stage ∧
    (State.mirrorFromState sender p s).heat = s.heat ∧ (State.mirrorFromState sender p s).wire = s.wire ∧
    (State.mirrorFromState sender p s).energy = s.energy ∧ (State.mirrorFromState sender p s).pull = s.pull ∧
    (State.mirrorFromState sender p s).elevator = s.elevator ∧
    (State.mirrorFromState sender p s).report = s.report ∧ (State.mirrorFromState sender p s).ports = s.ports ∧
    (State.mirrorFromState sender p s).pending = s.pending := by
  unfold State.mirrorFromState
  (repeat' split) <;> simp

/-! ## The panel -/

@[simp] theorem State.pressKey_frame (k : ChordKey) (s : State) :
    (State.pressKey k s).straps = s.straps ∧ (State.pressKey k s).control = s.control ∧
    (State.pressKey k s).alarms = s.alarms ∧ (State.pressKey k s).line = s.line ∧
    (State.pressKey k s).loader = s.loader ∧ (State.pressKey k s).stage = s.stage ∧
    (State.pressKey k s).heat = s.heat ∧ (State.pressKey k s).wire = s.wire ∧
    (State.pressKey k s).energy = s.energy ∧ (State.pressKey k s).pull = s.pull ∧
    (State.pressKey k s).elevator = s.elevator ∧ (State.pressKey k s).report = s.report ∧
    (State.pressKey k s).ports = s.ports ∧ (State.pressKey k s).pending = s.pending := by
  unfold State.pressKey
  exact ⟨rfl, rfl, rfl, rfl, rfl, rfl, rfl, rfl, rfl, rfl, rfl, rfl, rfl, rfl⟩

@[simp] theorem State.waiveDebit_frame (s : State) :
    (State.waiveDebit s).straps = s.straps ∧ (State.waiveDebit s).control = s.control ∧
    (State.waiveDebit s).alarms = s.alarms ∧ (State.waiveDebit s).line = s.line ∧
    (State.waiveDebit s).loader = s.loader ∧ (State.waiveDebit s).stage = s.stage ∧
    (State.waiveDebit s).heat = s.heat ∧ (State.waiveDebit s).energy = s.energy ∧
    (State.waiveDebit s).pull = s.pull ∧ (State.waiveDebit s).elevator = s.elevator ∧
    (State.waiveDebit s).report = s.report ∧ (State.waiveDebit s).screen = s.screen ∧
    (State.waiveDebit s).ports = s.ports ∧ (State.waiveDebit s).pending = s.pending := by
  unfold State.waiveDebit
  (repeat' split) <;> simp

@[simp] theorem State.endCondition_frame (source : Nat) (s : State) :
    (State.endCondition source s).straps = s.straps ∧ (State.endCondition source s).control = s.control ∧
    (State.endCondition source s).loader = s.loader ∧ (State.endCondition source s).stage = s.stage ∧
    (State.endCondition source s).heat = s.heat ∧ (State.endCondition source s).wire = s.wire ∧
    (State.endCondition source s).energy = s.energy ∧ (State.endCondition source s).pull = s.pull ∧
    (State.endCondition source s).elevator = s.elevator ∧ (State.endCondition source s).report = s.report ∧
    (State.endCondition source s).ports = s.ports ∧ (State.endCondition source s).pending = s.pending := by
  unfold State.endCondition
  (repeat' split) <;> simp

@[simp] theorem State.spoolConfirm_frame (s : State) :
    (State.spoolConfirm s).straps = s.straps ∧ (State.spoolConfirm s).loader = s.loader ∧
    (State.spoolConfirm s).heat = s.heat ∧ (State.spoolConfirm s).energy = s.energy ∧
    (State.spoolConfirm s).pull = s.pull ∧ (State.spoolConfirm s).elevator = s.elevator ∧
    (State.spoolConfirm s).report = s.report ∧ (State.spoolConfirm s).ports = s.ports ∧
    (State.spoolConfirm s).pending = s.pending := by
  unfold State.spoolConfirm
  (repeat' split) <;> simp

@[simp] theorem State.takeFailure_frame (s : State) :
    (State.takeFailure s).straps = s.straps ∧ (State.takeFailure s).control = s.control ∧
    (State.takeFailure s).alarms = s.alarms ∧ (State.takeFailure s).line = s.line ∧
    (State.takeFailure s).loader = s.loader ∧ (State.takeFailure s).stage = s.stage ∧
    (State.takeFailure s).heat = s.heat ∧ (State.takeFailure s).wire = s.wire ∧
    (State.takeFailure s).energy = s.energy ∧ (State.takeFailure s).elevator = s.elevator ∧
    (State.takeFailure s).report = s.report ∧ (State.takeFailure s).ports = s.ports ∧
    (State.takeFailure s).pending = s.pending := by
  unfold State.takeFailure
  (repeat' split) <;> simp

@[simp] theorem State.ackPress_frame (s : State) :
    (State.ackPress s).straps = s.straps ∧ (State.ackPress s).loader = s.loader ∧ (State.ackPress s).heat = s.heat ∧
    (State.ackPress s).report = s.report ∧ (State.ackPress s).pending = s.pending := by
  unfold State.ackPress
  (repeat' split) <;> simp

@[simp] theorem State.ackLow_frame (i : Nat) (s : State) :
    (State.ackLow i s).straps = s.straps ∧ (State.ackLow i s).control = s.control ∧
    (State.ackLow i s).loader = s.loader ∧ (State.ackLow i s).stage = s.stage ∧ (State.ackLow i s).heat = s.heat ∧
    (State.ackLow i s).wire = s.wire ∧ (State.ackLow i s).energy = s.energy ∧ (State.ackLow i s).pull = s.pull ∧
    (State.ackLow i s).elevator = s.elevator ∧ (State.ackLow i s).report = s.report ∧
    (State.ackLow i s).ports = s.ports ∧ (State.ackLow i s).pending = s.pending := by
  unfold State.ackLow
  (repeat' split) <;> simp

@[simp] theorem State.clearEvent_frame (i : Nat) (s : State) :
    (State.clearEvent i s).straps = s.straps ∧ (State.clearEvent i s).control = s.control ∧
    (State.clearEvent i s).loader = s.loader ∧ (State.clearEvent i s).stage = s.stage ∧
    (State.clearEvent i s).heat = s.heat ∧ (State.clearEvent i s).wire = s.wire ∧
    (State.clearEvent i s).energy = s.energy ∧ (State.clearEvent i s).pull = s.pull ∧
    (State.clearEvent i s).elevator = s.elevator ∧ (State.clearEvent i s).report = s.report ∧
    (State.clearEvent i s).ports = s.ports ∧ (State.clearEvent i s).pending = s.pending := by
  unfold State.clearEvent
  (repeat' split) <;> simp

@[simp] theorem each_ackLow_frame (l : List Nat) (s : State) :
    (eachSource State.ackLow l s).straps = s.straps ∧ (eachSource State.ackLow l s).control = s.control ∧
    (eachSource State.ackLow l s).loader = s.loader ∧ (eachSource State.ackLow l s).stage = s.stage ∧
    (eachSource State.ackLow l s).heat = s.heat ∧ (eachSource State.ackLow l s).wire = s.wire ∧
    (eachSource State.ackLow l s).energy = s.energy ∧ (eachSource State.ackLow l s).pull = s.pull ∧
    (eachSource State.ackLow l s).elevator = s.elevator ∧ (eachSource State.ackLow l s).report = s.report ∧
    (eachSource State.ackLow l s).ports = s.ports ∧ (eachSource State.ackLow l s).pending = s.pending := by
  induction l generalizing s <;> simp_all [eachSource]

@[simp] theorem each_clearEvent_frame (l : List Nat) (s : State) :
    (eachSource State.clearEvent l s).straps = s.straps ∧ (eachSource State.clearEvent l s).control = s.control ∧
    (eachSource State.clearEvent l s).loader = s.loader ∧ (eachSource State.clearEvent l s).stage = s.stage ∧
    (eachSource State.clearEvent l s).heat = s.heat ∧ (eachSource State.clearEvent l s).wire = s.wire ∧
    (eachSource State.clearEvent l s).energy = s.energy ∧ (eachSource State.clearEvent l s).pull = s.pull ∧
    (eachSource State.clearEvent l s).elevator = s.elevator ∧ (eachSource State.clearEvent l s).report = s.report ∧
    (eachSource State.clearEvent l s).ports = s.ports ∧ (eachSource State.clearEvent l s).pending = s.pending := by
  induction l generalizing s <;> simp_all [eachSource]

@[simp] theorem State.startLine_frame (s : State) :
    (State.startLine s).straps = s.straps ∧ (State.startLine s).alarms = s.alarms ∧
    (State.startLine s).loader = s.loader ∧ (State.startLine s).stage = s.stage ∧
    (State.startLine s).heat = s.heat ∧ (State.startLine s).wire = s.wire ∧ (State.startLine s).energy = s.energy ∧
    (State.startLine s).pull = s.pull ∧ (State.startLine s).elevator = s.elevator ∧
    (State.startLine s).report = s.report ∧ (State.startLine s).ports = s.ports ∧
    (State.startLine s).pending = s.pending := by
  unfold State.startLine
  simp

@[simp] theorem State.resumeHeld_frame (s : State) :
    (State.resumeHeld s).straps = s.straps ∧ (State.resumeHeld s).alarms = s.alarms ∧
    (State.resumeHeld s).loader = s.loader ∧ (State.resumeHeld s).stage = s.stage ∧
    (State.resumeHeld s).heat = s.heat ∧ (State.resumeHeld s).wire = s.wire ∧
    (State.resumeHeld s).energy = s.energy ∧ (State.resumeHeld s).pull = s.pull ∧
    (State.resumeHeld s).elevator = s.elevator ∧ (State.resumeHeld s).report = s.report ∧
    (State.resumeHeld s).ports = s.ports ∧ (State.resumeHeld s).pending = s.pending := by
  unfold State.resumeHeld
  simp

@[simp] theorem State.refuseResume_frame (s : State) :
    (State.refuseResume s).straps = s.straps ∧ (State.refuseResume s).control = s.control ∧
    (State.refuseResume s).alarms = s.alarms ∧ (State.refuseResume s).line = s.line ∧
    (State.refuseResume s).loader = s.loader ∧ (State.refuseResume s).stage = s.stage ∧
    (State.refuseResume s).heat = s.heat ∧ (State.refuseResume s).wire = s.wire ∧
    (State.refuseResume s).energy = s.energy ∧ (State.refuseResume s).pull = s.pull ∧
    (State.refuseResume s).elevator = s.elevator ∧ (State.refuseResume s).report = s.report ∧
    (State.refuseResume s).ports = s.ports ∧ (State.refuseResume s).pending = s.pending := by
  unfold State.refuseResume
  exact ⟨rfl, rfl, rfl, rfl, rfl, rfl, rfl, rfl, rfl, rfl, rfl, rfl, rfl, rfl⟩

@[simp] theorem State.resumeStep_frame (s : State) :
    (State.resumeStep s).straps = s.straps ∧ (State.resumeStep s).alarms = s.alarms ∧
    (State.resumeStep s).loader = s.loader ∧ (State.resumeStep s).stage = s.stage ∧
    (State.resumeStep s).heat = s.heat ∧ (State.resumeStep s).wire = s.wire ∧
    (State.resumeStep s).energy = s.energy ∧ (State.resumeStep s).pull = s.pull ∧
    (State.resumeStep s).elevator = s.elevator ∧ (State.resumeStep s).report = s.report ∧
    (State.resumeStep s).ports = s.ports ∧ (State.resumeStep s).pending = s.pending := by
  unfold State.resumeStep
  (repeat' split) <;> simp

@[simp] theorem State.releaseWaiting_frame (sensors : StripSensors) (s : State) :
    (State.releaseWaiting sensors s).straps = s.straps ∧ (State.releaseWaiting sensors s).loader = s.loader ∧
    (State.releaseWaiting sensors s).heat = s.heat ∧ (State.releaseWaiting sensors s).wire = s.wire ∧
    (State.releaseWaiting sensors s).energy = s.energy ∧ (State.releaseWaiting sensors s).pull = s.pull ∧
    (State.releaseWaiting sensors s).ports = s.ports ∧ (State.releaseWaiting sensors s).pending = s.pending := by
  unfold State.releaseWaiting
  simp

@[simp] theorem State.resumePress_frame (sensors : StripSensors) (s : State) :
    (State.resumePress sensors s).straps = s.straps ∧ (State.resumePress sensors s).loader = s.loader ∧
    (State.resumePress sensors s).heat = s.heat ∧ (State.resumePress sensors s).pending = s.pending := by
  unfold State.resumePress
  simp

/-! ## The loader -/

@[simp] theorem State.latchLevels_frame (p : Program) (s : State) :
    (State.latchLevels p s).straps = s.straps ∧ (State.latchLevels p s).control = s.control ∧
    (State.latchLevels p s).loader = s.loader ∧ (State.latchLevels p s).stage = s.stage ∧
    (State.latchLevels p s).heat = s.heat ∧ (State.latchLevels p s).wire = s.wire ∧
    (State.latchLevels p s).energy = s.energy ∧ (State.latchLevels p s).pull = s.pull ∧
    (State.latchLevels p s).elevator = s.elevator ∧ (State.latchLevels p s).report = s.report ∧
    (State.latchLevels p s).ports = s.ports ∧ (State.latchLevels p s).pending = s.pending := by
  unfold State.latchLevels
  exact ⟨rfl, rfl, rfl, rfl, rfl, rfl, rfl, rfl, rfl, rfl, rfl, rfl⟩

@[simp] theorem State.latchScreen_frame (p : Program) (s : State) :
    (State.latchScreen p s).straps = s.straps ∧ (State.latchScreen p s).control = s.control ∧
    (State.latchScreen p s).alarms = s.alarms ∧ (State.latchScreen p s).line = s.line ∧
    (State.latchScreen p s).loader = s.loader ∧ (State.latchScreen p s).stage = s.stage ∧
    (State.latchScreen p s).heat = s.heat ∧ (State.latchScreen p s).wire = s.wire ∧
    (State.latchScreen p s).energy = s.energy ∧ (State.latchScreen p s).pull = s.pull ∧
    (State.latchScreen p s).elevator = s.elevator ∧ (State.latchScreen p s).report = s.report ∧
    (State.latchScreen p s).ports = s.ports ∧ (State.latchScreen p s).pending = s.pending := by
  unfold State.latchScreen
  exact ⟨rfl, rfl, rfl, rfl, rfl, rfl, rfl, rfl, rfl, rfl, rfl, rfl, rfl, rfl⟩

@[simp] theorem State.latchDwell_frame (s : State) :
    (State.latchDwell s).straps = s.straps ∧ (State.latchDwell s).control = s.control ∧
    (State.latchDwell s).alarms = s.alarms ∧ (State.latchDwell s).line = s.line ∧
    (State.latchDwell s).loader = s.loader ∧ (State.latchDwell s).heat = s.heat ∧
    (State.latchDwell s).wire = s.wire ∧ (State.latchDwell s).energy = s.energy ∧
    (State.latchDwell s).pull = s.pull ∧ (State.latchDwell s).elevator = s.elevator ∧
    (State.latchDwell s).report = s.report ∧ (State.latchDwell s).screen = s.screen ∧
    (State.latchDwell s).ports = s.ports ∧ (State.latchDwell s).pending = s.pending := by
  unfold State.latchDwell
  exact ⟨rfl, rfl, rfl, rfl, rfl, rfl, rfl, rfl, rfl, rfl, rfl, rfl, rfl, rfl⟩

@[simp] theorem State.latchPlan_frame (p : Program) (s : State) :
    (State.latchPlan p s).straps = s.straps ∧ (State.latchPlan p s).loader = s.loader ∧
    (State.latchPlan p s).stage = s.stage ∧ (State.latchPlan p s).heat = s.heat ∧
    (State.latchPlan p s).wire = s.wire ∧ (State.latchPlan p s).energy = s.energy ∧
    (State.latchPlan p s).elevator = s.elevator ∧ (State.latchPlan p s).report = s.report ∧
    (State.latchPlan p s).ports = s.ports ∧ (State.latchPlan p s).pending = s.pending := by
  unfold State.latchPlan
  (repeat' split) <;> simp

@[simp] theorem State.tellMagazines_frame (s : State) :
    (State.tellMagazines s).straps = s.straps ∧ (State.tellMagazines s).loader = s.loader ∧
    (State.tellMagazines s).stage = s.stage ∧ (State.tellMagazines s).heat = s.heat ∧
    (State.tellMagazines s).wire = s.wire ∧ (State.tellMagazines s).energy = s.energy ∧
    (State.tellMagazines s).pull = s.pull ∧ (State.tellMagazines s).elevator = s.elevator ∧
    (State.tellMagazines s).report = s.report ∧ (State.tellMagazines s).ports = s.ports ∧
    (State.tellMagazines s).pending = s.pending := by
  unfold State.tellMagazines
  dsimp only
  (repeat' split) <;> simp

@[simp] theorem State.tellClamped_frame (s : State) :
    (State.tellClamped s).straps = s.straps ∧ (State.tellClamped s).loader = s.loader ∧
    (State.tellClamped s).stage = s.stage ∧ (State.tellClamped s).heat = s.heat ∧
    (State.tellClamped s).wire = s.wire ∧ (State.tellClamped s).energy = s.energy ∧
    (State.tellClamped s).pull = s.pull ∧ (State.tellClamped s).elevator = s.elevator ∧
    (State.tellClamped s).report = s.report ∧ (State.tellClamped s).ports = s.ports ∧
    (State.tellClamped s).pending = s.pending := by
  unfold State.tellClamped
  (repeat' split) <;> simp

@[simp] theorem State.leaveBoot_frame (s : State) :
    (State.leaveBoot s).straps = s.straps ∧ (State.leaveBoot s).loader = s.loader ∧
    (State.leaveBoot s).heat = s.heat ∧ (State.leaveBoot s).report = s.report ∧
    (State.leaveBoot s).pending = s.pending := by
  unfold State.leaveBoot
  (repeat' split) <;> simp

@[simp] theorem State.loadValid_frame (id : ProgramId) (p : Program) (clamps : Nat) (s : State) :
    (State.loadValid id p clamps s).straps = s.straps ∧ (State.loadValid id p clamps s).report = s.report ∧
    (State.loadValid id p clamps s).pending = s.pending := by
  unfold State.loadValid
  simp

@[simp] theorem State.loadInvalid_frame (s : State) :
    (State.loadInvalid s).straps = s.straps ∧ (State.loadInvalid s).heat = s.heat ∧
    (State.loadInvalid s).report = s.report ∧ (State.loadInvalid s).pending = s.pending := by
  unfold State.loadInvalid
  simp

/-! ## Power-on and warm restart -/

@[simp] theorem State.senseStrip_frame (present : Bool) (s : State) :
    (State.senseStrip present s).straps = s.straps ∧ (State.senseStrip present s).loader = s.loader ∧
    (State.senseStrip present s).heat = s.heat ∧ (State.senseStrip present s).wire = s.wire ∧
    (State.senseStrip present s).energy = s.energy ∧ (State.senseStrip present s).elevator = s.elevator ∧
    (State.senseStrip present s).report = s.report ∧ (State.senseStrip present s).ports = s.ports ∧
    (State.senseStrip present s).pending = s.pending := by
  unfold State.senseStrip
  (repeat' split) <;> simp

@[simp] theorem State.clearAlarms_frame (s : State) :
    (State.clearAlarms s).straps = s.straps ∧ (State.clearAlarms s).control = s.control ∧
    (State.clearAlarms s).loader = s.loader ∧ (State.clearAlarms s).stage = s.stage ∧
    (State.clearAlarms s).heat = s.heat ∧ (State.clearAlarms s).wire = s.wire ∧
    (State.clearAlarms s).energy = s.energy ∧ (State.clearAlarms s).pull = s.pull ∧
    (State.clearAlarms s).elevator = s.elevator ∧ (State.clearAlarms s).report = s.report ∧
    (State.clearAlarms s).ports = s.ports ∧ (State.clearAlarms s).pending = s.pending := by
  unfold State.clearAlarms
  exact ⟨rfl, rfl, rfl, rfl, rfl, rfl, rfl, rfl, rfl, rfl, rfl, rfl⟩

@[simp] theorem State.clearRequests_frame (s : State) :
    (State.clearRequests s).straps = s.straps ∧ (State.clearRequests s).alarms = s.alarms ∧
    (State.clearRequests s).line = s.line ∧ (State.clearRequests s).loader = s.loader ∧
    (State.clearRequests s).stage = s.stage ∧ (State.clearRequests s).heat = s.heat ∧
    (State.clearRequests s).wire = s.wire ∧ (State.clearRequests s).energy = s.energy ∧
    (State.clearRequests s).pull = s.pull ∧ (State.clearRequests s).elevator = s.elevator ∧
    (State.clearRequests s).report = s.report ∧ (State.clearRequests s).screen = s.screen ∧
    (State.clearRequests s).ports = s.ports ∧ (State.clearRequests s).pending = s.pending := by
  unfold State.clearRequests
  exact ⟨rfl, rfl, rfl, rfl, rfl, rfl, rfl, rfl, rfl, rfl, rfl, rfl, rfl, rfl⟩

@[simp] theorem State.restartLine_frame (s : State) :
    (State.restartLine s).straps = s.straps ∧ (State.restartLine s).control = s.control ∧
    (State.restartLine s).alarms = s.alarms ∧ (State.restartLine s).loader = s.loader ∧
    (State.restartLine s).stage = s.stage ∧ (State.restartLine s).heat = s.heat ∧
    (State.restartLine s).wire = s.wire ∧ (State.restartLine s).energy = s.energy ∧
    (State.restartLine s).pull = s.pull ∧ (State.restartLine s).elevator = s.elevator ∧
    (State.restartLine s).report = s.report ∧ (State.restartLine s).ports = s.ports ∧
    (State.restartLine s).pending = s.pending := by
  unfold State.restartLine
  exact ⟨rfl, rfl, rfl, rfl, rfl, rfl, rfl, rfl, rfl, rfl, rfl, rfl, rfl⟩

@[simp] theorem State.renew_frame (a : AlarmUnit) (l : List Source) (s : State) :
    (State.renew a l s).straps = s.straps ∧ (State.renew a l s).loader = s.loader ∧
    (State.renew a l s).stage = s.stage ∧ (State.renew a l s).heat = s.heat ∧ (State.renew a l s).wire = s.wire ∧
    (State.renew a l s).energy = s.energy ∧ (State.renew a l s).pull = s.pull ∧
    (State.renew a l s).elevator = s.elevator ∧ (State.renew a l s).report = s.report ∧
    (State.renew a l s).ports = s.ports ∧ (State.renew a l s).pending = s.pending := by
  induction l generalizing s with
  | nil => simp [State.renew]
  | cons i is ih =>
    unfold State.renew
    rw [(ih _).1, (ih _).2.1, (ih _).2.2.1, (ih _).2.2.2.1, (ih _).2.2.2.2.1, (ih _).2.2.2.2.2.1, (ih _).2.2.2.2.2.2.1,
      (ih _).2.2.2.2.2.2.2.1, (ih _).2.2.2.2.2.2.2.2.1, (ih _).2.2.2.2.2.2.2.2.2.1, (ih _).2.2.2.2.2.2.2.2.2.2]
    split <;> simp

@[simp] theorem State.restartState_frame (s : State) :
    (State.restartState s).straps = s.straps ∧ (State.restartState s).loader = s.loader ∧
    (State.restartState s).heat = s.heat ∧ (State.restartState s).report = s.report ∧
    (State.restartState s).pending = s.pending := by
  unfold State.restartState
  (repeat' split) <;> simp

@[simp] theorem State.restart_frame (s : State) :
    (State.restart s).straps = s.straps ∧ (State.restart s).loader = s.loader ∧ (State.restart s).heat = s.heat ∧
    (State.restart s).report = s.report ∧ (State.restart s).pending = s.pending := by
  unfold State.restart
  simp

/-! ## The screen -/

@[simp] theorem State.transfer_frame (t : Nat) (first : Nat) (n : Nat) (d : Descriptor) (s : State) :
    (State.transfer t first n d s).straps = s.straps ∧ (State.transfer t first n d s).control = s.control ∧
    (State.transfer t first n d s).alarms = s.alarms ∧ (State.transfer t first n d s).line = s.line ∧
    (State.transfer t first n d s).loader = s.loader ∧ (State.transfer t first n d s).stage = s.stage ∧
    (State.transfer t first n d s).heat = s.heat ∧ (State.transfer t first n d s).wire = s.wire ∧
    (State.transfer t first n d s).energy = s.energy ∧ (State.transfer t first n d s).pull = s.pull ∧
    (State.transfer t first n d s).elevator = s.elevator ∧ (State.transfer t first n d s).report = s.report ∧
    (State.transfer t first n d s).ports = s.ports ∧ (State.transfer t first n d s).pending = s.pending := by
  unfold State.transfer
  (repeat' split) <;> simp

end Sys2Proof.Machine
end

