-- ==== Sys2Proof/Laws/Alarms.lean ====
section
/-! SUPPORT. The alarm table: what reading an entry after a change gives, what each operation over it does to the table and
to station control, and when a STOP-class entry stands. -/

namespace Sys2Proof.Machine

/-! ## Reading after a change -/

/-- Reading an entry after one is replaced. -/
theorem AlarmUnit.entry_put (a : AlarmUnit) (i j : Nat) (e : AlarmEntry) :
    (a.put i e).entry j = if i = j ∧ i < a.entries.length then e else a.entry j := by
  unfold AlarmUnit.entry AlarmUnit.put
  simp only [List.getD_eq_getElem?_getD, List.getElem?_set]
  by_cases h : i = j
  · subst h
    by_cases h2 : i < a.entries.length <;> simp [h2]
  · simp [h]

@[simp] theorem AlarmUnit.entry_put_self (a : AlarmUnit) (i : Nat) (e : AlarmEntry) (h : i < a.entries.length) :
    (a.put i e).entry i = e := by simp [AlarmUnit.entry_put, h]

theorem AlarmUnit.entry_put_ne (a : AlarmUnit) {i j : Nat} (e : AlarmEntry) (h : i ≠ j) :
    (a.put i e).entry j = a.entry j := by simp [AlarmUnit.entry_put, h]

@[simp] theorem AlarmUnit.put_length (a : AlarmUnit) (i : Nat) (e : AlarmEntry) :
    (a.put i e).entries.length = a.entries.length := by simp [AlarmUnit.put]

@[simp] theorem AlarmUnit.put_mask (a : AlarmUnit) (i : Nat) (e : AlarmEntry) : (a.put i e).mask = a.mask := rfl

/-- An entry whose state is not CLEAR stands in the table. -/
theorem AlarmUnit.lt_of_state {a : AlarmUnit} {i : Nat} (h : (a.entry i).state ≠ .clear) : i < a.entries.length := by
  by_contra hn
  apply h
  simp [AlarmUnit.entry, List.getD_eq_getElem?_getD, List.getElem?_eq_none (Nat.le_of_not_lt hn), AlarmEntry.initial]

/-! ## The operations over the table -/

@[simp] theorem State.putEntry_alarms (i : Nat) (e : AlarmEntry) (b : Bool) (s : State) :
    (s.putEntry i e b).alarms = s.alarms.put i e := rfl

/-- What a raise does to the table and to station control (R28, R29, R21). -/
theorem State.raiseAlarm_alarms (source : Nat) (d : Detail) (s : State) :
    (s.raiseAlarm source d).alarms =
      if s.alarms.disabled source then s.alarms
      else s.alarms.put source ((s.alarms.entry source).raised source d) := by
  unfold State.raiseAlarm
  split <;> simp [*]

theorem State.raiseAlarm_control (source : Nat) (d : Detail) (s : State) :
    (s.raiseAlarm source d).control =
      if s.alarms.disabled source then s.control
      else { s.control with
             holdRequest := s.control.holdRequest ||
               raiseHolds source ((s.alarms.entry source).raised source d) s.control.station } := by
  unfold State.raiseAlarm
  split <;> simp [*]

/-- R21: only a HOLD-class raise touches the hold request. -/
theorem State.raiseAlarm_control_of_not_hold {source : Nat} (d : Detail) (s : State) (h : localClass source ≠ .hold) :
    (s.raiseAlarm source d).control = s.control := by
  rw [State.raiseAlarm_control]
  split <;> simp [raiseHolds, h]

@[simp] theorem State.raiseAlarm_station (source : Nat) (d : Detail) (s : State) :
    (s.raiseAlarm source d).control.station = s.control.station := by
  rw [State.raiseAlarm_control]; split <;> rfl

@[simp] theorem State.raiseAlarm_head (source : Nat) (d : Detail) (s : State) :
    (s.raiseAlarm source d).control.head = s.control.head := by
  rw [State.raiseAlarm_control]; split <;> rfl

@[simp] theorem State.raiseAlarm_lineStarted (source : Nat) (d : Detail) (s : State) :
    (s.raiseAlarm source d).control.lineStarted = s.control.lineStarted := by
  rw [State.raiseAlarm_control]; split <;> rfl

@[simp] theorem State.raiseAlarm_restartWaiting (source : Nat) (d : Detail) (s : State) :
    (s.raiseAlarm source d).control.restartWaiting = s.control.restartWaiting := by
  rw [State.raiseAlarm_control]; split <;> rfl

/-- R31: what a condition's end does to the table. -/
theorem State.conditionGone_alarms (source : Nat) (s : State) :
    (s.conditionGone source).alarms = s.alarms.put source
      (if (s.alarms.entry source).state = .acked then { s.alarms.entry source with state := .clear, condition := false }
        else { s.alarms.entry source with condition := false }) := by
  unfold State.conditionGone
  dsimp only
  split
  · next h => rw [if_pos h]; rfl
  · next h => rw [if_neg h]; rfl

/-- R30: what an acknowledgement does to the table. -/
@[simp] theorem State.acknowledge_alarms (source : Nat) (s : State) :
    (s.acknowledge source).alarms = s.alarms.put source ((s.alarms.entry source).acknowledged source) := rfl

@[simp] theorem AlarmEntry.unmirrored_state (e : AlarmEntry) : e.unmirrored.state = .clear := rfl
@[simp] theorem AlarmEntry.unmirrored_condition (e : AlarmEntry) : e.unmirrored.condition = false := rfl
@[simp] theorem AlarmEntry.unmirrored_count (e : AlarmEntry) : e.unmirrored.count = e.count := rfl
@[simp] theorem AlarmEntry.unmirrored_detail (e : AlarmEntry) : e.unmirrored.detail = e.detail := rfl
@[simp] theorem AlarmEntry.unmirrored_mirrored (e : AlarmEntry) : e.unmirrored.mirrored = .note := rfl

/-- R34: what a summary does to the table. -/
theorem State.mirror_alarms (k : Nat) (m : Option Summary) (s : State) :
    (s.mirror k m).alarms = s.alarms.put (Source.mirror k)
      (match m with
        | none => (s.alarms.entry (Source.mirror k)).unmirrored
        | some m => (s.alarms.entry (Source.mirror k)).mirroring k m) := by
  unfold State.mirror
  cases m <;> simp

/-! ## When a STOP-class entry stands (R25) -/

theorem mem_sourceNumbers {i : Nat} : i ∈ sourceNumbers ↔ i < 40 := by
  simp only [sourceNumbers, List.mem_cons, List.not_mem_nil, or_false]
  omega

theorem mem_localSourceNumbers {i : Nat} : i ∈ localSourceNumbers ↔ i < 32 := by
  have h : localSourceNumbers = [0, 1, 2, 3, 4, 5, 6, 7, 8, 9, 10, 11, 12, 13, 14, 15, 16, 17, 18, 19, 20, 21, 22, 23, 24,
    25, 26, 27, 28, 29, 30, 31] := rfl
  rw [h]
  simp only [List.mem_cons, List.not_mem_nil, or_false]
  omega

theorem AlarmUnit.stopStands_iff (a : AlarmUnit) :
    a.stopStands = true ↔ ∃ i, i < 40 ∧ a.classOf i = .stop ∧ (a.entry i).state ≠ .clear := by
  simp [AlarmUnit.stopStands, mem_sourceNumbers]

/-- The class of a source after a change: a local one's is fixed, a mirror's is that of its entry. -/
theorem AlarmUnit.classOf_put (a : AlarmUnit) (i j : Nat) (e : AlarmEntry) (h : i < 32 ∨ i ≠ j) :
    (a.put i e).classOf j = a.classOf j := by
  unfold AlarmUnit.classOf
  split
  · rfl
  · rw [AlarmUnit.entry_put_ne]
    omega

/-- A change of a local entry that is not of class STOP leaves what stands as it was. -/
theorem AlarmUnit.stopStands_put_of_not_stop (a : AlarmUnit) {i : Nat} (e : AlarmEntry) (hi : i < 32)
    (hc : localClass i ≠ .stop) : (a.put i e).stopStands = a.stopStands := by
  rw [Bool.eq_iff_iff, AlarmUnit.stopStands_iff, AlarmUnit.stopStands_iff]
  constructor
  · rintro ⟨j, hj, hcl, hs⟩
    rw [AlarmUnit.classOf_put _ _ _ _ (Or.inl hi)] at hcl
    have hne : i ≠ j := by
      rintro rfl
      simp [AlarmUnit.classOf, hi, hc] at hcl
    rw [AlarmUnit.entry_put_ne _ _ hne] at hs
    exact ⟨j, hj, hcl, hs⟩
  · rintro ⟨j, hj, hcl, hs⟩
    have hne : i ≠ j := by
      rintro rfl
      simp [AlarmUnit.classOf, hi, hc] at hcl
    exact ⟨j, hj, by rw [AlarmUnit.classOf_put _ _ _ _ (Or.inl hi)]; exact hcl,
      by rw [AlarmUnit.entry_put_ne _ _ hne]; exact hs⟩

/-- R24: a raise of a HOLD or NOTE source brings no STOP. -/
theorem State.raiseAlarm_stopStands {i : Nat} (d : Detail) (s : State) (hi : i < 32) (hc : localClass i ≠ .stop) :
    (s.raiseAlarm i d).alarms.stopStands = s.alarms.stopStands := by
  rw [State.raiseAlarm_alarms]
  split
  · rfl
  · exact AlarmUnit.stopStands_put_of_not_stop _ _ hi hc

theorem State.conditionGone_stopStands {i : Nat} (s : State) (hi : i < 32) (hc : localClass i ≠ .stop) :
    (s.conditionGone i).alarms.stopStands = s.alarms.stopStands := by
  rw [State.conditionGone_alarms]
  exact AlarmUnit.stopStands_put_of_not_stop _ _ hi hc

end Sys2Proof.Machine
end

