-- ==== Sys2Proof/Laws/Formats.lean ====
section
/-! SUPPORT. The bits of a byte and of a frame in the order they are sent: the byte they make, and which bit stands where. -/

namespace Sys2Proof.Machine

theorem byteBits_length (b : Byte) : (byteBits b).length = 8 := rfl

/-- R182: the byte its bits make, as they are sent, is the byte. -/
theorem byteOfBits_byteBits : ∀ b : Byte, byteOfBits (byteBits b) = b := by decide +kernel

/-- R182: the bytes that the bits of bytes make are those bytes. -/
theorem bytesOfBits_bitsOf (l : List Byte) : bytesOfBits (bitsOf l) = l := by
  induction l with
  | nil => rfl
  | cons b bs ih =>
    show byteOfBits (byteBits b) :: bytesOfBits (bitsOf bs) = b :: bs
    rw [byteOfBits_byteBits, ih]

/-- R182: bit `j` of byte `i` in sending order is the byte's bit 7 − j. -/
theorem bitsOf_getElem? {l : List Byte} {i j : Nat} {b : Byte} (hb : l[i]? = some b) (hj : j < 8) :
    (bitsOf l)[8 * i + j]? = some (b.getLsbD (7 - j)) := by
  induction l generalizing i with
  | nil => simp at hb
  | cons x xs ih =>
    have hx : bitsOf (x :: xs) = byteBits x ++ bitsOf xs := rfl
    cases i with
    | zero =>
      obtain rfl : x = b := by simpa using hb
      rw [hx, List.getElem?_append_left (by rw [byteBits_length]; omega)]
      interval_cases j <;> rfl
    | succ n =>
      rw [hx, List.getElem?_append_right (by rw [byteBits_length]; omega), byteBits_length,
        show 8 * (n + 1) + j - 8 = 8 * n + j by omega]
      exact ih (by simpa using hb)

end Sys2Proof.Machine
end

