-- ==== Sys2Proof/Laws/PerInstr.lean ====
section
/-! SUPPORT. A family of per-command lemmas about the commands as syntax: the station numbers a well-formed command carries
(the straps', a frame's sender and target) are the line's eight (R171). -/

namespace Sys2Proof.Laws

/-- The station numbers a command carries. -/
def stationsOf : Instr → List Nat
  | .powerOn p _ => [p.station]
  | .loadEnd _ => []
  | .pageKey => []
  | .ackKey => []
  | .holdKey => []
  | .resumeKey _ => []
  | .stopButton => []
  | .keyRelease _ => []
  | .chordTimerExpiry => []
  | .warmRestart => []
  | .stopFrame k => [k]
  | .restartFrame k => [k]
  | .presentFrame k p => [k, p.station]
  | .alarmFrame k _ => [k]
  | .stateFrame k _ => [k]
  | .lineStartFrame k => [k]
  | .offerFrame k t _ => [k, t]
  | .takeFrame k t _ => [k, t]
  | .refuseFrame k t _ => [k, t]
  | .arrivedFrame k t _ => [k, t]
  | .recordFrame k t _ => [k, t]
  | .pullResultFrame k _ => [k]
  | .frameDiscard _ => []
  | .frameSendStart => []
  | .arbitrationLost => []
  | .frameSendEnd _ => []
  | .waitingFrameJoins => []
  | .boundaryTaken => []
  | .zoneVisit _ _ => []
  | .dwellLimitReached => []
  | .stageChooseWork => []
  | .indexMotionEnd => []
  | .offerSend => []
  | .offerTimerExpiry => []
  | .senderTransferTimeout => []
  | .receiverTransferTimeout => []
  | .arrival => []
  | .stripLeft => []
  | .unloadStart _ => []
  | .unloadingPushRetry => []
  | .unloadingPushTimeout => []
  | .elevatorMoveStart _ => []
  | .elevatorMoveEnd _ _ => []
  | .newMagazine _ => []
  | .magazineRemoved _ => []
  | .feedingPushStart _ => []
  | .inkMark _ => []
  | .feedingPushTimeout => []
  | .wireCycleStart => []
  | .leadFlameHeadReady => []
  | .flameOffEnd _ => []
  | .toFirstInPosition => []
  | .searchFirstContact _ => []
  | .searchFirstLimit => []
  | .missingDieReturnEnd => []
  | .demandInterval => []
  | .bondSample _ _ => []
  | .loopLiftInPosition _ => []
  | .loopMotionInPosition => []
  | .cutEnd => []
  | .searchSecondContact _ => []
  | .searchSecondLimit => []
  | .tailRiseInPosition _ => []
  | .tailingEnd => []
  | .auditWaitChoose => []
  | .auditSpacingExpiry => []
  | .pullCycleStart => []
  | .toWireInPosition => []
  | .hookEngagement => []
  | .loadCellSample _ _ => []
  | .holdTimerExpiry => []
  | .liftTravelLimit => []
  | .releaseEnd => []
  | .reportSendStart => []
  | .reportSendEnd => []
  | .tick => []
  | .fieldEngineWalk => []
  | .rollCallTimerExpiry => []
  | .pusherReturnToRest _ => []

/-- A well-formed command's station numbers are 1 to 8. -/
def Addressed.Statement (c : Instr) : Prop := c.wellFormed = true → ∀ k ∈ stationsOf c, 1 ≤ k ∧ k ≤ 8

/-- A station number is 1 to 8. -/
theorem stationGood_iff (k : Nat) : stationGood k = true ↔ 1 ≤ k ∧ k ≤ 8 := by simp [stationGood, within]

/-- A command that carries no station number. -/
theorem addressed_of_none {c : Instr} (h : stationsOf c = []) : Addressed.Statement c := by
  intro _ k hk
  rw [h] at hk
  cases hk

/-- A command whose well-formedness says that its one station number is one of the line. -/
theorem addressed_of_one {c : Instr} {k : Nat} (h : stationsOf c = [k]) (w : c.wellFormed = true → stationGood k = true) :
    Addressed.Statement c := by
  intro hw j hj
  rw [h, List.mem_singleton] at hj
  exact hj ▸ (stationGood_iff k).1 (w hw)

/-- A command whose well-formedness says that both its station numbers are of the line. -/
theorem addressed_of_two {c : Instr} {k l : Nat} (h : stationsOf c = [k, l])
    (w : c.wellFormed = true → stationGood k = true ∧ stationGood l = true) : Addressed.Statement c := by
  intro hw j hj
  rw [h, List.mem_cons, List.mem_singleton] at hj
  rcases hj with rfl | rfl
  · exact (stationGood_iff _).1 (w hw).1
  · exact (stationGood_iff _).1 (w hw).2

/-- The first conjunct of a well-formedness. -/
theorem andLeft {a b : Bool} (h : (a && b) = true) : a = true := (Bool.and_eq_true_iff.1 h).1

/-- The second conjunct of a well-formedness. -/
theorem andRight {a b : Bool} (h : (a && b) = true) : b = true := (Bool.and_eq_true_iff.1 h).2

theorem Addressed.powerOn (straps : Straps) (reading : FirstReading) : Addressed.Statement (.powerOn straps reading) :=
  addressed_of_one rfl id

theorem Addressed.loadEnd (image : Image) : Addressed.Statement (.loadEnd image) :=
  addressed_of_none rfl

theorem Addressed.pageKey : Addressed.Statement .pageKey :=
  addressed_of_none rfl

theorem Addressed.ackKey : Addressed.Statement .ackKey :=
  addressed_of_none rfl

theorem Addressed.holdKey : Addressed.Statement .holdKey :=
  addressed_of_none rfl

theorem Addressed.resumeKey (sensors : StripSensors) : Addressed.Statement (.resumeKey sensors) :=
  addressed_of_none rfl

theorem Addressed.stopButton : Addressed.Statement .stopButton :=
  addressed_of_none rfl

theorem Addressed.keyRelease (key : ChordKey) : Addressed.Statement (.keyRelease key) :=
  addressed_of_none rfl

theorem Addressed.chordTimerExpiry : Addressed.Statement .chordTimerExpiry :=
  addressed_of_none rfl

theorem Addressed.warmRestart : Addressed.Statement .warmRestart :=
  addressed_of_none rfl

theorem Addressed.stopFrame (sender : Nat) : Addressed.Statement (.stopFrame sender) :=
  addressed_of_one rfl id

theorem Addressed.restartFrame (sender : Nat) : Addressed.Statement (.restartFrame sender) :=
  addressed_of_one rfl id

theorem Addressed.presentFrame (sender : Nat) (p : PresentPayload) : Addressed.Statement (.presentFrame sender p) :=
  addressed_of_two rfl fun h => ⟨andLeft h, andLeft (andRight h)⟩

theorem Addressed.alarmFrame (sender : Nat) (p : AlarmPayload) : Addressed.Statement (.alarmFrame sender p) :=
  addressed_of_one rfl andLeft

theorem Addressed.stateFrame (sender : Nat) (p : StatePayload) : Addressed.Statement (.stateFrame sender p) :=
  addressed_of_one rfl id

theorem Addressed.lineStartFrame (sender : Nat) : Addressed.Statement (.lineStartFrame sender) :=
  addressed_of_one rfl id

theorem Addressed.offerFrame (sender target : Nat) (p : OfferPayload) : Addressed.Statement (.offerFrame sender target p) :=
  addressed_of_two rfl fun h => ⟨andLeft (andLeft h), andRight (andLeft h)⟩

theorem Addressed.takeFrame (sender target : Nat) (p : TakePayload) : Addressed.Statement (.takeFrame sender target p) :=
  addressed_of_two rfl fun h => ⟨andLeft (andLeft h), andRight (andLeft h)⟩

theorem Addressed.refuseFrame (sender target : Nat) (p : RefusePayload) : Addressed.Statement (.refuseFrame sender target p) :=
  addressed_of_two rfl fun h => ⟨andLeft (andLeft h), andRight (andLeft h)⟩

theorem Addressed.arrivedFrame (sender target : Nat) (p : ArrivedPayload) : Addressed.Statement (.arrivedFrame sender target p) :=
  addressed_of_two rfl fun h => ⟨andLeft (andLeft h), andRight (andLeft h)⟩

theorem Addressed.recordFrame (sender target : Nat) (p : RecordPayload) : Addressed.Statement (.recordFrame sender target p) :=
  addressed_of_two rfl fun h => ⟨andLeft (andLeft h), andRight (andLeft h)⟩

theorem Addressed.pullResultFrame (sender : Nat) (p : PullResult) : Addressed.Statement (.pullResultFrame sender p) :=
  addressed_of_one rfl andLeft

theorem Addressed.frameDiscard (bytes : List Byte) : Addressed.Statement (.frameDiscard bytes) :=
  addressed_of_none rfl

theorem Addressed.frameSendStart : Addressed.Statement .frameSendStart :=
  addressed_of_none rfl

theorem Addressed.arbitrationLost : Addressed.Statement .arbitrationLost :=
  addressed_of_none rfl

theorem Addressed.frameSendEnd (acked : Bool) : Addressed.Statement (.frameSendEnd acked) :=
  addressed_of_none rfl

theorem Addressed.waitingFrameJoins : Addressed.Statement .waitingFrameJoins :=
  addressed_of_none rfl

theorem Addressed.boundaryTaken : Addressed.Statement .boundaryTaken :=
  addressed_of_none rfl

theorem Addressed.zoneVisit (valid : Bool) (reading : Int) : Addressed.Statement (.zoneVisit valid reading) :=
  addressed_of_none rfl

theorem Addressed.dwellLimitReached : Addressed.Statement .dwellLimitReached :=
  addressed_of_none rfl

theorem Addressed.stageChooseWork : Addressed.Statement .stageChooseWork :=
  addressed_of_none rfl

theorem Addressed.indexMotionEnd : Addressed.Statement .indexMotionEnd :=
  addressed_of_none rfl

theorem Addressed.offerSend : Addressed.Statement .offerSend :=
  addressed_of_none rfl

theorem Addressed.offerTimerExpiry : Addressed.Statement .offerTimerExpiry :=
  addressed_of_none rfl

theorem Addressed.senderTransferTimeout : Addressed.Statement .senderTransferTimeout :=
  addressed_of_none rfl

theorem Addressed.receiverTransferTimeout : Addressed.Statement .receiverTransferTimeout :=
  addressed_of_none rfl

theorem Addressed.arrival : Addressed.Statement .arrival :=
  addressed_of_none rfl

theorem Addressed.stripLeft : Addressed.Statement .stripLeft :=
  addressed_of_none rfl

theorem Addressed.unloadStart (slotSensor : Bool) : Addressed.Statement (.unloadStart slotSensor) :=
  addressed_of_none rfl

theorem Addressed.unloadingPushRetry : Addressed.Statement .unloadingPushRetry :=
  addressed_of_none rfl

theorem Addressed.unloadingPushTimeout : Addressed.Statement .unloadingPushTimeout :=
  addressed_of_none rfl

theorem Addressed.elevatorMoveStart (which : LineEnd) : Addressed.Statement (.elevatorMoveStart which) :=
  addressed_of_none rfl

theorem Addressed.elevatorMoveEnd (which : LineEnd) (slotSensor : Bool) : Addressed.Statement (.elevatorMoveEnd which slotSensor) :=
  addressed_of_none rfl

theorem Addressed.newMagazine (which : LineEnd) : Addressed.Statement (.newMagazine which) :=
  addressed_of_none rfl

theorem Addressed.magazineRemoved (which : LineEnd) : Addressed.Statement (.magazineRemoved which) :=
  addressed_of_none rfl

theorem Addressed.feedingPushStart (slotSensor : Bool) : Addressed.Statement (.feedingPushStart slotSensor) :=
  addressed_of_none rfl

theorem Addressed.inkMark (unit : Nat) : Addressed.Statement (.inkMark unit) :=
  addressed_of_none rfl

theorem Addressed.feedingPushTimeout : Addressed.Statement .feedingPushTimeout :=
  addressed_of_none rfl

theorem Addressed.wireCycleStart : Addressed.Statement .wireCycleStart :=
  addressed_of_none rfl

theorem Addressed.leadFlameHeadReady : Addressed.Statement .leadFlameHeadReady :=
  addressed_of_none rfl

theorem Addressed.flameOffEnd (spark : Bool) : Addressed.Statement (.flameOffEnd spark) :=
  addressed_of_none rfl

theorem Addressed.toFirstInPosition : Addressed.Statement .toFirstInPosition :=
  addressed_of_none rfl

theorem Addressed.searchFirstContact (z : Int) : Addressed.Statement (.searchFirstContact z) :=
  addressed_of_none rfl

theorem Addressed.searchFirstLimit : Addressed.Statement .searchFirstLimit :=
  addressed_of_none rfl

theorem Addressed.missingDieReturnEnd : Addressed.Statement .missingDieReturnEnd :=
  addressed_of_none rfl

theorem Addressed.demandInterval : Addressed.Statement .demandInterval :=
  addressed_of_none rfl

theorem Addressed.bondSample (z : Option Int) (generator : Nat) : Addressed.Statement (.bondSample z generator) :=
  addressed_of_none rfl

theorem Addressed.loopLiftInPosition (continuity : Bool) : Addressed.Statement (.loopLiftInPosition continuity) :=
  addressed_of_none rfl

theorem Addressed.loopMotionInPosition : Addressed.Statement .loopMotionInPosition :=
  addressed_of_none rfl

theorem Addressed.cutEnd : Addressed.Statement .cutEnd :=
  addressed_of_none rfl

theorem Addressed.searchSecondContact (z : Int) : Addressed.Statement (.searchSecondContact z) :=
  addressed_of_none rfl

theorem Addressed.searchSecondLimit : Addressed.Statement .searchSecondLimit :=
  addressed_of_none rfl

theorem Addressed.tailRiseInPosition (continuity : Bool) : Addressed.Statement (.tailRiseInPosition continuity) :=
  addressed_of_none rfl

theorem Addressed.tailingEnd : Addressed.Statement .tailingEnd :=
  addressed_of_none rfl

theorem Addressed.auditWaitChoose : Addressed.Statement .auditWaitChoose :=
  addressed_of_none rfl

theorem Addressed.auditSpacingExpiry : Addressed.Statement .auditSpacingExpiry :=
  addressed_of_none rfl

theorem Addressed.pullCycleStart : Addressed.Statement .pullCycleStart :=
  addressed_of_none rfl

theorem Addressed.toWireInPosition : Addressed.Statement .toWireInPosition :=
  addressed_of_none rfl

theorem Addressed.hookEngagement : Addressed.Statement .hookEngagement :=
  addressed_of_none rfl

theorem Addressed.loadCellSample (raw : Nat) (locator : LocatorCode) : Addressed.Statement (.loadCellSample raw locator) :=
  addressed_of_none rfl

theorem Addressed.holdTimerExpiry : Addressed.Statement .holdTimerExpiry :=
  addressed_of_none rfl

theorem Addressed.liftTravelLimit : Addressed.Statement .liftTravelLimit :=
  addressed_of_none rfl

theorem Addressed.releaseEnd : Addressed.Statement .releaseEnd :=
  addressed_of_none rfl

theorem Addressed.reportSendStart : Addressed.Statement .reportSendStart :=
  addressed_of_none rfl

theorem Addressed.reportSendEnd : Addressed.Statement .reportSendEnd :=
  addressed_of_none rfl

theorem Addressed.tick : Addressed.Statement .tick :=
  addressed_of_none rfl

theorem Addressed.fieldEngineWalk : Addressed.Statement .fieldEngineWalk :=
  addressed_of_none rfl

theorem Addressed.rollCallTimerExpiry : Addressed.Statement .rollCallTimerExpiry :=
  addressed_of_none rfl

theorem Addressed.pusherReturnToRest (which : PusherName) : Addressed.Statement (.pusherReturnToRest which) :=
  addressed_of_none rfl

end Sys2Proof.Laws
end

