-- ==== Sys2Proof/Laws/Queue.lean ====
section
/-! SUPPORT. The transmit queue: what a request to queue a frame can do, said once, and how the searches of the queue find the
frame they look for. -/

namespace Sys2Proof.Machine

/-! ## Searches -/

/-- The least member of a list is its `smallest`. -/
theorem smallest_least : ∀ (l : List Nat) (k : Nat), k ∈ l → (∀ x ∈ l, k ≤ x) → smallest l = some k := by
  intro l; induction l with
  | nil => simp
  | cons x xs ih =>
    intro k hk hle
    simp only [smallest]
    cases hs : smallest xs with
    | none =>
      have : xs = [] := by
        cases xs with
        | nil => rfl
        | cons y ys => simp only [smallest] at hs; split at hs <;> simp at hs
      subst this; simp at hk; simp [hk]
    | some y =>
      have hy : y ∈ xs ∧ ∀ z ∈ xs, y ≤ z := by
        clear ih hk hle
        induction xs generalizing y with
        | nil => simp [smallest] at hs
        | cons a as iha =>
          simp only [smallest] at hs
          cases h2 : smallest as with
          | none =>
            have : as = [] := by
              cases as with
              | nil => rfl
              | cons y ys => simp only [smallest] at h2; split at h2 <;> simp at h2
            subst this; simp [smallest] at hs; subst hs; simp
          | some b =>
            obtain ⟨i1, i2⟩ := iha b h2
            simp [h2] at hs; subst hs
            refine ⟨?_, ?_⟩
            · rcases min_choice a b with h | h <;> rw [h] <;> simp [i1]
            · intro z hz; simp at hz; rcases hz with h | h
              · subst h; exact min_le_left _ _
              · exact le_trans (min_le_right _ _) (i2 z h)
      dsimp only
      have h1 := hle x (by simp)
      have h2 := hle y (by simp [hy.1])
      congr 1
      rcases List.mem_cons.mp hk with h | h
      · omega
      · have := hy.2 k h; omega
/-- The first frame that `p` admits is the one changed. -/
theorem changeFirst_split (p : TxEntry → Bool) (f : TxEntry → TxEntry)
    (pre post : List TxEntry) (e : TxEntry)
    (h : ∀ x ∈ pre, p x = false) (he : p e = true) :
    changeFirst p f (pre ++ e :: post) = pre ++ f e :: post := by
  induction pre with
  | nil => simp [changeFirst, he]
  | cons a as ih => simp [changeFirst, h a (by simp)]; exact ih (fun x hx => h x (by simp [hx]))
/-- The first frame that `p` admits is the one removed. -/
theorem dropFirst_split (p : TxEntry → Bool) (pre post : List TxEntry) (e : TxEntry)
    (h : ∀ x ∈ pre, p x = false) (he : p e = true) :
    dropFirst p (pre ++ e :: post) = pre ++ post := by
  induction pre with
  | nil => simp [dropFirst, he]
  | cons a as ih => simp [dropFirst, h a (by simp)]; exact ih (fun x hx => h x (by simp [hx]))
/-- The one frame on the line is found, wherever it stands. -/
theorem onLine_split {s : State} {pre post : List TxEntry} {e : TxEntry} (h : s.line.queue = pre ++ e :: post)
    (hn : ∀ x ∈ pre ++ post, x.onLine = none) (he : e.onLine.isSome = true) : s.line.onLine = some e := by
  unfold LineUnit.onLine; rw [h]
  rw [List.find?_append, List.find?_eq_none.mpr]
  · simp [he]
  · intro x hx; simp [hn x (by simp [hx])]

/-! ## Requests (R174) -/

theorem mergeFrame_length (body : TxBody) (q : List TxEntry) : (mergeFrame body q).length = q.length := by
  induction q with
  | nil => rfl
  | cons e es ih =>
    simp only [mergeFrame]
    split <;> simp [ih]

/-- A frame that merges stands in the queue afterwards. -/
theorem mergeFrame_holds {body : TxBody} {q : List TxEntry} (h : q.any (TxEntry.mergesWith body) = true) :
    ∃ e ∈ mergeFrame body q, e.body = body := by
  induction q with
  | nil => simp at h
  | cons e es ih =>
    simp only [mergeFrame]
    split
    · exact ⟨{ e with body := body }, by simp, rfl⟩
    · next hn =>
      rw [List.any_cons, Bool.or_eq_true] at h
      obtain ⟨x, hx, hb⟩ := ih (h.resolve_left hn)
      exact ⟨x, by simp [hx], hb⟩

theorem dropFirst_length {p : TxEntry → Bool} {q : List TxEntry} (h : q.any p = true) :
    (dropFirst p q).length + 1 = q.length := by
  induction q with
  | nil => simp at h
  | cons e es ih =>
    simp only [dropFirst]
    split
    · simp
    · next hn =>
      rw [List.any_cons, Bool.or_eq_true] at h
      have := ih (h.resolve_left hn)
      simp only [List.length_cons]
      omega

/-- R174: all a request can do: merge, join the queue, wait, take the place of a STATE or ALARM frame, or be lost. -/
theorem LineUnit.request_cases (target : Nat) (body : TxBody) (l : LineUnit) :
    (l.queue.any (TxEntry.mergesWith body) = true ∧ l.request target body = { l with queue := mergeFrame body l.queue }) ∨
    (l.queue.length < 16 ∧ (5 ≤ body.frameClass → l.bulkCount < 8 ∧ l.waiting = []) ∧
      l.request target body = { l with queue := l.queue ++ [⟨target, body, none, false⟩] }) ∨
    (5 ≤ body.frameClass ∧ (8 ≤ l.bulkCount ∨ 16 ≤ l.queue.length ∨ l.waiting ≠ []) ∧
      l.request target body = { l with waiting := l.waiting ++ [⟨target, body, none, false⟩] }) ∨
    (body.frameClass < 5 ∧ 16 ≤ l.queue.length ∧ l.queue.any TxEntry.mayGo = true ∧
      l.request target body = { l with
        queue := dropFirst TxEntry.mayGo l.queue ++ [⟨target, body, none, false⟩], lost := bump 255 l.lost }) ∨
    (body.frameClass < 5 ∧ 16 ≤ l.queue.length ∧ l.queue.any TxEntry.mayGo = false ∧
      l.request target body = { l with lost := bump 255 l.lost }) := by
  unfold LineUnit.request
  dsimp only
  split
  · next h => exact .inl ⟨h, rfl⟩
  · split
    · next hb =>
      have hb5 : 5 ≤ body.frameClass := by simpa [TxEntry.isBulk] using hb
      split
      · next hr =>
        rw [Bool.and_eq_true, List.isEmpty_iff] at hr
        have hc : l.bulkCount < 8 ∧ l.queue.length < 16 := of_decide_eq_true hr.1
        exact .inr (.inl ⟨hc.2, fun _ => ⟨hc.1, hr.2⟩, rfl⟩)
      · next hr =>
        rw [Bool.and_eq_true, List.isEmpty_iff] at hr
        refine .inr (.inr (.inl ⟨hb5, ?_, rfl⟩))
        by_contra hc
        push Not at hc
        exact hr ⟨decide_eq_true (show l.bulkCount < 8 ∧ l.queue.length < 16 from ⟨hc.1, hc.2.1⟩), hc.2.2⟩
    · next hb =>
      have hb5 : body.frameClass < 5 := by simpa [TxEntry.isBulk] using hb
      split
      · next hq => exact .inr (.inl ⟨hq, fun h => absurd h (by omega), rfl⟩)
      · next hq =>
        have hq16 : 16 ≤ l.queue.length := by simpa [Config.queuePlaces] using hq
        split
        · next hg => exact .inr (.inr (.inr (.inl ⟨hb5, hq16, hg, rfl⟩)))
        · next hg => exact .inr (.inr (.inr (.inr ⟨hb5, hq16, by simpa using hg, rfl⟩)))

/-- R174: a frame below class 5 asked for while the queue has room stands in the queue. -/
theorem LineUnit.request_holds (target : Nat) {body : TxBody} {l : LineUnit} (hc : body.frameClass < 5)
    (hq : l.queue.length < 16) : ∃ e ∈ (l.request target body).queue, e.body = body := by
  rcases l.request_cases target body with ⟨h, he⟩ | ⟨-, -, he⟩ | ⟨h, -⟩ | ⟨-, h, -⟩ | ⟨-, h, -⟩
  · rw [he]
    exact mergeFrame_holds h
  · rw [he]
    exact ⟨⟨target, body, none, false⟩, by simp, rfl⟩
  · omega
  · omega
  · omega

/-- R174: a request changes the queue, the frames that wait and the lost count alone. -/
@[simp] theorem LineUnit.request_rest (target : Nat) (body : TxBody) (l : LineUnit) :
    (l.request target body).unheard = l.unheard ∧ (l.request target body).roster = l.roster ∧
    (l.request target body).rollCallTimer = l.rollCallTimer ∧ (l.request target body).ackOut = l.ackOut := by
  rcases l.request_cases target body with ⟨-, he⟩ | ⟨-, -, he⟩ | ⟨-, -, he⟩ | ⟨-, -, -, he⟩ | ⟨-, -, -, he⟩ <;> rw [he] <;>
    exact ⟨rfl, rfl, rfl, rfl⟩

/-! ## A handoff given up (R50) -/

theorem TxEntry.isPartOf_iff {handoff : Nat} {e : TxEntry} :
    e.isPartOf handoff = true ↔ ∃ p, e.body = .record handoff p := by
  unfold TxEntry.isPartOf
  split <;> simp_all

/-- R50: a part of the handoff that is still queued stands on the line, marked. -/
theorem LineUnit.part_of_dropped {handoff : Nat} {l : LineUnit} {e : TxEntry} (he : e ∈ (l.dropParts handoff).queue)
    (hp : e.isPartOf handoff = true) : e.onLine.isSome = true ∧ e.givenUp = true := by
  obtain ⟨x, hx, rfl⟩ := List.mem_map.1 he
  have hp : x.isPartOf handoff = true := hp
  have := (List.mem_filter.1 hx).2
  simp_all

/-- R50: no part of the handoff waits for room. -/
theorem LineUnit.none_waits_of_dropped {handoff : Nat} {l : LineUnit} {e : TxEntry}
    (he : e ∈ (l.dropParts handoff).waiting) : e.isPartOf handoff = false := by
  simpa using (List.mem_filter.1 he).2

/-- R50: giving a handoff up changes the queue and the frames that wait alone. -/
@[simp] theorem LineUnit.dropParts_rest (handoff : Nat) (l : LineUnit) :
    (l.dropParts handoff).unheard = l.unheard ∧ (l.dropParts handoff).lost = l.lost ∧
    (l.dropParts handoff).roster = l.roster ∧ (l.dropParts handoff).rollCallTimer = l.rollCallTimer ∧
    (l.dropParts handoff).ackOut = l.ackOut := ⟨rfl, rfl, rfl, rfl, rfl⟩

/-- R50, R172: a lost contest removes one frame at most, the part given up; every other frame keeps its place. -/
theorem filter_staysQueued_split {pre post : List TxEntry} (e : TxEntry) (hn : ∀ x ∈ pre ++ post, x.onLine = none) :
    (pre ++ e :: post).filter TxEntry.staysQueued = if e.staysQueued then pre ++ e :: post else pre ++ post := by
  have h : ∀ x ∈ pre ++ post, x.staysQueued = true := fun x hx => by simp [TxEntry.staysQueued, hn x hx]
  have h1 : pre.filter TxEntry.staysQueued = pre := List.filter_eq_self.2 fun x hx => h x (by simp [hx])
  have h2 : post.filter TxEntry.staysQueued = post := List.filter_eq_self.2 fun x hx => h x (by simp [hx])
  rw [List.filter_append, List.filter_cons, h1, h2]
  split <;> rfl

end Sys2Proof.Machine
end

