-- ==== Sys2Proof/Laws/State.lean ====
section
/-! SUPPORT. One lemma for each field that a shared update sets, true by unfolding that update once and tagged simp, and the
lemmas by which a frame heard is brought to its handler. -/

namespace Sys2Proof.Machine

/-! ## The queue of commands -/

@[simp] theorem State.withPending_pending (q : List Instr) (s : State) : (s.withPending q).pending = q := rfl
@[simp] theorem State.withPending_control (q : List Instr) (s : State) : (s.withPending q).control = s.control := rfl
@[simp] theorem State.withPending_alarms (q : List Instr) (s : State) : (s.withPending q).alarms = s.alarms := rfl
@[simp] theorem State.withPending_line (q : List Instr) (s : State) : (s.withPending q).line = s.line := rfl
@[simp] theorem State.withPending_loader (q : List Instr) (s : State) : (s.withPending q).loader = s.loader := rfl
@[simp] theorem State.withPending_stage (q : List Instr) (s : State) : (s.withPending q).stage = s.stage := rfl
@[simp] theorem State.withPending_heat (q : List Instr) (s : State) : (s.withPending q).heat = s.heat := rfl
@[simp] theorem State.withPending_wire (q : List Instr) (s : State) : (s.withPending q).wire = s.wire := rfl
@[simp] theorem State.withPending_energy (q : List Instr) (s : State) : (s.withPending q).energy = s.energy := rfl
@[simp] theorem State.withPending_pull (q : List Instr) (s : State) : (s.withPending q).pull = s.pull := rfl
@[simp] theorem State.withPending_elevator (q : List Instr) (s : State) : (s.withPending q).elevator = s.elevator := rfl
@[simp] theorem State.withPending_report (q : List Instr) (s : State) : (s.withPending q).report = s.report := rfl
@[simp] theorem State.withPending_screen (q : List Instr) (s : State) : (s.withPending q).screen = s.screen := rfl
@[simp] theorem State.withPending_ports (q : List Instr) (s : State) : (s.withPending q).ports = s.ports := rfl
@[simp] theorem State.withPending_straps (q : List Instr) (s : State) : (s.withPending q).straps = s.straps := rfl

/-! ## What each update sets -/

@[simp] theorem State.event_screen (k : EventKind) (s : State) : (s.event k).screen = s.screen.raise k := rfl
@[simp] theorem State.send_line (target : Nat) (b : TxBody) (s : State) :
    (s.send target b).line = s.line.request target b := rfl
@[simp] theorem State.answer_line (ack : Bool) (s : State) : (s.answer ack).line = { s.line with ackOut := ack } := rfl
@[simp] theorem State.setStageUnit_stage (f : StageUnit → StageUnit) (s : State) : (s.setStageUnit f).stage = f s.stage := rfl
@[simp] theorem State.setInput_elevator (f : Elevator → Elevator) (s : State) :
    (s.setInput f).elevator = { s.elevator with input := f s.elevator.input } := rfl
@[simp] theorem State.setOutput_elevator (f : Elevator → Elevator) (s : State) :
    (s.setOutput f).elevator = { s.elevator with output := f s.elevator.output } := rfl
@[simp] theorem State.setInputSlot_elevator (n : Nat) (v : InputSlot) (s : State) :
    (s.setInputSlot n v).elevator = { s.elevator with inputSlots := s.elevator.inputSlots.set (n - 1) v } := rfl
@[simp] theorem State.setOutputSlot_elevator (n : Nat) (v : OutputSlot) (s : State) :
    (s.setOutputSlot n v).elevator = { s.elevator with outputSlots := s.elevator.outputSlots.set (n - 1) v } := rfl
@[simp] theorem State.setUnit_stage (u : Nat) (e : UnitEntry) (s : State) :
    (s.setUnit u e).stage = { s.stage with record := s.stage.record.map (StripRecord.setUnit u e) } := rfl
@[simp] theorem State.wireIdle_wire (s : State) :
    s.wireIdle.wire = { s.wire with cycle := .idle, awaits := .none, inFlight := none } := rfl
@[simp] theorem State.startCut_wire (s : State) :
    s.startCut.wire = { s.wire with awaits := .cut, ballReady := false } := rfl
@[simp] theorem State.startCut_ports (s : State) :
    s.startCut.ports = { s.ports with z := .moveTo (s.head (·.safeHeight)), clampClosed := true } := rfl
@[simp] theorem State.startTear_wire (s : State) : s.startTear.wire = { s.wire with awaits := .tear } := rfl
@[simp] theorem State.startTear_ports (s : State) :
    s.startTear.ports = { s.ports with z := .moveTo (s.head (·.safeHeight)), clampClosed := true } := rfl
@[simp] theorem State.flameDone_wire (spark : Bool) (s : State) :
    (s.flameDone spark).wire = { s.wire with ballReady := spark } := rfl
@[simp] theorem State.flameDone_ports (spark : Bool) (s : State) :
    (s.flameDone spark).ports = { s.ports with fire := false } := rfl
@[simp] theorem State.enterReleasing_pull (f : PullInFlight) (s : State) :
    (s.enterReleasing f).pull = { s.pull with cycle := .releasing, holdTimer := .stopped } := rfl
@[simp] theorem State.enterPair_pull (x : PullResult) (s : State) :
    (s.enterPair x).pull = { s.pull with pairs := s.pull.pairs ++ [(x.unit, x.wire)] } := rfl
@[simp] theorem State.enterLogs_pull (x : PullResult) (s : State) :
    (s.enterLogs x).pull = PullUnit.logFailure x { s.pull with log := logResult x s.pull.log } := rfl
@[simp] theorem State.freshStrip_pull (s : State) :
    s.freshStrip.pull = { s.pull with pairs := [], auditCount := 0, confirmTried := false } := rfl
@[simp] theorem State.startDwell_stage (s : State) :
    s.startDwell.stage = { s.stage with dwell := { s.stage.dwell with isRunning := true, reached := false } } := rfl
@[simp] theorem State.startBond_energy (c : Nat) (side : Side) (x : Int) (s : State) :
    (s.startBond c side x).energy = { s.energy with bond := some (s.newBond c side x) } := rfl
@[simp] theorem State.closeBond_energy (b : Bond) (o : BondOutcome) (s : State) :
    (s.closeBond b o).energy = { s.energy with
      bond := none
      lastBond := some ⟨b.bondClass, b.side, b.power, b.saturated, o, b.samples, b.sink, b.generator⟩
      fastCount := if o = .fast then bump Config.runningCap s.energy.fastCount else s.energy.fastCount } := rfl
@[simp] theorem State.closeBond_ports (b : Bond) (o : BondOutcome) (s : State) :
    (s.closeBond b o).ports = { s.ports with ultrasonic := 0, bondForce := none } := rfl
@[simp] theorem State.clearRequests_control (s : State) :
    s.clearRequests.control = { s.control with holdRequest := false, lineStarted := false, restartWaiting := false } := rfl
@[simp] theorem State.refuseResume_screen (s : State) :
    s.refuseResume.screen = { s.screen with notice := true } := rfl

/-! ## Station, head and stage state -/

/-- What a change of the station state does to station control. -/
theorem State.setStation_control (st : StationState) (s : State) :
    (s.setStation st).control =
      if st = s.control.station then s.control
      else { s.control with station := st, holdRequest := s.control.holdRequest && decide (st ≠ .held) } := by
  unfold State.setStation
  split <;> rfl

@[simp] theorem State.setStation_station (st : StationState) (s : State) :
    (s.setStation st).control.station = st := by
  rw [State.setStation_control]
  split
  · next h => exact h.symm
  · rfl

@[simp] theorem State.setStation_head (st : StationState) (s : State) :
    (s.setStation st).control.head = s.control.head := by
  rw [State.setStation_control]; split <;> rfl

@[simp] theorem State.setStation_lineStarted (st : StationState) (s : State) :
    (s.setStation st).control.lineStarted = s.control.lineStarted := by
  rw [State.setStation_control]; split <;> rfl

@[simp] theorem State.setStation_restartWaiting (st : StationState) (s : State) :
    (s.setStation st).control.restartWaiting = s.control.restartWaiting := by
  rw [State.setStation_control]; split <;> rfl

@[simp] theorem State.setHead_control (h : HeadState) (s : State) :
    (s.setHead h).control = { s.control with head := h } := by
  unfold State.setHead
  split
  · next e => subst e; rfl
  · rfl

@[simp] theorem State.setStage_stage (st : StageState) (s : State) :
    (s.setStage st).stage = { s.stage with state := st } := by
  unfold State.setStage
  split
  · next e => subst e; rfl
  · rfl

/-- The dwell limit the end of a load leaves in force (R40). -/
@[simp] theorem State.latchDwell_stage (s : State) :
    s.latchDwell.stage = { s.stage with dwell := { s.stage.dwell with limit := s.dwellLimit } } := rfl

/-- What taking a strip gives the stage (R38, R40). -/
@[simp] theorem State.takeStrip_stage (r : StripRecord) (c : Nat) (s : State) :
    (s.takeStrip r c).stage = { s.stage with
      state := .loaded
      record := some r
      assembly := none
      kept := none
      note := none
      transferTimer := .stopped
      dwell := { s.stage.dwell with isRunning := true, reached := false }
      column := c
      coverWait := false
      working := false
      push := .notBegun
      lastPartLeft := false
      closeWhenLeft := false } := by
  unfold State.takeStrip
  simp

@[simp] theorem State.takeStrip_pull (r : StripRecord) (c : Nat) (s : State) :
    (s.takeStrip r c).pull = { s.pull with pairs := [], auditCount := 0, confirmTried := false } := by
  unfold State.takeStrip
  simp

@[simp] theorem State.stopDwell_stage (s : State) :
    s.stopDwell.stage = { s.stage with dwell := { s.stage.dwell with isRunning := false } } := by
  unfold State.stopDwell
  dsimp only
  split <;> simp

/-- What discarding leaves on the stage. -/
@[simp] theorem State.emptyStage_stage (s : State) :
    s.emptyStage.stage = { s.stage with
      state := .empty
      record := none
      assembly := none
      kept := none
      offerTimer := .stopped
      transferTimer := .stopped
      dwell := { s.stage.dwell with isRunning := false }
      coverWait := false
      working := false
      push := .notBegun
      lastPartLeft := false
      closeWhenLeft := false } := by
  unfold State.emptyStage
  dsimp only
  split <;> simp

@[simp] theorem State.offerClosed_stage (timer : Timer) (s : State) :
    (s.offerClosed timer).stage = { s.stage with state := .finished, offerTimer := timer } := by
  unfold State.offerClosed
  simp

@[simp] theorem State.takeBack_stage (s : State) :
    s.takeBack.stage = { s.stage with
      state := .finished
      transferTimer := .stopped
      push := .notBegun
      lastPartLeft := false
      closeWhenLeft := false } := by
  unfold State.takeBack
  simp

@[simp] theorem State.endCoverWait_stage (s : State) :
    s.endCoverWait.stage = { s.stage with coverWait := false } := by
  unfold State.endCoverWait
  split
  · simp
  · next h => simp at h; rw [← h]

/-! ## Hearing a frame (R171) -/

/-- A broadcast of another station reaches its handler, acknowledged. -/
theorem State.hear_peer {s : State} {k : Nat} (h : s.IsPeer k) (handle : State → State) :
    s.hear k 0 handle = handle (s.answer true) := by
  obtain ⟨h1, h2, h3⟩ := h
  unfold State.hear
  rw [if_neg (by omega), if_neg (by omega), if_neg h3]

/-- A frame of another station addressed to this one reaches its handler, acknowledged. -/
theorem State.hear_own {s : State} {k : Nat} (h : s.IsPeer k) (handle : State → State) :
    s.hear k s.straps.station handle = handle (s.answer true) := by
  obtain ⟨h1, h2, h3⟩ := h
  unfold State.hear
  rw [if_neg (by omega), if_neg (by simp), if_neg h3]

/-- A frame addressed to another station is acknowledged and nothing else. -/
theorem State.hear_other {s : State} {k target : Nat} (h : s.IsPeer k) (h0 : target ≠ 0)
    (ht : target ≠ s.straps.station) (handle : State → State) : s.hear k target handle = s.answer true := by
  obtain ⟨h1, h2, h3⟩ := h
  unfold State.hear
  rw [if_neg (by omega), if_pos ⟨h0, ht⟩]

/-- Outside BOOT a frame is handed on. -/
theorem State.outsideBoot_pos {s : State} (h : s.control.station ≠ .boot) (handle : State → State) :
    s.outsideBoot handle = handle s := by
  unfold State.outsideBoot
  rw [if_neg h]

/-- In BOOT it is not. -/
theorem State.outsideBoot_neg {s : State} (h : s.control.station = .boot) (handle : State → State) :
    s.outsideBoot handle = s := by
  unfold State.outsideBoot
  rw [if_pos h]

/-- R143: the conditions of unloading, each by itself. -/
theorem State.unloadReady_iff (s : State) :
    s.unloadReady = true ↔ (s.control.station = .run ∨ s.control.station = .paused) ∧ s.outputSlot?.isSome = true ∧
      s.reportPlace = true ∧ s.stage.indexMotion = none ∧ s.pull.cycle = .idle ∧ s.resultWaiting = false := by
  simp [State.unloadReady, State.runOrPaused, and_assoc]

end Sys2Proof.Machine
end

