-- ==== Sys2Proof/Laws/Records.lean ====
section
/-! SUPPORT. What the requests of the blocks do to the strip record, to the stock and to the report table, each said once. -/

namespace Sys2Proof.Machine

/-! ## Reading a unit entry back -/

/-- A unit entry set is read back; the others read as before. -/
theorem State.unit?_setUnit (u v : Nat) (e : UnitEntry) (s : State) :
    (s.setUnit u e).unit? v = if v = u ∧ (s.unit? u).isSome = true then some e
      else if v ≠ 0 ∧ u = 0 ∧ v = 1 ∧ (s.unit? 1).isSome = true then some e else s.unit? v := by
  cases hr : s.stage.record with
  | none => simp [State.unit?, State.tracked?, State.setUnit, hr]
  | some r =>
    cases ht : r.tracked with
    | none => simp [State.unit?, State.tracked?, State.setUnit, StripRecord.setUnit, hr, ht]
    | some t =>
      simp only [State.unit?, State.tracked?, State.setUnit, StripRecord.setUnit, hr, ht, TrackedPart.unit?,
        Option.map_some, Option.bind_some, List.getElem?_set]
      by_cases hv : v = 0
      · subst hv
        by_cases hu : u = 0 <;> simp [hu]
        omega
      · by_cases hu : u = 0
        · subst hu
          by_cases h1 : v = 1
          · subst h1
            by_cases hl : 0 < t.table.length <;> simp [hl]
          · have : ¬ (0 = v - 1) := by omega
            simp [hv, h1, this]
        · by_cases he : v = u
          · subst he
            by_cases hl : v - 1 < t.table.length <;> simp [hv, hl]
          · have : ¬ (u - 1 = v - 1) := by omega
            simp [hv, hu, he, this]

/-- The entry of a unit of the table, set and read back. -/
theorem State.unit?_setUnit_self {u : Nat} {old : UnitEntry} (e : UnitEntry) {s : State} (h : s.unit? u = some old) :
    (s.setUnit u e).unit? u = some e := by
  rw [State.unit?_setUnit, if_pos ⟨rfl, by rw [h]; rfl⟩]

/-- Setting one unit leaves another as it was. -/
theorem State.unit?_setUnit_ne {u v : Nat} (e : UnitEntry) {s : State} (hu : u ≠ 0) (h : v ≠ u) :
    (s.setUnit u e).unit? v = s.unit? v := by
  rw [State.unit?_setUnit, if_neg (fun c => h c.1), if_neg (fun c => hu c.2.1)]

/-! ## Requests (R4, R9, R13) -/

/-- R4, R13: all a request for a REJECT can do: on an OPEN unit of a LOADED stage, the status with its cause, the count and
UNIT_CHANGE; on any other, nothing. -/
theorem State.requestReject_cases {u : Nat} {e : UnitEntry} (cause : RejectCause) {s : State} (h : s.unit? u = some e) :
    (s.stage.state = .loaded ∧ e.status = .isOpen ∧
      s.requestReject u cause = { s.setUnit u { e with status := .reject cause } with
        wire := { s.wire with unitsRejected := bump Config.runningCap s.wire.unitsRejected }
        screen := s.screen.raise .unitChange }) ∨
    ((s.stage.state ≠ .loaded ∨ e.status ≠ .isOpen) ∧ s.requestReject u cause = s) := by
  unfold State.requestReject
  rw [h]
  simp only [State.workMayChange, decide_eq_true_eq]
  split
  · next hc => exact .inl ⟨hc.1, hc.2, rfl⟩
  · next hc =>
    refine .inr ⟨?_, rfl⟩
    by_contra hn
    push Not at hn
    exact hc hn

/-- R4: the entry of the unit after a request made on a LOADED stage. -/
theorem State.requestReject_unit {u : Nat} {e : UnitEntry} (cause : RejectCause) {s : State} (h : s.unit? u = some e)
    (hl : s.stage.state = .loaded) :
    (s.requestReject u cause).unit? u =
      some { e with status := if e.status = .isOpen then .reject cause else e.status } := by
  rcases State.requestReject_cases cause h with ⟨-, ho, he⟩ | ⟨hn, he⟩
  · rw [he, if_pos ho]
    exact State.unit?_setUnit_self _ h
  · have ho : e.status ≠ .isOpen := hn.resolve_left (fun c => c hl)
    rw [he, h, if_neg ho]

/-- R9, R13: the pull mark on a unit of a stage that lets the pull unit change the record. -/
theorem State.pullMark_unit {u : Nat} {e : UnitEntry} (o : PullOutcome) {s : State} (h : s.unit? u = some e)
    (hm : s.pullMayChange = true) :
    (s.pullMark u o).unit? u =
      some { e with pulls := bump Config.pullCountCap e.pulls, worst := some (worse e.worst o) } := by
  unfold State.pullMark
  rw [h]
  dsimp only
  rw [if_pos hm]
  exact State.unit?_setUnit_self _ h

/-- R4, R129: the entry of the unit after a REJECT the pull unit asks for. -/
theorem State.requestPullReject_unit {u : Nat} {e : UnitEntry} (cause : RejectCause) {s : State} (h : s.unit? u = some e)
    (hm : s.pullMayChange = true) :
    (s.requestPullReject u cause).unit? u =
      some { e with status := if e.status = .isOpen ∨ e.status = .done then .reject cause else e.status } := by
  unfold State.requestPullReject
  rw [h]
  dsimp only
  split
  · next hc =>
    rw [if_pos hc.2]
    exact State.unit?_setUnit_self (s := s) _ h
  · next hc =>
    rw [h, if_neg (fun c => hc ⟨hm, c⟩)]

/-! ## Suspects (R10) -/

/-- R10: all a request to add a suspect to a tracked record can do: nothing, one more entry, or one more dropped with
SUSPECT_DROP. -/
theorem State.addSuspect_cases (u w : Nat) (cause : SuspectCause) {s : State} {r : StripRecord} {t : TrackedPart}
    (hr : s.stage.record = some r) (ht : r.tracked = some t) :
    ((s.stage.state ≠ .loaded ∨ ∃ x ∈ t.suspects, x.unit = u ∧ x.wire = w) ∧ s.addSuspect u w cause = s) ∨
    (t.suspects.length < 16 ∧ s.addSuspect u w cause = { s with stage := { s.stage with
      record := some { r with tracked := some { t with suspects := t.suspects ++ [⟨u, w, cause⟩] } } } }) ∨
    (16 ≤ t.suspects.length ∧ s.addSuspect u w cause =
      State.raiseAlarm Source.suspectDrop (.unitWire u w) { s with stage := { s.stage with
        record := some { r with tracked := some { t with dropped := bump 255 t.dropped } } } }) := by
  unfold State.addSuspect
  rw [hr]
  dsimp only
  rw [ht]
  dsimp only
  split
  · next hc =>
    refine .inl ⟨?_, rfl⟩
    rcases hc with hc | hc
    · exact .inl (by simpa [State.workMayChange] using hc)
    · exact .inr (by simpa using hc)
  · split
    · next hl => exact .inr (.inl ⟨hl, rfl⟩)
    · next hl => exact .inr (.inr ⟨by simpa [Config.suspectPlaces] using hl, rfl⟩)

/-! ## The debit (R79) -/

/-- R79: the stock after a debit, and the wire in flight, whose mark is TAKEN where it was DUE. -/
theorem State.debit_wire {s : State} {f : WireInFlight} (h : s.wire.inFlight = some f) :
    s.debit.wire = (if f.debit = .due then
      { s.wire with stock := s.wire.stock - f.use, inFlight := some { f with debit := .taken } } else s.wire) := by
  unfold State.debit
  rw [h]
  dsimp only
  split
  · unfold State.judgeStock
    split <;> simp
  · rfl

/-! ## Filing (R149) -/

/-- R149: the entry of a result's line sequence takes it, wherever the entry stands. -/
theorem fileInto_split (r : PullResult) (pre post : List ReportEntry) (e : ReportEntry) (h : ∀ x ∈ pre, x.lineSeq ≠ r.lineSeq)
    (he : e.lineSeq = r.lineSeq) :
    fileInto r (pre ++ e :: post) = pre ++
      (if e.lines.length < 24 then { e with lines := e.lines ++ [r] }
        else { e with dropped := bump 255 e.dropped }) :: post := by
  induction pre with
  | nil => simp [fileInto, he, Config.pullLinePlaces, Config.byteCap]
  | cons a as ih =>
    have ha : a.lineSeq ≠ r.lineSeq := h a (by simp)
    simp only [List.cons_append, fileInto, if_neg ha]
    rw [ih (fun x hx => h x (by simp [hx]))]

/-- R149: all the filing of a result can do. -/
theorem State.fileResult_cases (r : PullResult) (s : State) :
    ((s.straps.outfeed = false ∨ s.control.station = .boot ∨ r.lineSeq = 0) ∧ s.fileResult r = s) ∨
    ((∃ e ∈ s.report.table, e.lineSeq = r.lineSeq) ∧
      s.fileResult r = { s with report := { s.report with table := fileInto r s.report.table } }) ∨
    ((∀ e ∈ s.report.table, e.lineSeq ≠ r.lineSeq) ∧ s.report.table.length < 4 ∧
      s.fileResult r = { s with report := { s.report with table := s.report.table ++ [⟨r.lineSeq, [r], 0⟩] } }) ∨
    ((∀ e ∈ s.report.table, e.lineSeq ≠ r.lineSeq) ∧ 4 ≤ s.report.table.length ∧
      s.fileResult r = State.raiseAlarm Source.reportLoss (.lineSeq r.lineSeq)
        { s with report := { s.report with lost := bump 255 s.report.lost } }) := by
  unfold State.fileResult
  split
  · next h => exact .inl ⟨h, rfl⟩
  · split
    · next h => exact .inr (.inl ⟨by simpa using h, rfl⟩)
    · next h =>
      have hn : ∀ e ∈ s.report.table, e.lineSeq ≠ r.lineSeq := by simpa using h
      split
      · next hl => exact .inr (.inr (.inl ⟨hn, hl, rfl⟩))
      · next hl => exact .inr (.inr (.inr ⟨hn, by simpa [Config.assemblyPlaces] using hl, rfl⟩))

end Sys2Proof.Machine
end

