-- ==== Sys2Proof/Tests/Slice0.lean ====
section
/-! SUPPORT. Tests of one command each, on small states built from one program, and a witness theorem for each statement with
hypotheses. Expected values come from the manual's worked cases and tables, or from hand calculation by its rules; each section
names its source. -/

namespace Sys2Proof.Tests

open Machine

/-! ## Fixtures -/

/-- The class of the worked case of chapter 5.5, with the pull forces of chapter 7. -/
def nominalSet : BondSet := ⟨60, 40, 420, 10, 30, 120, 40, 25, 80⟩

def nominalClass : BondClassRow := ⟨nominalSet, nominalSet, 600, 700⟩

/-- Two columns of two rows; the three wires of the table in R66; station 1 bonds wires 1 to 3, station 2 is its spare. -/
def rawProgram : RawProgram where
  columns := 2
  rows := 2
  wires := [⟨100, 0, 1300, -500, 3, 0⟩, ⟨0, 0, 700, 400, 3, 1⟩, ⟨0, 0, 0, 900, 3, 2⟩]
  profiles := [⟨200, 50, 1450⟩, ⟨200, 50, 1800⟩, ⟨200, 50, 1200⟩] ++ List.replicate 5 ⟨200, 50, 1000⟩
  head := ⟨8000, 1500, 400, 5000, 300, 50000000, 5000⟩
  classes := List.replicate 16 nominalClass
  segments := ⟨1, 3⟩ :: List.replicate 7 ⟨4, 3⟩
  spares := 2 :: List.replicate 7 0
  levels := List.replicate 32 5
  mask := 2
  zones := List.replicate 6 ⟨true, 195, 180, 210⟩
  coolOff := 5
  columnZones := [1, 2]
  dwellLimit := 900
  offerTimeout := 1000
  transferTimeout := 3000
  pull := ⟨200, 50, 4000, 2500, 50, some .every, 2, 200, false, 29⟩
  planCount := 1
  plan := [⟨3, 2, some .destruct⟩]
  magazine := ⟨20, 20, some .up, some .up, 2000⟩
  pageCount := 2
  pageKinds := .some .spool :: List.replicate 7 (some .failures)
  triggers := ⟨some .tick, 0, 0, true⟩ :: List.replicate 31 ⟨some .tick, 0, 63, false⟩
  descriptors := ⟨some .wireStock, 0, 0, 2, 0, 0, 10, some .dec, 1, true, false⟩ ::
    List.replicate 63 ⟨some .stationState, 0, 0, 0, 0, 0, 1, some .text, 1, true, false⟩

/-- The program as the loader settles it. -/
def program : Program := (settleProgram rawProgram).1

/-- The body of the test image and its header, whose check is the CRC-32 of the nine digits. -/
def bodyBytes : List Byte := [0x31, 0x32, 0x33, 0x34, 0x35, 0x36, 0x37, 0x38, 0x39]
def headerBytes : List Byte := [0, 1, 0, 12, 0, 0, 0, 9, 0xCB, 0xF4, 0x39, 0x26]
def image : Image := ⟨true, headerBytes, bodyBytes, rawProgram⟩

/-- The next state of an outcome, or the reset state where there is none. -/
def after (o : Host.Outcome State Fault Refusal) : State :=
  match o with
  | .next s => s
  | _ => State.reset

/-- Straps of station `k`. -/
def strapsOf (k : Nat) (role : Role) (infeed outfeed : Bool) : Straps := ⟨k, role, infeed, outfeed⟩

/-- A station `k` in RUN with the program loaded and nothing on its stage. -/
def running (p : Straps) : State :=
  { State.reset with
    straps := p
    control := ⟨.run, .headOut, true, false, false⟩
    loader := ⟨.valid 0 program, 0⟩ }

/-- The strip of the worked sequences: slot 4 of magazine 12, line sequence 58, two segments carried. -/
def strip : StripRecord := freshRecord program ⟨12, 4⟩ 58 2 []

/-- Station 1 in RUN with its head IN, the strip LOADED at column 1, a full spool and a ball. -/
def bonding : State :=
  let s := running (strapsOf 1 .head true false)
  { s with
    control := { s.control with head := .headIn }
    stage := { s.stage with state := .loaded, record := some strip, column := 1 }
    wire := { s.wire with ballReady := true, stock := 50000000 } }

/-! ## WellFormed smoke: an ill-formed term for each check, which the check refuses -/

def goodFrameInstr : Instr := .takeFrame 2 1 ⟨255, ⟨9999, 50⟩, 65535⟩
def goodPull : PullResult := ⟨⟨12, 4⟩, 58, 1, 9, 5, 2, .suspect, .nondestruct, .failNd, .heel, 1874, false, false⟩

theorem test_wf_accepts : goodFrameInstr.wellFormed = true ∧ (Instr.loadEnd image).wellFormed = true ∧
    (Instr.pullResultFrame 3 goodPull).wellFormed = true ∧
    (Instr.recordFrame 1 2 ⟨0, .header ⟨⟨12, 4⟩, 58, true, false, true, 64, 8, 255⟩⟩).wellFormed = true := by decide +kernel
theorem test_wf_straps : (Instr.powerOn ⟨9, .head, true, false⟩ ⟨false, false, false⟩).wellFormed = false := by decide
theorem test_wf_sender : (Instr.stopFrame 0).wellFormed = false ∧ (Instr.restartFrame 9).wellFormed = false ∧
    (Instr.lineStartFrame 0).wellFormed = false ∧ (Instr.stateFrame 9 ⟨.run, .headIn, .empty, true, none⟩).wellFormed = false :=
  by decide
theorem test_wf_target : (Instr.offerFrame 1 0 ⟨1, ⟨12, 4⟩, 58, true, 4⟩).wellFormed = false := by decide
theorem test_wf_present : (Instr.presentFrame 2 ⟨2, .head, false, false, 0, [2, 1]⟩).wellFormed = false := by decide
theorem test_wf_alarm : (Instr.alarmFrame 2 ⟨32, .note, 1, .active, .none, none⟩).wellFormed = false ∧
    (Instr.alarmFrame 2 ⟨31, .note, 17, .active, .none, none⟩).wellFormed = false := by decide
theorem test_wf_detail : (Instr.alarmFrame 2 ⟨9, .hold, 5, .active, .unitWire 256 1, none⟩).wellFormed = false := by decide
theorem test_wf_summary : (Instr.alarmFrame 2 ⟨9, .hold, 5, .active, .none, some ⟨32, .hold, 5⟩⟩).wellFormed = false := by decide
theorem test_wf_offer : (Instr.offerFrame 1 2 ⟨0, ⟨12, 4⟩, 58, true, 4⟩).wellFormed = false ∧
    (Instr.offerFrame 1 2 ⟨1, ⟨12, 4⟩, 58, true, 65⟩).wellFormed = false := by decide
theorem test_wf_serial : (Instr.takeFrame 2 1 ⟨1, ⟨10000, 4⟩, 58⟩).wellFormed = false ∧
    (Instr.takeFrame 2 1 ⟨1, ⟨12, 51⟩, 58⟩).wellFormed = false := by decide
theorem test_wf_take : (Instr.takeFrame 2 1 ⟨256, ⟨12, 4⟩, 58⟩).wellFormed = false := by decide
theorem test_wf_refuse : (Instr.refuseFrame 2 1 ⟨256, .notRunning⟩).wellFormed = false := by decide
theorem test_wf_arrived : (Instr.arrivedFrame 2 1 ⟨1, 65536⟩).wellFormed = false := by decide
theorem test_wf_header : (Instr.recordFrame 1 2 ⟨1, .header ⟨⟨12, 4⟩, 58, true, false, true, 4, 3, 0⟩⟩).wellFormed = false ∧
    (Instr.recordFrame 1 2 ⟨0, .header ⟨⟨12, 4⟩, 58, true, false, true, 4, 9, 0⟩⟩).wellFormed = false := by decide
theorem test_wf_unit : (Instr.recordFrame 1 2 ⟨1, .unit ⟨.isOpen, 16, none, []⟩⟩).wellFormed = false := by decide
theorem test_wf_segments : (Instr.recordFrame 1 2 ⟨1, .unit ⟨.isOpen, 0, none, []⟩⟩).wellFormed = false := by decide
theorem test_wf_progress : (Instr.recordFrame 1 2 ⟨1, .unit ⟨.isOpen, 0, none, [⟨512, 0, 0, 1⟩]⟩⟩).wellFormed = false := by decide
theorem test_wf_suspect : (Instr.recordFrame 1 2 ⟨5, .suspects [⟨65, 1, .saturated⟩]⟩).wellFormed = false ∧
    (Instr.recordFrame 1 2 ⟨5, .suspects (List.replicate 17 ⟨1, 1, .saturated⟩)⟩).wellFormed = false := by decide +kernel
theorem test_wf_result : (Instr.pullResultFrame 3 { goodPull with force := 65536 }).wellFormed = false := by decide
theorem test_wf_image : (Instr.loadEnd { image with header := [0] }).wellFormed = false := by decide +kernel
theorem test_wf_fields : (Instr.loadEnd { image with fields := { rawProgram with spares := [] } }).wellFormed = false := by
  decide +kernel
theorem test_wf_ink : (Instr.inkMark 0).wellFormed = false ∧ (Instr.inkMark 65).wellFormed = false := by decide
theorem test_wf_sample : (Instr.loadCellSample 65536 .other).wellFormed = false := by decide
theorem test_wf_frame : frameGood ⟨1, 0, .stop⟩ = true ∧ frameGood ⟨9, 0, .stop⟩ = false ∧ frameGood ⟨1, 256, .stop⟩ = false := by
  decide

/-! ## Bytes (R182, R183): the CRC values of the nine digits are the published check values of the two polynomials -/

theorem test_crc16 : crc16 bodyBytes = 0x29B1#16 := by decide +kernel
theorem test_crc32 : crc32 bodyBytes = 0xCBF43926#32 := by decide +kernel
/-- R183: class 4, kind 9, sender 3, target 2, three payload bytes: offer number 7 and line sequence 58. -/
theorem test_frame_layout : frameBody ⟨3, 2, .arrived ⟨7, 58⟩⟩ = [4, 9, 3, 2, 3, 7, 0, 58] := by decide +kernel
/-- R182: the kind code 9 of that frame leaves most significant bit first, after the eight bits of class 4. -/
theorem test_frame_bits : (frameBits ⟨3, 2, .arrived ⟨7, 58⟩⟩).take 16 =
    [false, false, false, false, false, true, false, false, false, false, false, false, true, false, false, true] := by decide +kernel
/-- R171: a good check, but a class that is not the kind's: no acknowledgement. -/
theorem test_frame_wrong_class :
    goodFrame ([3, 9, 3, 2, 3, 7, 0, 58] ++ crcBytes [3, 9, 3, 2, 3, 7, 0, 58]) = none := by decide +kernel
/-- R182, R185: a reason code that names no reason is decoded to no frame, though the frame itself is good. -/
theorem test_frame_unnamed_code :
    (goodFrame ([4, 8, 3, 2, 2, 7, 0] ++ crcBytes [4, 8, 3, 2, 2, 7, 0])).isSome = true ∧
      decodeFrame ([4, 8, 3, 2, 2, 7, 0] ++ crcBytes [4, 8, 3, 2, 2, 7, 0]) = none := by decide +kernel

/-- R2, R184: a unit part with no progress entry is 3 bytes long, which no record's is; one with one entry is 7. -/
theorem test_unit_part_length :
    lengthAgrees 10 [1, 0, 0] = false ∧ lengthAgrees 10 [1, 0, 0, 1, 0, 0, 0] = true := by decide
/-- R182: a summary's class code is checked also where its source is 255. -/
theorem test_summary_class_checked :
    let body (cls : Byte) : List Byte := [2, 3, 3, 0, 11, 9, 1, 5, 0, 0, 0, 0, 0, 255, cls, 0]
    (goodFrame (body 9 ++ crcBytes (body 9))).isSome = true ∧ decodeFrame (body 9 ++ crcBytes (body 9)) = none := by
  decide +kernel

/-! ## Worked cases of chapters 4 and 5 -/

/-- R66's table: the uses of wires A, B and C. -/
theorem test_uses : wireUse ⟨100, 0, 1300, -500, 3, 0⟩ 1450 300 = 2185 ∧ wireUse ⟨0, 0, 700, 400, 3, 1⟩ 1800 300 = 1750 ∧
    wireUse ⟨0, 0, 0, 900, 3, 2⟩ 1200 300 = 1380 := by decide +kernel
/-- Section 5.5: power 436 with trim +3 and compensation 1, and its demand over ten ramp steps. -/
theorem test_demand : effectivePower 420 3 1 = 436 ∧ isSaturated 420 3 1 = false ∧
    (List.range 11).map (fun i => demandAt 436 10 (i + 1)) = [43, 87, 130, 174, 218, 261, 305, 348, 392, 436, 436] := by
  decide +kernel
/-- Section 5.5: how the five bonds of that class end. -/
theorem test_bond_ends : judgeSample nominalSet 73 40 = some .sinkMet ∧ judgeSample nominalSet 22 40 = some .fast ∧
    judgeSample nominalSet 120 31 = some .timed ∧ judgeSample nominalSet 120 22 = some .short ∧
    judgeSample nominalSet 51 85 = some .crush ∧ judgeSample nominalSet 119 31 = none := by decide
/-- Section 5.5: powers at the limits, saturated at a product above 100 000 only. -/
theorem test_power_limits : effectivePower 960 20 10 = 1000 ∧ isSaturated 960 20 10 = true ∧ effectivePower 1000 0 0 = 1000 ∧
    isSaturated 1000 0 0 = false ∧ effectivePower 1000 (-20) 0 = 800 ∧ effectivePower 770 20 1 = 931 ∧
    effectivePower 500 0 0 = 500 ∧ effectivePower 0 20 9 = 0 := by decide +kernel
/-- R86: compensation is a fifth of the deficit, rounded down, at most 10. -/
theorem test_compensation : compensation 9 = 1 ∧ compensation 4 = 0 ∧ compensation 49 = 9 ∧ compensation 80 = 10 := by decide +kernel

/-- Section 5.7: feedback on one class, one result a line. -/
theorem test_trims : (⟨3, 0, 5⟩ : TrimEntry).taught .pass .noBreak = ⟨3, 0, 6⟩ ∧
    (⟨3, 0, 7⟩ : TrimEntry).taught .held .noBreak = ⟨2, 0, 0⟩ ∧ (⟨2, 0, 0⟩ : TrimEntry).taught .lift2 .stitchLift = ⟨2, 2, 0⟩ ∧
    (⟨2, 2, 0⟩ : TrimEntry).taught .low .neck = ⟨1, 2, 0⟩ ∧ (⟨1, 2, 0⟩ : TrimEntry).taught .noHook .noBreak = ⟨1, 2, 0⟩ ∧
    (⟨1, 2, 0⟩ : TrimEntry).taught .lift1 .ballLift = ⟨3, 2, 0⟩ ∧ (⟨3, 2, 0⟩ : TrimEntry).taught .failNd .span = ⟨3, 2, 0⟩ := by
  decide
/-- Section 5.7: class 7 at the limits. -/
theorem test_trim_limits : (⟨19, -20, 0⟩ : TrimEntry).taught .lift1 .ballLift = ⟨20, -20, 0⟩ ∧
    (⟨19, -20, 0⟩ : TrimEntry).limitPassed .lift1 .ballLift = true ∧
    (⟨20, -20, 0⟩ : TrimEntry).taught .failNd .heel = ⟨20, -20, 0⟩ ∧
    (⟨20, -20, 0⟩ : TrimEntry).limitPassed .failNd .heel = true ∧
    (⟨20, -20, 0⟩ : TrimEntry).taught .low .neck = ⟨19, -20, 0⟩ ∧ (⟨20, -20, 0⟩ : TrimEntry).limitPassed .low .neck = false ∧
    (⟨19, -20, 7⟩ : TrimEntry).taught .pass .noBreak = ⟨18, -19, 0⟩ := by decide

/-! ## The record of section 1.10 and the pull of section 7.3 -/

/-- Section 1.10: the progress of a segment that station 1 starts, and R7's attribution after a second station takes over. -/
theorem test_progress : Progress.completed ⟨1, 0, 0, 1⟩ 1 1 1 = ⟨2, 1, 1, 1⟩ ∧
    Progress.completed ⟨2, 1, 1, 1⟩ 1 2 1 = ⟨3, 1, 1, 1⟩ ∧ Progress.completed ⟨3, 1, 1, 1⟩ 2 3 1 = ⟨4, 1, 2, 3⟩ ∧
    Progress.completed ⟨4, 1, 2, 3⟩ 3 4 1 = ⟨5, 1, 2, 3⟩ := by decide
/-- R11: 58 is the second strip of the sampling interval 29. -/
theorem test_sample_flag : sampled 29 58 = true ∧ sampled 29 57 = false := by decide
/-- R14: a strip of U units goes in U + 2 parts. -/
theorem test_parts : strip.parts.length = 6 := by decide +kernel

/-- R123: the forces of the sample table, with tare 1210 and gain 2500, and the break at the last sample. -/
theorem test_forces : [1100, 2410, 3610, 4510, 5310, 1900].map (rawForce 2500 1210) = [0, 732, 1464, 2014, 2502, 421] := by
  decide +kernel
theorem test_break : (⟨1, 1, 3, 1, .plan, .destruct, some 1210, 2502, 421, false⟩ : PullInFlight).breakSeen = true ∧
    breakOutcome .destruct 700 2502 .neck = .pass ∧ breakOutcome .destruct 3000 2502 .neck = .low ∧
    (⟨1, 1, 3, 1, .plan, .destruct, some 1210, 49, 0, false⟩ : PullInFlight).breakSeen = false := by decide
/-- R124 to R126: the travel limit with a peak at the test, below it, and below 50 cgf. -/
theorem test_limits : limitOutcome .destruct 700 700 = .pass ∧ limitOutcome .destruct 700 699 = .low ∧
    limitOutcome .nondestruct 700 699 = .failNd ∧ limitOutcome .nondestruct 700 49 = .noHook := by decide

/-! ## Text: section 12.6's lines and section 10.8's rows -/

theorem test_unit_line : lineText (.unit 1 ⟨.reject .pullFail, 2, some .failNd, [⟨7, 1, 1, 1⟩, ⟨11, 2, 2, 7⟩, ⟨11, 0, 0, 11⟩]⟩) =
    word "U 1 REJECT PULL_FAIL 2 FAIL_ND 7/1/1/1 11/2/2/7 11/0/0/11" := by decide +kernel
theorem test_pull_line : lineText (.pull goodPull) = word "P 0012-04 58 1 9 5 2 SUSPECT NONDESTRUCT FAIL_ND HEEL 1874 - -" := by
  decide +kernel
theorem test_end_line : lineText (.ending 58 8 2 0) = word "E 58 8 2 0" := by decide +kernel
/-- R149: before and after in the ring of line sequences, across its end. -/
theorem test_seq_before : seqBefore 57 58 = true ∧ seqBefore 58 57 = false ∧ seqBefore 65535 1 = true ∧ seqBefore 58 58 = false := by
  decide

/-- R164: the formats, with a value too wide for its field. -/
theorem test_formats : formatValue .dec 3 (.number 5) = word "  5" ∧ formatValue .dec 1 (.number 12) = word "*" ∧
    formatValue .sdec 4 (.number (-3)) = word "  -3" ∧ formatValue .sdec 4 (.number 3) = word "  +3" ∧
    formatValue .text 8 (.name (word "LOW")) = word "LOW     " ∧ formatValue .dec 3 .absent = word "   " := by decide +kernel

/-- R27, R165: a mirror entry's name is its own source's, whatever its peer's source. -/
theorem test_mirror_name : (State.reset.item .alarmName 33) = .name (word "PEER_2") := by decide +kernel

/-- Section 10.8: the failures page of a PULL station. -/
def failing : State :=
  let s := running (strapsOf 3 .pull false true)
  let fail (u w : Nat) (o : PullOutcome) (b : BreakCode) : PullResult :=
    ⟨⟨12, 4⟩, 58, u, w, 3, 1, .plan, .destruct, o, b, 900, false, false⟩
  let row (i : SourceItem) (c w : Nat) (f : Format) (chain : Bool) : Descriptor :=
    ⟨⟨i, 1, 1, 2, c, 1, w, f, 4, true, chain⟩, 1, 2, 4⟩
  { s with
    pull := { s.pull with failures := [fail 2 5 .lift1 .ballLift, fail 3 12 .low .neck] }
    screen := { s.screen with
      page := 2
      pageCount := 2
      pageKinds := [.spool, .failures]
      triggers := [⟨⟨.tick, 2, 0, true⟩, true, false⟩]
      descriptors := [row .failLogUnit 0 2 .dec true, row .failLogWire 3 3 .dec true, row .failLogOutcome 7 8 .text false] } }

def tickServed (s : State) : State := after (exec .fieldEngineWalk (after (exec .tick s)))

theorem test_first_row : ((tickServed failing).screen.buffer[2]?).map (·.take 15) = some (word " 2   5 LIFT_1  ") ∧
    (tickServed failing).screen.descriptors.map (fun d => (d.index, d.currentRow, d.count)) = [(2, 3, 3), (2, 3, 3), (2, 3, 3)] := by
  decide +kernel
theorem test_second_row :
    ((tickServed (tickServed failing)).screen.buffer[3]?).map (·.take 15) = some (word " 3  12 LOW     ") ∧
      (tickServed (tickServed failing)).screen.descriptors.map (fun d => (d.index, d.currentRow, d.count)) =
        [(3, 4, 2), (3, 4, 2), (3, 4, 2)] := by decide +kernel
/-- R134: an ACK on that page takes the entry (2, 5); (3, 12) becomes entry 1. -/
theorem test_take : (after (exec .ackKey failing)).pull.failures.map (fun x => (x.unit, x.wire)) = [(3, 12)] := by decide +kernel

/-! ## Witnesses: for each statement with hypotheses, states and operands that meet them, clause by clause -/

theorem shaped_of {s : State} (h : s.alarms.entries.length = 40 ∧ s.line.roster.length = 8 ∧ s.heat.zones.length = 6 ∧
    s.energy.trims.length = 16 ∧ s.elevator.inputSlots.length = 50 ∧ s.elevator.outputSlots.length = 50) : s.Shaped :=
  ⟨h.1, h.2.1, h.2.2.1, h.2.2.2.1, h.2.2.2.2.1, h.2.2.2.2.2⟩

theorem peer_of {s : State} {k : Nat} (h : 1 ≤ k ∧ k ≤ 8 ∧ k ≠ s.straps.station) : s.IsPeer k := h

/-- Station 2, a HEAD in the middle of a line, in RUN. -/
def middle : State := running (strapsOf 2 .head false false)

/-- A station with the strip on its stage. -/
def holding (p : Straps) (st : StageState) : State :=
  let s := running p
  { s with stage := { s.stage with state := st, record := some strip, column := 1 } }

def inStation (st : StationState) (s : State) : State := { s with control := { s.control with station := st } }

/-- An alarm entry set. -/
def alarmed (i : Nat) (e : AlarmEntry) (s : State) : State := { s with alarms := s.alarms.put i e }

/-- An active entry of level 5. -/
def activeEntry (condition : Bool) : AlarmEntry := ⟨.active, condition, 1, .none, 5, .note⟩

/-- A wire in flight on unit 1. -/
def flightOf (entered lead : Bool) : WireInFlight := ⟨1, 1, 1, 3, 0, 2185, entered, .due, lead⟩

/-- Station 1 in a phase of its wire cycle. -/
def inCycle (c : WireCycle) (a : WireAwait) (entered lead : Bool) : State :=
  { bonding with wire := { bonding.wire with cycle := c, awaits := a, inFlight := some (flightOf entered lead) } }

/-- The same with a bond of that side in progress. -/
def inBond (c : WireCycle) (b : Bond) : State :=
  let s := inCycle c .none true false
  { s with energy := { s.energy with bond := some b } }

/-- What station `k` has told the roster. -/
def rostered (k : Nat) (i : PeerIdentity) (r : StatePayload) (s : State) : State :=
  { s with line := { s.line with roster := s.line.roster.set (k - 1) ⟨some i, some r⟩ } }

def pullPeer : PeerIdentity := ⟨.pull, false, true, 0⟩
def runningReport : StatePayload := ⟨.run, .headOut, .empty, true, none⟩

theorem witness_ProgramAndStrapsOutlastCommands : exec .holdKey bonding = .next (after (exec .holdKey bonding)) ∧
    (∀ p r, Instr.holdKey ≠ .powerOn p r) ∧ (∀ i, Instr.holdKey ≠ .loadEnd i) := ⟨rfl, nofun, nofun⟩

theorem witness_OnlyPullResultsMoveTrims : exec .tick bonding = .next (after (exec .tick bonding)) ∧
    (∀ p r, Instr.tick ≠ .powerOn p r) ∧ (∀ k r, Instr.tick ≠ .pullResultFrame k r) ∧
    exec (.powerOn resetStraps ⟨true, true, true⟩) bonding =
      .next (after (exec (.powerOn resetStraps ⟨true, true, true⟩) bonding)) := ⟨rfl, nofun, nofun, rfl⟩

theorem witness_FrozenRecordIsNotChanged :
    exec .stripLeft (holding (strapsOf 2 .head false false) .handing) =
      .next (after (exec .stripLeft (holding (strapsOf 2 .head false false) .handing))) ∧
    (∀ p r, Instr.stripLeft ≠ .powerOn p r) ∧ (holding (strapsOf 2 .head false false) .handing).stage.state = .handing :=
  ⟨rfl, nofun, rfl⟩

theorem witness_PowerOnReadsStagePort :
    (∃ (p : Straps) (r : FirstReading), r.strip = true ∧ p.infeed = true ∧ r.inputMagazine = true ∧ p.outfeed = true ∧
      r.outputMagazine = true) ∧
    (∃ (p : Straps) (r : FirstReading), r.strip = false ∧ p.infeed = false ∧ r.outputMagazine = false ∧ p.outfeed = true) :=
  ⟨⟨⟨1, .head, true, true⟩, ⟨true, true, true⟩, by decide⟩, ⟨⟨8, .pull, false, true⟩, ⟨false, true, false⟩, by decide⟩⟩

theorem witness_LoadEndsBoot :
    State.reset.Shaped ∧ State.reset.control.station = .boot ∧ State.reset.loader.loaded = .loading ∧
      imageId resetStraps { image with readOk := false } = none ∧ imageId resetStraps image = some 0xCBF43926#32 ∧
      ((after (exec .stopButton State.reset)).alarms.entry Source.stopKey).state ≠ .clear ∧
      (after (exec .stopButton State.reset)).control.station = .boot :=
  ⟨shaped_of (by decide +kernel), by decide +kernel⟩

/-- A set at the ends of its ranges, zones whose band holds the cool-off, and zones whose band a cool-off of 16 empties. -/
theorem witness_LoaderSettlesRanges :
    (∀ g ∈ [nominalSet, ⟨5, 250, 1000, 20, 0, 5, 1, 0, 1⟩, ⟨250, 5, 0, 0, 500, 500, 200, 200, 500⟩],
      5 ≤ g.impactForce ∧ g.impactForce ≤ 250 ∧ 5 ≤ g.bondForce ∧ g.bondForce ≤ 250 ∧ g.nominalPower ≤ 1000 ∧
        g.rampSteps ≤ 20 ∧ g.minTime ≤ g.maxTime ∧ 5 ≤ g.maxTime ∧ g.maxTime ≤ 500 ∧ 1 ≤ g.targetSink ∧
        g.targetSink ≤ 200 ∧ g.minSink ≤ g.targetSink ∧ g.targetSink ≤ g.maxSink ∧ g.maxSink ≤ 500) ∧
    (∀ z ∈ program.zones, z.enabled = true ∧ z.tLow + 5 ≤ z.tHigh - 5) ∧
    (∃ z ∈ (settleProgram { rawProgram with coolOff := 16 }).1.zones, z.enabled = true ∧ z.tHigh - 16 < z.tLow + 16) :=
  ⟨by decide, by decide +kernel, ⟨true, 195, 180, 210⟩, by decide +kernel, by decide⟩

/-- A banner over a HOLD event, over the highest mirror, over the last STOP-class entry that stands, of a condition that has gone,
with roll call complete and not, and over a STOP-class entry that stands on as ACKED. -/
theorem witness_AckActsOnBannerEntry :
    (let s := alarmed 9 (activeEntry false) bonding
     s.Shaped ∧ s.control.station = .run ∧ s.alarms.banner = some 9 ∧ s.alarms.stopStands = false ∧ s.line.queue.length < 15) ∧
    (alarmed 39 (activeEntry true) bonding).alarms.banner = some 39 ∧
    (let s := inStation .stopped (alarmed 2 ⟨.active, false, 1, .none, 16, .note⟩ (running (strapsOf 1 .head true true)))
     s.Shaped ∧ s.alarms.banner = some 2 ∧ s.control.station = .stopped ∧
       (∀ j, j < 40 → j ≠ 2 → s.alarms.classOf j = .stop → (s.alarms.entry j).state = .clear) ∧
       ¬(isEvent 2 = true ∨ 32 ≤ 2 ∨ (s.alarms.entry 2).condition = true) ∧ s.control.lineStarted = true ∧
       s.rollCallComplete = true) ∧
    (let s := inStation .stopped (alarmed 2 ⟨.active, false, 1, .none, 16, .note⟩ (running (strapsOf 1 .head true false)))
     let t := { s with control := { s.control with lineStarted := false } }
     t.alarms.banner = some 2 ∧ t.control.station = .stopped ∧ t.control.lineStarted = false ∧ t.rollCallComplete = false ∧
       t.mismatch = none ∧ t.layoutBreaches = []) ∧
    (let s := inStation .stopped (alarmed 0 ⟨.active, false, 1, .none, 16, .note⟩ middle)
     s.Shaped ∧ s.alarms.banner = some 0 ∧ s.control.station = .stopped ∧ isEvent 0 = true ∧ s.alarms.classOf 0 = .stop ∧
       (s.alarms.entry 0).state ≠ .clear) :=
  ⟨⟨shaped_of (by decide +kernel), by decide +kernel⟩, by decide +kernel, ⟨shaped_of (by decide +kernel), by decide +kernel⟩,
    by decide +kernel, ⟨shaped_of (by decide +kernel), by decide +kernel⟩⟩

theorem witness_AckActsOnPageWithoutBanner :
    (let s := { bonding with screen := { bonding.screen with pageKinds := [.spool] } }
     s.control.station ≠ .boot ∧ s.alarms.banner = none ∧ s.screen.pageKind = .spool ∧ s.straps.role = .head) ∧
    (failing.control.station ≠ .boot ∧ failing.alarms.banner = none ∧ failing.screen.pageKind = .failures ∧
      failing.pull.failures ≠ []) ∧
    ({ failing with pull := { failing.pull with failures := [] } } : State).pull.failures = [] ∧
    (bonding.alarms.banner = none ∧ bonding.screen.pageKind = .general) ∧
    (let s := { failing with screen := { failing.screen with page := 1 } }
     s.alarms.banner = none ∧ s.screen.pageKind = .spool ∧ s.straps.role = .pull) := by decide +kernel

theorem witness_HoldIsTakenAtBoundary :
    (bonding.control.station = .run ∧ State.reset.control.station ≠ .run ∧ State.reset.control.station ≠ .paused) ∧
    (let s := bonding
     s.wire.cycle = .idle ∧ s.pull.cycle = .idle ∧ s.stage.indexMotion = none ∧ s.elevator.input.activity ≠ .moving ∧
       s.elevator.output.activity ≠ .moving ∧ s.control.holdRequest = false ∧ s.heat.pauseRequest = false) ∧
    (inCycle .toFirst .none false false).atBoundary = false := by decide +kernel

/-- READY and HELD, with a HOLD-class entry ACTIVE at the mask's level. -/
theorem witness_AcceptedResumeStartsWork :
    (let s := inStation .ready (running (strapsOf 1 .head true true))
     s.Shaped ∧ s.NothingWaitsForResume ∧ s.alarms.stopStands = false ∧ s.control.station = .ready ∧
       (∀ i, i < 40 → (s.alarms.entry i).state = .clear)) ∧
    (let s := inStation .held (alarmed 18 ⟨.active, false, 1, .unitWire 1 1, 2, .note⟩ middle)
     s.Shaped ∧ s.alarms.stopStands = false ∧ s.control.station = .held ∧
       (∀ i, i < 32 → localClass i = .hold →
         ((s.alarms.entry i).state = .active → (s.alarms.entry i).level ≤ s.alarms.mask) ∧
         ((s.alarms.entry i).state ≠ .clear → isEvent i = true ∨ (s.alarms.entry i).condition = false))) :=
  ⟨⟨shaped_of (by decide +kernel), ⟨by decide, by decide, by decide, by decide⟩, by decide +kernel⟩,
    ⟨shaped_of (by decide +kernel), by decide +kernel⟩⟩

theorem witness_RefusedResumeSetsNotice :
    (let s := inStation .held (alarmed 18 ⟨.active, false, 1, .unitWire 1 1, 3, .note⟩ middle)
     s.Shaped ∧ (s.alarms.entry 18).state = .active ∧ s.alarms.mask < (s.alarms.entry 18).level ∧ localClass 18 = .hold ∧
       s.alarms.stopStands = false) ∧
    (let s := inStation .held (alarmed Source.noCover ⟨.acked, true, 1, .station 3, 1, .note⟩ middle)
     s.Shaped ∧ (s.alarms.entry Source.noCover).state ≠ .clear ∧ isEvent Source.noCover = false ∧
       (s.alarms.entry Source.noCover).condition = true ∧ localClass Source.noCover = .hold ∧ s.alarms.stopStands = false) ∧
    (∀ e ∈ [(⟨.active, true, 1, .peer 8 0, 16, .stop⟩ : AlarmEntry), ⟨.acked, true, 1, .peer 8 0, 16, .stop⟩],
      let s := inStation .stopped (alarmed 39 e middle)
      s.Shaped ∧ (s.alarms.entry 39).state ≠ .clear ∧ s.control.station = .stopped ∧ s.alarms.classOf 39 = .stop) :=
  ⟨⟨shaped_of (by decide +kernel), by decide +kernel⟩, ⟨shaped_of (by decide +kernel), by decide +kernel⟩, fun e he => by
    rcases List.mem_pair.1 he with rfl | rfl <;> exact ⟨shaped_of (by decide +kernel), by decide +kernel⟩⟩

/-- A STOP in BOOT, in a flame-off with both elevators and the index drive in motion, in a cut, and in the phases of a pull. -/
theorem witness_StopButtonStopsStation :
    (let q := List.replicate 15 (⟨0, .lineStart, none, false⟩ : TxEntry) ++ [⟨0, .state, none, false⟩]
     ∃ e ∈ q, e.onLine = none ∧ (e.body = .state ∨ ∃ i c l n d, e.body = .alarm i c l n d)) ∧
    (State.reset.Shaped ∧ State.reset.control.station = .boot ∧ State.reset.line.queue.length < 16) ∧
    (let s := inCycle .flaming .fire true true
     let t := { s with
       stage := { s.stage with indexMotion := some 2 }
       elevator := { s.elevator with
         input := { s.elevator.input with activity := .moving }
         output := { s.elevator.output with activity := .moving } } }
     t.Shaped ∧ t.control.station ≠ .boot ∧ t.control.station ≠ .stopped ∧ t.stage.indexMotion ≠ none ∧
       t.wire.cycle ≠ .idle ∧ t.pull.cycle = .idle ∧ t.wire.awaits ≠ .cut ∧
       t.elevator.input.activity = .moving ∧ t.elevator.output.activity = .moving) ∧
    (let s := inCycle .searchSecond .cut true false
     s.Shaped ∧ s.control.station = .run ∧ s.wire.cycle ≠ .idle ∧ s.pull.cycle = .idle ∧ s.wire.awaits = .cut) ∧
    (∀ c ∈ [PullCycle.toWire, .lifting, .releasing],
      let p := running (strapsOf 3 .pull false true)
      let s := { p with pull := { p.pull with cycle := c } }
      s.Shaped ∧ s.control.station = .run ∧ s.pull.cycle = c) :=
  ⟨⟨⟨0, .state, none, false⟩, by decide, rfl, .inl rfl⟩, ⟨shaped_of (by decide +kernel), by decide +kernel⟩,
    ⟨shaped_of (by decide +kernel), by decide +kernel⟩, ⟨shaped_of (by decide +kernel), by decide +kernel⟩,
    fun c _ => ⟨shaped_of (by cases c <;> decide +kernel), by cases c <;> decide +kernel⟩⟩

/-- R24: a STOP ends a cut where it stands and sends the head to safe height. -/
theorem test_stop_in_cut : (after (exec .stopButton (inCycle .searchSecond .cut true false))).ports.z = .haltThenMoveTo 5000 := by
  decide +kernel

/-- The first and the last phase in which a STOP charges the wire, and phases in which it does not. -/
theorem witness_StopDuringWireChargesIt :
    (inCycle .bondFirst .none true false).Shaped ∧
    (∀ s ∈ [inCycle .bondFirst .none true false, inCycle .tailing .tear true false, inCycle .searchFirst .none false false,
        inCycle .flaming .fire true false],
      s.control.station = .run ∧ s.stage.state = .loaded ∧ s.wire.inFlight.isSome = true ∧ (s.unit? 1).isSome = true ∧
        s.wire.cycle ≠ .idle) := ⟨shaped_of (by decide +kernel), by decide +kernel⟩

theorem witness_ChordOrFrameAsksForRestart :
    (let s := { bonding with screen := { bonding.screen with chordTimer := .running 3000 } }
     s.screen.chordTimer = .running 3000 ∧ s.screen.keys.ackCounted = false ∧ s.screen.keys.resumeCounted = false) ∧
    middle.IsPeer 1 ∧ middle.IsPeer 8 := ⟨by decide +kernel, peer_of (by decide), peer_of (by decide)⟩

/-- A warm restart is asked for. -/
def restartAsked (s : State) : State := { s with control := { s.control with restartWaiting := true } }

/-- Station 1 as both ends of a line, its segment without a spare. -/
def aloneOnLine : State :=
  { running (strapsOf 1 .head true true) with loader := ⟨.valid 0 { program with spares := List.replicate 8 0 }, 0⟩ }

theorem bondInv_idle {s : State} (h : s.wire.cycle = .idle ∧ s.wire.inFlight = none ∧ s.energy.bond = none ∧
    s.ports.ultrasonic = 0) : s.BondInv := by
  obtain ⟨h1, h2, h3, h4⟩ := h
  exact ⟨by simp [h1, h2], by simp [h1, h3], fun b hb => by simp [h3] at hb, by simp [h4], fun _ _ => h4⟩

/-- A line that is incomplete, one that this station completes, one whose maps it breaches, an invalid program, each stage state of
R56's table, and a condition raised anew. -/
theorem witness_WarmRestartKeepsWhatOutlastsIt :
    (let s := restartAsked middle
     let t := after (exec .warmRestart s)
     s.Shaped ∧ s.BondInv ∧ s.restartActs = true ∧ t.alarms.stopStands = false ∧ ¬∃ n ∈ stationNumbers, t.CompleteTo n) ∧
    (let s := restartAsked aloneOnLine
     let t := after (exec .warmRestart s)
     s.Shaped ∧ s.BondInv ∧ s.restartActs = true ∧ t.alarms.stopStands = false ∧ t.CompleteTo 1) ∧
    (let s := restartAsked (running (strapsOf 1 .head true true))
     s.Shaped ∧ s.BondInv ∧ s.restartActs = true ∧ (after (exec .warmRestart s)).alarms.stopStands = true) ∧
    (let s := inStation .stopped (restartAsked { middle with loader := ⟨.invalid, 0⟩ })
     s.Shaped ∧ s.BondInv ∧ s.restartActs = true ∧ s.loader.loaded = .invalid) ∧
    (∀ st ∈ [StageState.finished, .offering, .handing, .receiving], ∀ u ∈ [HandoffPush.notBegun, .moving, .gone],
      let s := restartAsked (holding (strapsOf 2 .head false false) st)
      let t := { s with stage := { s.stage with push := u } }
      t.Shaped ∧ t.BondInv ∧ t.restartActs = true ∧ t.stage.state = st ∧ t.stage.push = u) ∧
    (let s := restartAsked (alarmed Source.dwellLimit (activeEntry true) middle)
     s.Shaped ∧ s.BondInv ∧ s.restartActs = true ∧ (s.alarms.entry Source.dwellLimit).condition = true ∧
       (s.alarms.entry Source.dwellLimit).level ≠ 0 ∧ (s.alarms.entry Source.noCover).condition = false) := by
  refine ⟨⟨shaped_of (by decide +kernel), bondInv_idle (by decide +kernel), by decide +kernel, by decide +kernel, ?_⟩,
    ⟨shaped_of (by decide +kernel), bondInv_idle (by decide +kernel), by decide +kernel, by decide +kernel, ?_⟩,
    ⟨shaped_of (by decide +kernel), bondInv_idle (by decide +kernel), by decide +kernel⟩,
    ⟨shaped_of (by decide +kernel), bondInv_idle (by decide +kernel), by decide +kernel⟩, fun st _ u _ => ?_,
    ⟨shaped_of (by decide +kernel), bondInv_idle (by decide +kernel), by decide +kernel⟩⟩
  · rintro ⟨n, hn, ⟨-, ⟨i, hi, ho⟩, -⟩, -⟩
    have := (by decide +kernel : ∀ m ∈ stationNumbers, ∀ j ∈ ((after (exec .warmRestart (restartAsked middle))).rosterEntry m).identity,
      j.outfeed = false) n hn i hi
    simp [this] at ho
  · have h1 : ((after (exec .warmRestart (restartAsked aloneOnLine))).rosterEntry 1).identity =
        some ⟨.head, true, true, 0⟩ := by decide +kernel
    refine ⟨⟨by decide, ⟨_, h1, rfl⟩, fun m hm h => ?_⟩, fun m hm h => ?_⟩
    · exact absurd h ((by decide : ∀ m ∈ stationNumbers, ¬m < 1) m hm)
    · obtain rfl := (by decide : ∀ m ∈ stationNumbers, m ≤ 1 → m = 1) m hm h
      exact ⟨_, h1, trivial⟩
  · cases st <;> cases u <;> exact ⟨shaped_of (by decide +kernel), bondInv_idle (by decide +kernel), by decide +kernel⟩

theorem witness_StopAndLineStartFramesAct :
    (middle.Shaped ∧ middle.IsPeer 1 ∧ middle.IsPeer 8 ∧ (middle.alarms.entry 39).state = .clear) ∧
    ((alarmed 32 ⟨.acked, true, 1, .peer 1 0, 16, .stop⟩ middle).alarms.entry 32).state ≠ .clear ∧
    State.reset.control.station = .boot ∧ (inStation .ready middle).control.station = .ready :=
  ⟨⟨shaped_of (by decide +kernel), peer_of (by decide), peer_of (by decide), by decide +kernel⟩, by decide +kernel⟩

/-- R34: a summary of none takes the STOP class with it. -/
theorem test_stop_class_goes :
    (let s := alarmed 32 ⟨.active, true, 1, .peer 1 3, 16, .stop⟩ middle
     (after (exec (.alarmFrame 1 ⟨3, .stop, 16, .clear, .none, none⟩) s)).alarms.classOf 32) = .note := by decide +kernel

/-- A STOP summary heard afresh and heard again, a NOTE heard afresh and again, and an empty summary. -/
theorem witness_AlarmFrameMirrorsSummary :
    (middle.Shaped ∧ middle.IsPeer 1 ∧ (middle.alarms.entry 32).state = .clear ∧ middle.alarms.stopStands = false ∧
      middle.control.station ≠ .stopped) ∧
    (let old := (alarmed 32 ⟨.acked, true, 1, .peer 1 3, 16, .stop⟩ middle).alarms.entry 32
     old.state ≠ .clear ∧ old.detail = .peer 1 3 ∧ old.level = 16 ∧ old.mirrored = .stop) ∧
    (let old := (alarmed 39 ⟨.active, true, 1, .peer 8 31, 1, .note⟩ middle).alarms.entry 39
     old.state ≠ .clear ∧ old.detail = .peer 8 31 ∧ old.level = 1 ∧ old.mirrored = .note) ∧
    (AlarmClass.note ≠ .stop ∧ (⟨31, .note, 1, .clear, .none, none⟩ : AlarmPayload).summary = none) :=
  ⟨⟨shaped_of (by decide +kernel), peer_of (by decide), by decide +kernel⟩, by decide +kernel⟩

theorem witness_PresentFrameFillsRoster :
    (middle.Shaped ∧ middle.IsPeer 8 ∧ middle.control.station ≠ .boot ∧ middle.programId?.isSome = true ∧
      (middle.line.roster.getD 7 .absent).identity = none ∧ ([8] : List Nat).contains middle.straps.station = false ∧
      middle.line.queue.length < 16) ∧ State.reset.Shaped ∧ State.reset.IsPeer 2 ∧ State.reset.control.station = .boot :=
  ⟨⟨shaped_of (by decide +kernel), peer_of (by decide), by decide +kernel⟩, shaped_of (by decide +kernel), peer_of (by decide),
    rfl⟩

/-- The station below, the one above, and one further on; a FINISHED one, with and without an alarm class. -/
theorem witness_StateFrameGivesPermit :
    middle.Shaped ∧ middle.IsPeer 1 ∧ middle.IsPeer 3 ∧ middle.IsPeer 4 ∧ middle.control.station ≠ .boot ∧
      1 + 1 = middle.straps.station ∧ 3 = middle.straps.station + 1 ∧ 4 ≠ middle.straps.station + 1 ∧
      middle.line.queue.length ≤ 9 ∧ State.reset.IsPeer 8 ∧ State.reset.control.station = .boot :=
  ⟨shaped_of (by decide +kernel), peer_of (by decide), peer_of (by decide), peer_of (by decide), by decide, by decide,
    by decide, by decide, by decide, peer_of (by decide), by decide⟩

theorem witness_OfferIsAnsweredAtOnce :
    (middle.IsPeer 1 ∧ middle.IsPeer 8) ∧ ((inStation .boot middle).IsPeer 8 ∧ (inStation .boot middle).control.station = .boot) ∧
    ((holding (strapsOf 1 .head true false) .empty).straps.infeed = true ∧ 8 + 1 ≠ middle.straps.station) ∧
    ((inStation .held middle).straps.infeed = false ∧ 1 + 1 = (inStation .held middle).straps.station ∧
      (inStation .held middle).control.station ≠ .run ∧ (inStation .held middle).control.station ≠ .paused) ∧
    (holding (strapsOf 2 .head false false) .unloading).stage.state ≠ .empty ∧
    (middle.control.station = .run ∧ middle.stage.state = .empty ∧ middle.straps.station ≠ 0) ∧ 8 ≠ middle.straps.station :=
  ⟨⟨peer_of (by decide), peer_of (by decide)⟩, ⟨peer_of (by decide), rfl⟩, by decide +kernel⟩

/-- Station 7 hands to station 8; an answer to another number, one out of OFFERING, one of another sender, in BOOT and without a record. -/
theorem witness_TakeBeginsHanding :
    (let s := holding (strapsOf 7 .head false false) .offering
     s.straps.station < 8 ∧ s.straps.station ≠ 0 ∧ s.control.station ≠ .boot ∧ s.stage.record = some strip ∧
       s.stage.state = .offering) ∧
    (⟨9, ⟨12, 4⟩, 58⟩ : TakePayload) ≠ ⟨(holding (strapsOf 7 .head false false) .offering).stage.offerNumber, strip.serial,
      strip.lineSeq⟩ ∧ (holding (strapsOf 1 .head true false) .finished).stage.state ≠ .offering ∧
    ((holding (strapsOf 7 .head false false) .offering).IsPeer 8 ∧ (holding (strapsOf 7 .head false false) .offering).IsPeer 1 ∧
      1 ≠ 7 + 1) ∧ (inStation .boot middle).control.station = .boot ∧ middle.stage.record = none := by
  refine ⟨by decide +kernel, by decide +kernel, by decide +kernel, ⟨peer_of (by decide), peer_of (by decide), by decide⟩,
    by decide +kernel⟩

theorem witness_AssemblyRestoresRecord :
    ∀ t, strip.tracked = some t → (∀ e ∈ t.table, e.progress.length = t.segments) ∧ (∀ x ∈ t.suspects, x.unit ≤ t.table.length) := by
  intro t h
  obtain rfl : t = (strip.tracked.getD ⟨0, 0, [], []⟩) := by rw [h]; rfl
  decide +kernel

/-- A station in RECEIVING with an empty assembly, and a sender; parts that are due, and a complete
assembly; no good frame, one of another station, and one under the own number. -/
theorem witness_RecordPartJoinsAssembly :
    (let s := { middle with stage := { middle.stage with
       state := .receiving, kept := some ⟨1, ⟨7, ⟨12, 4⟩, 58, true, 4⟩⟩, assembly := some RecordAssembly.fresh } }
     s.IsPeer 1 ∧ s.control.station ≠ .boot ∧ s.straps.station ≠ 0 ∧ s.stage.kept = some ⟨1, ⟨7, ⟨12, 4⟩, 58, true, 4⟩⟩ ∧
       s.stage.assembly = some RecordAssembly.fresh ∧ s.stage.state = .receiving ∧ 8 ≠ (⟨1, ⟨7, ⟨12, 4⟩, 58, true, 4⟩⟩ : KeptOffer).sender) ∧
    ((inStation .boot middle).IsPeer 1 ∧ middle.stage.state ≠ .receiving ∧ middle.stage.kept = none) ∧
    (let h : HeaderPart := ⟨⟨12, 4⟩, 58, true, false, true, 4, 2, 0⟩
     let a : RecordAssembly := ⟨some h, [], none, false⟩
     let u : UnitEntry := ⟨.isOpen, 0, none, [⟨1, 0, 0, 1⟩, ⟨4, 0, 0, 4⟩]⟩
     let full : RecordAssembly := { a with units := List.replicate 4 u }
     RecordAssembly.fresh.header = none ∧ RecordAssembly.fresh.broken = false ∧ RecordAssembly.fresh.complete = false ∧
       a.broken = false ∧ a.complete = false ∧ a.header = some h ∧ a.suspects = none ∧ a.due = 1 ∧ (1 : Nat) ≤ h.units ∧
       u.progress.length = h.segments ∧ full.due = h.units + 1 ∧ full.header = some h ∧ full.broken = false ∧
       full.complete = false ∧ ({ full with suspects := some [] } : RecordAssembly).complete = true) ∧
    goodFrame [0] = none ∧ (∃ g, goodFrame (frameBytes ⟨8, 0, .stop⟩) = some g ∧ g.2.1 ≠ middle.straps.station) ∧
    (∃ g, goodFrame (frameBytes ⟨2, 0, .stop⟩) = some g ∧ g.2.1 = middle.straps.station ∧ g.2.2.1 = 0 ∧ middle.Shaped ∧
      middle.control.station ≠ .boot) :=
  ⟨⟨peer_of (by decide), by decide +kernel⟩, ⟨peer_of (by decide), by decide +kernel⟩, by decide +kernel, by decide +kernel,
    ⟨(0, 8, 0, []), by decide +kernel⟩, (0, 2, 0, []), by decide +kernel, by decide +kernel, by decide +kernel,
    shaped_of (by decide +kernel), by decide +kernel⟩

theorem trims_within {s : State} (e : TrimEntry) (he : e.Within) (h : s.energy.trims = List.replicate 16 e) : s.TrimInv := by
  intro x hx
  rw [h] at hx
  rwa [List.eq_of_mem_replicate hx]

theorem trims_zero {s : State} (h : s.energy.trims = List.replicate 16 ⟨0, 0, 0⟩) : s.TrimInv :=
  trims_within _ ⟨by decide, by decide, by decide, by decide, by decide⟩ h

/-- Results for each row of R96's table, at trims on either side of the limits. -/
theorem witness_PullResultTeachesTrims :
    (let s := running (strapsOf 2 .head false false)
     s.Shaped ∧ s.TrimInv ∧ s.IsPeer 3 ∧ s.control.station ≠ .boot ∧ s.program?.isSome = true ∧ s.straps.role = .head ∧
       goodPull.bondedBy = s.straps.station ∧ goodPull.bondClass ≤ 15 ∧ (15 : Nat) ≤ 15) ∧
    (let s := { middle with energy := { middle.energy with trims := List.replicate 16 ⟨19, -20, 7⟩ } }
     s.TrimInv ∧ 18 < (s.energy.trimOf 15).first ∧ (s.energy.trimOf 15).second < -19 ∧ (s.energy.trimOf 15).goodRun = 7 ∧
       (middle.energy.trimOf 0).goodRun < 7) ∧
    (let r := { goodPull with breakCode := .span }
     r.outcome = .failNd ∧ r.breakCode ≠ .ballLift ∧ r.breakCode ≠ .stitchLift ∧ r.breakCode ≠ .neck ∧ r.breakCode ≠ .heel) :=
  ⟨⟨shaped_of (by decide +kernel), trims_zero (by decide +kernel), peer_of (by decide), by decide +kernel⟩,
    ⟨trims_within ⟨19, -20, 7⟩ ⟨by decide, by decide, by decide, by decide, by decide⟩ rfl, by decide +kernel⟩, by decide⟩

/-- A new entry, an entry with 23 and with 24 lines, and a full table. -/
theorem witness_ResultsAreFiled :
    (failing.Shaped ∧ failing.IsPeer 8 ∧ failing.straps.outfeed = true ∧ failing.control.station ≠ .boot ∧
      goodPull.lineSeq ≠ 0 ∧ failing.report.table.length < 4) ∧
    (∀ e ∈ [ReportEntry.mk 58 (List.replicate 23 goodPull) 0, ReportEntry.mk 58 (List.replicate 24 goodPull) 0],
      e.lineSeq = goodPull.lineSeq) ∧
    (∀ x ∈ [ReportEntry.mk 54 [] 0, ⟨55, [], 0⟩, ⟨56, [], 0⟩, ⟨57, [], 0⟩], x.lineSeq ≠ goodPull.lineSeq) ∧
    (failing.alarms.entry Source.reportLoss).level ≠ 0 ∧ middle.straps.outfeed = false :=
  ⟨⟨shaped_of (by decide +kernel), peer_of (by decide), by decide +kernel⟩, by decide +kernel⟩

def entryOf (b : TxBody) : TxEntry := ⟨0, b, none, false⟩

/-- A part of handoff 7: on the line, given up there or not. -/
def partOnLine (givenUp : Bool) : TxEntry := ⟨3, .record 7 ⟨1, .suspects []⟩, some .stop, givenUp⟩

/-- R50: at the sender's timeout the part on the line alone stays, marked. -/
theorem test_timeout_marks_part_on_line :
    let s := holding (strapsOf 2 .head false false) .handing
    let p := { partOnLine false with onLine := none }
    let t := { s with
      stage := { s.stage with offerNumber := 7, transferTimer := .running 3000 }
      line := { s.line with queue := [partOnLine false, p], waiting := [p] } }
    (after (exec .senderTransferTimeout t)).line.queue.filter (TxEntry.isPartOf 7) = [partOnLine true] ∧
      (after (exec .senderTransferTimeout t)).line.waiting = [] := by decide +kernel

/-- R50, R172: a part given up that loses the contest leaves the queue; any other frame that loses stays. -/
theorem test_given_up_part_leaves :
    (let s := { middle with line := { middle.line with queue := [partOnLine true, entryOf .stop] } }
     (after (exec .arbitrationLost s)).line.queue = [entryOf .stop]) ∧
    (let s := { middle with line := { middle.line with queue := [partOnLine false, entryOf .stop] } }
     (after (exec .arbitrationLost s)).line.queue.length = 2) := by decide +kernel

theorem witness_SendingTakesLowestClassFirst :
    (let s := { middle with line := { middle.line with
       queue := [entryOf (.pullResult goodPull), entryOf .state, entryOf .lineStart] } }
     s.line.queue = [entryOf (.pullResult goodPull)] ++ entryOf .state :: [entryOf .lineStart] ∧
       (∀ x ∈ s.line.queue, x.onLine = none) ∧
       (∀ x ∈ [entryOf (.pullResult goodPull)], (entryOf .state).body.frameClass < x.body.frameClass ∨
         ((entryOf .state).body.frameClass = x.body.frameClass ∧ (entryOf .state).body.kindCode < x.body.kindCode)) ∧
       (∀ x ∈ [entryOf .lineStart], (entryOf .state).body.frameClass < x.body.frameClass ∨
         ((entryOf .state).body.frameClass = x.body.frameClass ∧ (entryOf .state).body.kindCode ≤ x.body.kindCode))) ∧
    ((⟨0, .state, some .stop, false⟩ : TxEntry).onLine.isSome = true ∧ middle.line.queue = []) ∧
    ((partOnLine true).givenUp = true ∧ (partOnLine true).onLine.isSome = true ∧ (partOnLine false).givenUp = false) ∧
    (let s := { failing with line := { failing.line with
       queue := List.replicate 7 (entryOf (.pullResult goodPull)), waiting := [entryOf (.pullResult goodPull)] } }
     s.line.bulkCount < 8 ∧ s.line.queue.length < 16 ∧ s.straps.outfeed = true ∧ s.control.station ≠ .boot ∧
       goodPull.lineSeq ≠ 0 ∧ s.report.table = []) ∧
    (8 ≤ ({ middle.line with queue := List.replicate 8 (entryOf (.pullResult goodPull)) } : LineUnit).bulkCount ∧
      16 ≤ ({ middle.line with queue := List.replicate 16 (entryOf .stop) } : LineUnit).queue.length) := by decide +kernel

/-- An acknowledged frame, the third unheard one, and the last RECORD part of a handoff. -/
theorem witness_SendEndCountsUnheard :
    (let s := { middle with line := { middle.line with queue := [⟨0, .state, some .stop, false⟩, entryOf .stop], unheard := 2 } }
     s.Shaped ∧ s.line.queue = [] ++ ⟨0, .state, some .stop, false⟩ :: [entryOf .stop] ∧
       (∀ x ∈ [] ++ [entryOf .stop], x.onLine = none) ∧ s.stage.state ≠ .handing ∧ s.conditionOf Source.lineAlone = false ∧
       s.line.unheard = 2 ∧ soleStation s.straps = false ∧ soleStation (strapsOf 1 .head true true) = true) ∧
    (alarmed 6 (activeEntry true) middle).conditionOf Source.lineAlone = true ∧
    (let s := holding (strapsOf 2 .head false false) .handing
     let t := { s with stage := { s.stage with offerNumber := 7, transferTimer := .running 3000 } }
     t.stage.state = .handing ∧ t.stage.record = some strip ∧ 5 = strip.units + 1 ∧
       t.stage.transferTimer = .running 3000 ∧ t.stage.push = .notBegun ∧ t.stage.pusher = .rest) :=
  ⟨⟨shaped_of (by decide +kernel), by decide +kernel⟩, by decide +kernel⟩

/-- Station 1 of a line whose other stations are silent. -/
theorem witness_RollCallTimerAsksAgain :
    (let s := inStation .rollcall (running (strapsOf 1 .head true false))
     let t := { s with line := { s.line with rollCallTimer := .running 2000 } }
     t.Shaped ∧ t.line.rollCallTimer = .running 2000 ∧ t.control.station = .rollcall ∧ t.rollCallComplete = false ∧
       t.conditionOf Source.rosterGap = false ∧ t.present 2 = false ∧ t.present 1 = true ∧ t.programId?.isSome = true ∧
       t.line.queue.length < 16) ∧
    middle.line.rollCallTimer = .stopped ∧ (alarmed 5 (activeEntry true) middle).conditionOf Source.rosterGap = true :=
  ⟨⟨shaped_of (by decide +kernel), by decide +kernel⟩, by decide +kernel⟩

/-- A line of two stations, where a PRESENT frame of station 2 completes roll call at station 1, one with another program id makes
PROGRAM_MISMATCH, one of a second INFEED station LINE_LAYOUT, and one of a HEAD in the middle leaves it incomplete. -/
def callingRoll : State :=
  let s := inStation .rollcall (running (strapsOf 1 .head true false))
  { s with line := { s.line with rollCallTimer := .running 2000 } }

def lastHead : PeerIdentity := ⟨.head, false, true, 0⟩

def afterPresent (i : PeerIdentity) : State :=
  after (exec (.presentFrame 2 ⟨2, i.role, i.infeed, i.outfeed, i.programId, []⟩) callingRoll)

theorem shows_of {s : State} {k : Nat} {f : PeerIdentity → Prop} (i : PeerIdentity) (h : (s.rosterEntry k).identity = some i)
    (hf : f i) : s.Shows k f := ⟨i, h, hf⟩

theorem witness_OwnNumberAndRosterAreJudged :
    (callingRoll.Shaped ∧ 1 ≤ callingRoll.straps.station ∧ callingRoll.straps.station ≤ 8 ∧ callingRoll.IsPeer 2 ∧
      callingRoll.control.station = .rollcall ∧ callingRoll.programId? = some 0 ∧ State.reset.control.station = .boot) ∧
    (let t := afterPresent lastHead
     t.line.roster ≠ callingRoll.line.roster ∧ t.alarms.stopStands = false ∧ t.CompleteTo 2) ∧
    (let t := afterPresent ⟨.pull, false, true, 1⟩
     t.alarms.stopStands = true ∧ t.Shows 2 (·.programId ≠ 0)) ∧
    (let t := afterPresent ⟨.pull, true, true, 0⟩
     t.alarms.stopStands = true ∧ t.LayoutBreach 2) ∧
    (let t := afterPresent ⟨.head, false, false, 0⟩
     t.line.roster ≠ callingRoll.line.roster ∧ t.alarms.stopStands = false ∧ ∀ n, ¬t.CompleteTo n) := by
  refine ⟨⟨shaped_of (by decide +kernel), by decide, by decide, peer_of (by decide), by decide +kernel⟩,
    ⟨by decide +kernel, by decide +kernel, ⟨by decide, shows_of lastHead (by decide +kernel) rfl, ?_⟩, ?_⟩,
    ⟨by decide +kernel, shows_of ⟨.pull, false, true, 1⟩ (by decide +kernel) (by decide)⟩,
    ⟨by decide +kernel, by decide, .inl ⟨shows_of ⟨.pull, true, true, 0⟩ (by decide +kernel) rfl, by decide⟩⟩,
    ⟨by decide +kernel, by decide +kernel, ?_⟩⟩
  · rintro m - hm ⟨i, h, hi⟩
    have : ∀ m, m < 2 → (((afterPresent lastHead).rosterEntry m).identity.map (·.outfeed)) ≠ some true := by decide +kernel
    exact this m hm (by rw [h, Option.map_some, hi])
  · intro m h1 h2
    have : ∀ m ∈ stationNumbers, m ≤ 2 → ((afterPresent lastHead).rosterEntry m).identity.isSome = true := by decide +kernel
    obtain ⟨i, hi⟩ := Option.isSome_iff_exists.mp (this m h1 h2)
    exact shows_of i hi trivial
  · rintro n ⟨⟨h1, ⟨i, h, hi⟩, -⟩, -⟩
    have : ∀ m ∈ stationNumbers, (((afterPresent ⟨.head, false, false, 0⟩).rosterEntry m).identity.map (·.outfeed)) ≠ some true := by
      decide +kernel
    exact this n h1 (by rw [h, Option.map_some, hi])

/-- Zones 1 and 6, readings at the ends of the range and of the bands. -/
theorem witness_ZoneVisitJudgesZone :
    (middle.Shaped ∧ 1 ≤ middle.heat.nextZone ∧ middle.heat.nextZone ≤ 6 ∧ middle.loader.loaded ≠ .loading ∧
      State.reset.loader.loaded = .loading ∧ (middle.zoneSetting 1).enabled = true) ∧
    (let g := middle.zoneSetting 6
     g.tLow ≤ g.tHigh ∧ g.tHigh < 211 ∧ 179 < g.tLow ∧ g.tLow + middle.coolOff ≤ 185 ∧ (205 : Int) ≤ g.tHigh - middle.coolOff ∧
       184 < g.tLow + middle.coolOff ∧ g.tHigh - middle.coolOff < 206) ∧
    (middle.anyCause = false ∧ middle.allRecovered = false ∧
      (let s := { middle with heat := { middle.heat with zones := List.replicate 6 ⟨some 195, false, .none⟩ } }
       s.anyCause = false ∧ s.allRecovered = true) ∧
      (middle.alarms.entry Source.heatPause).level ≠ 0 ∧ (middle.alarms.entry Source.zoneSensor).level ≠ 0) :=
  ⟨⟨shaped_of (by decide +kernel), by decide +kernel⟩, by decide +kernel⟩

theorem witness_CompensationTemperatureOfZone :
    (let s := { middle with heat := { middle.heat with zones := List.replicate 6 ⟨some 188, false, .none⟩ } }
     s.zoneEnabled 1 = true ∧ (s.heat.zone 1).lastInvalid = false ∧ (s.heat.zone 1).reading = some 188) ∧
    (middle.heat.zone 6).reading = none ∧
    (∀ s ∈ [inCycle .searchFirst .none false false, inCycle .searchSecond .none true false],
      s.wire.inFlight.isSome = true ∧ s.program? = some program ∧ s.wire.awaits = .none) ∧
    exec (.zoneVisit true 188) middle = .next (after (exec (.zoneVisit true 188) middle)) ∧
    exec (.powerOn resetStraps ⟨true, true, true⟩) middle =
      .next (after (exec (.powerOn resetStraps ⟨true, true, true⟩) middle)) :=
  ⟨by decide +kernel, by decide +kernel, by decide +kernel, rfl, rfl⟩

theorem witness_EffectivePowerIsLatched :
    (let s := inCycle .searchFirst .none false false
     s.TrimInv ∧ s.wire.inFlight = some (flightOf false false) ∧ s.wire.awaits = .none ∧ s.wire.cycle = .searchFirst) ∧
    (inCycle .searchSecond .none true false).TrimInv ∧
    (inBond .bondFirst ⟨3, .first, 0, 0, 420, false, 1000, 29, 39, none⟩).energy.bond.isSome = true :=
  ⟨⟨trims_zero (by decide +kernel), by decide +kernel⟩, trims_zero (by decide +kernel), by decide +kernel⟩

/-- The sample that reaches the target at the least time, the one before it, and the last one. -/
theorem witness_SamplesRampAndEndBond :
    (let s := inBond .bondFirst ⟨3, .first, 0, 0, 420, false, 1000, 29, 39, none⟩
     s.energy.bond.isSome = true ∧ s.wire.inFlight.isSome = true ∧ s.wire.cycle = .bondFirst ∧
       s.bondSet 3 .first = nominalSet ∧ nominalSet.minTime ≤ 29 + 1 ∧ ¬nominalSet.minTime ≤ 28 + 1 ∧
       119 + 1 = nominalSet.maxTime ∧ ¬nominalSet.maxSink < 80 ∧ nominalSet.maxSink < 81 ∧ ¬nominalSet.targetSink ≤ 39 ∧
       nominalSet.minSink ≤ 25 ∧ (24 : Nat) < nominalSet.minSink ∧ (s.unit? 1).isSome = true ∧ s.stage.state = .loaded ∧
       s.pullDownstream = false ∧ s.stage.record = some strip ∧
       (strip.tracked.map (fun t => (t.suspects.length, t.suspects.all fun x => decide (x.unit ≠ 1 ∨ x.wire ≠ 1)))) =
         some (0, true)) ∧
    (rostered 2 pullPeer runningReport bonding).pullDownstream = true ∧
    (let full : List Suspect := List.replicate 16 ⟨2, 1, .saturated⟩
     (∀ x ∈ full, x.unit ≠ 1 ∨ x.wire ≠ 1) ∧ 16 ≤ full.length ∧ ∃ x ∈ ([⟨1, 1, .saturated⟩] : List Suspect), x.unit = 1 ∧ x.wire = 1) ∧
    (UnitStatus.reject .aborted ≠ .isOpen ∧ (State.reset.alarms.entry Source.suspectDrop).level ≠ 0) ∧
    (inBond .bondFirst ⟨3, .first, 0, 0, 420, false, 1000, 29, 39, none⟩).Shaped :=
  ⟨by decide +kernel, by decide +kernel, by decide +kernel, by decide +kernel, shaped_of (by decide +kernel)⟩

/-- The timers running; and expired in HANDING and RECEIVING, with HANDOFF_TIMEOUT ACTIVE at the mask and above it. -/
theorem witness_StageTimersExpire :
    (let s := holding (strapsOf 2 .head false false) .handing
     let t := { s with stage := { s.stage with dwell := ⟨true, false, 900⟩, transferTimer := .running 3000 } }
     t.Shaped ∧ t.stage.dwell.isRunning = true ∧ t.stage.dwell.reached = false ∧ t.stage.transferTimer = .running 3000 ∧ t.stage.state = .handing) ∧
    (holding (strapsOf 2 .head false false) .unloading).stage.dwell.isRunning = false ∧
    (middle.stage.transferTimer = .stopped ∧
      ({ middle.stage with state := .receiving, transferTimer := .running 3000 } : StageUnit).state = .receiving) ∧
    (∀ st ∈ [StageState.handing, .receiving], ∀ level ∈ [2, 3],
      let s := alarmed Source.handoffTimeout ⟨.active, false, 1, .station 3, level, .note⟩ (holding (strapsOf 2 .head false false) st)
      let t := { s with stage := { s.stage with transferTimer := .expired } }
      t.control.station ≠ .boot ∧ t.elevator.input.activity ≠ .waitingResume ∧ t.elevator.output.activity ≠ .waitingResume ∧
        t.stage.state = st ∧ t.stage.transferTimer = .expired ∧
        (t.alarms.entry Source.handoffTimeout).level = level ∧ t.alarms.mask = 2) :=
  ⟨⟨shaped_of (by decide +kernel), by decide +kernel⟩, by decide +kernel⟩

/-- The strip with its first units DONE. -/
def doneStrip (upTo : Nat) : StripRecord :=
  { strip with tracked := strip.tracked.map fun t => { t with
    table := (t.table.take upTo).map (fun e => { e with status := .done }) ++ t.table.drop upTo } }

/-- Work in column 1, in column 2, and in none; the head OUT without cover, and with it. -/
theorem witness_StageWorksLowestColumn :
    (bonding.Shaped ∧ bonding.stage.state = .loaded ∧ bonding.stage.indexMotion = none ∧ bonding.wire.cycle = .idle ∧
      bonding.pull.cycle = .idle ∧ bonding.columnHasWork 1 = true ∧ 1 = bonding.stage.column ∧ 1 ≤ bonding.columns) ∧
    (let s := { bonding with stage := { bonding.stage with record := some (doneStrip 2) } }
     s.columnHasWork 1 = false ∧ s.columnHasWork 2 = true ∧ 2 ≤ s.columns ∧ 2 ≠ s.stage.column) ∧
    (let s := { bonding with stage := { bonding.stage with record := some (doneStrip 4) } }
     s.columns = 2 ∧ s.columnHasWork 1 = false ∧ s.columnHasWork 2 = false ∧ s.coverNeeded = false) ∧
    (let s := { bonding with control := { bonding.control with head := .headOut } }
     s.columns = 2 ∧ s.columnHasWork 1 = false ∧ s.columnHasWork 2 = false ∧ s.coverNeeded = true ∧
       s.coverBy s.ownSpare = false ∧ s.stage.coverWait = false) ∧
    (let s := { bonding with control := { bonding.control with head := .headOut }, straps := strapsOf 1 .head true false }
     (rostered 2 ⟨.head, false, false, 0⟩ ⟨.paused, .headIn, .empty, true, none⟩ s).coverBy s.ownSpare = true) ∧
    (middle.stage.state ≠ .loaded ∧ (inStation .held bonding).control.station ≠ .run ∧ middle.tracked? = none ∧
      ({ bonding.stage with indexMotion := some 2 } : StageUnit).indexMotion = some 2) ∧
    (let s := { bonding with control := { bonding.control with head := .headOut }, stage := { bonding.stage with coverWait := true } }
     let t := rostered 2 ⟨.head, false, false, 0⟩ ⟨.paused, .headIn, .empty, true, none⟩ s
     s.Shaped ∧ t.Shaped ∧ s.IsPeer 2 ∧ t.IsPeer 2 ∧ s.IsPeer 3 ∧ s.control.station ≠ .boot ∧ s.stage.state = .loaded ∧ s.stage.coverWait = true ∧
       s.control.head = .headOut ∧ 2 = s.ownSpare ∧ 3 ≠ s.ownSpare ∧ (s.rosterEntry 2).identity = none ∧ (s.rosterEntry 2).report = none ∧
       (t.rosterEntry 2).identity.isSome = true ∧ (t.rosterEntry 2).report = some ⟨.paused, .headIn, .empty, true, none⟩) :=
  ⟨⟨shaped_of (by decide +kernel), by decide +kernel⟩, by decide +kernel, by decide +kernel, by decide +kernel, by decide +kernel,
    by decide +kernel, shaped_of (by decide +kernel), shaped_of (by decide +kernel), peer_of (by decide), peer_of (by decide),
    peer_of (by decide), by decide +kernel⟩

def fullAssembly : RecordAssembly := strip.parts.foldl (fun a p => a.takePart (offerOf 7 strip) p) RecordAssembly.fresh

/-- A transfer with its record complete and with none of it, an EMPTY stage with a note and without, and a busy stage. -/
theorem witness_ArrivalGivesStageARecord :
    (let s := { middle with stage := { middle.stage with
       state := .receiving, kept := some ⟨1, offerOf 7 strip⟩, assembly := some fullAssembly } }
     s.Shaped ∧ s.stage.state = .receiving ∧ s.stage.kept = some ⟨1, offerOf 7 strip⟩ ∧ s.stage.assembly = some fullAssembly ∧
       fullAssembly.record? = some strip ∧ RecordAssembly.fresh.record? = none ∧ s.line.queue.length < 13 ∧
       (s.alarms.entry Source.untrackedStrip).level ≠ 0) ∧
    (middle.Shaped ∧ middle.stage.state = .empty ∧ middle.stage.note = none ∧
      ({ middle.stage with note := some ⟨1, 7, ⟨12, 4⟩, 58⟩ } : StageUnit).note.isSome = true) ∧
    (bonding.stage.state ≠ .receiving ∧ bonding.stage.state ≠ .empty ∧ bonding.stage.state ≠ .feeding) :=
  ⟨⟨shaped_of (by decide +kernel), by decide +kernel⟩, ⟨shaped_of (by decide +kernel), by decide +kernel⟩, by decide +kernel⟩

theorem witness_OfferIsMadeAndAnswered :
    (let s := holding (strapsOf 2 .head false false) .finished
     let t := { s with stage := { s.stage with permit := true, offerNumber := 255 } }
     t.stage.record = some strip ∧ t.stage.state = .finished ∧ t.straps.outfeed = false ∧ t.control.station = .run ∧
       t.stage.permit = true ∧ t.stage.indexMotion = none ∧ t.pull.cycle = .idle ∧ t.line.queue ++ t.line.waiting = [] ∧
       s.stage.permit = false) ∧
    (∀ k ∈ [1, 7], ∀ st ∈ [StageState.offering, .handing, .loaded],
      let s := holding (strapsOf k .head false false) st
      s.straps.station < 8 ∧ s.straps.station ≠ 0 ∧ s.control.station ≠ .boot ∧ s.stage.state = st) ∧
    (⟨0, 58⟩ : ArrivedPayload) = ⟨(holding (strapsOf 7 .head false false) .handing).stage.offerNumber,
      (holding (strapsOf 7 .head false false) .handing).recordSeq⟩ := by decide +kernel

/-- Station 1 at the INFEED end with its elevator at a slot, before and in a feeding push. -/
def feeding (n : Nat) (st : StageState) (f : Option FeedingPush) : State :=
  let s := rostered 2 pullPeer runningReport (running (strapsOf 1 .head true false))
  { s with
    stage := { s.stage with state := st }
    elevator := { s.elevator with
      input := { s.elevator.input with
        magazine := true
        position := some (.slot n)
        target := some (.slot n)
        activity := if f.isSome then .pushing else .idle }
      magSeq := 12
      lineSeqCounter := 57
      feeding := f } }

theorem witness_FeedingPushMakesRecord :
    (∀ n ∈ [1, 19, 20], let s := feeding n .empty none
      s.straps.infeed = true ∧ s.stage.state = .empty ∧ s.control.station = .run ∧ s.elevator.input.activity = .idle ∧
        s.elevator.input.magazine = true ∧ s.elevator.input.position = some (.slot n) ∧
        s.elevator.input.target = some (.slot n) ∧ s.elevator.inputSlots[n - 1]? = some .unknown ∧
        s.elevator.inputPusher = .rest ∧ s.stage.pusher = .rest ∧ s.outfeedStation = some 2 ∧
        ({ s.stage with pusher := .returning } : StageUnit).pusher ≠ .rest ∧
        ({ s.elevator with inputPusher := .returning } : ElevatorUnit).inputPusher ≠ .rest) ∧
    (let s := feeding 20 .feeding (some ⟨20, 2, 12, [4]⟩)
     s.Shaped ∧ s.stage.state = .feeding ∧ s.elevator.feeding = some ⟨20, 2, 12, [4]⟩ ∧ s.program? = some program ∧
       s.elevator.input.deferred = 0) ∧
    (∀ n ∈ [1, 19, 20], ∀ level ∈ [2, 3],
      let s := alarmed Source.misfeed ⟨.active, false, 1, .slot n, level, .note⟩ (feeding n .empty none)
      let t := { s with elevator := { s.elevator with input := { s.elevator.input with activity := .waitingResume } } }
      t.control.station ≠ .boot ∧ t.elevator.input.activity = .waitingResume ∧ t.elevator.input.position = some (.slot n) ∧
        t.elevator.input.deferred = 0 ∧ (t.alarms.entry Source.misfeed).level = level ∧ t.alarms.mask = 2) ∧
    (let s := feeding 20 .empty none
     s.Shaped ∧ s.setting (·.magazine.inputSlots) 0 = 20 ∧ program.magazine.inputSlots ≤ 20 ∧
       (s.alarms.entry Source.magazineEmpty).level ≠ 0) :=
  ⟨by decide +kernel, ⟨shaped_of (by decide +kernel), by decide +kernel⟩, by decide +kernel, shaped_of (by decide +kernel),
    by decide +kernel⟩

/-- Station 2 at the OUTFEED end with its output elevator at a slot. -/
def unloading (n : Nat) (st : StageState) (a : Activity) : State :=
  let s := holding (strapsOf 2 .pull false true) st
  { s with
    report := { s.report with reserved := decide (st = .unloading) }
    elevator := { s.elevator with
      output := { s.elevator.output with
        magazine := true, position := some (.slot n), target := some (.slot n), activity := a }
      unloading := if st = .unloading then some ⟨n, 3, 1⟩ else none } }

theorem witness_StripLeavesStage :
    (let s := holding (strapsOf 2 .head false false) .handing
     let t := { s with stage := { s.stage with push := .moving } }
     t.stage.state = .handing ∧ t.stage.push = .moving ∧ t.stage.closeWhenLeft = false) ∧
    (∀ n ∈ [1, 19, 20], let s := unloading n .unloading .pushing
      s.stage.state = .unloading ∧ s.elevator.output.activity = .pushing ∧ s.elevator.unloading = some ⟨n, 3, 1⟩ ∧
        s.stage.record = some strip ∧ s.elevator.output.deferred = 0 ∧ s.report.table = [] ∧ strip.tracked ≠ none ∧
        strip.lineSeq ≠ 0) ∧
    (untrackedRecord ⟨0, 0⟩ 0).tracked = none ∧ (untrackedRecord ⟨0, 0⟩ 0).lineSeq = 0 ∧
    (let s := holding (strapsOf 2 .head false false) .handing
     let t := { s with stage := { s.stage with pusher := .returning, lastPartLeft := true, transferTimer := .running 3000 } }
     t.stage.pusher = .returning ∧ t.stage.state = .handing ∧ t.stage.push = .notBegun ∧ t.stage.lastPartLeft = true ∧
       s.stage.lastPartLeft = false ∧ s.stage.pusher ≠ .returning ∧ s.elevator.inputPusher ≠ .returning) ∧
    (let s := unloading 20 .unloading .pushing
     s.Shaped ∧ s.setting (·.magazine.outputSlots) 0 = 20 ∧ (s.alarms.entry Source.magazineFull).level ≠ 0) :=
  ⟨by decide +kernel, by decide +kernel, by decide +kernel, by decide +kernel, by decide +kernel, shaped_of (by decide +kernel),
    by decide +kernel⟩

theorem witness_UnloadingStoresStrip :
    (∀ n ∈ [1, 19, 20], let s := unloading n .finished .idle
      s.straps.outfeed = true ∧ s.stage.state = .finished ∧ s.stage.record = some strip ∧ s.control.station = .run ∧
        s.elevator.output.magazine = true ∧ s.elevator.output.activity = .idle ∧
        s.elevator.output.position = some (.slot n) ∧ s.elevator.output.target = some (.slot n) ∧
        s.elevator.outputSlots[n - 1]? = some .empty ∧ 0 < s.report.free ∧ s.stage.indexMotion = none ∧
        s.pull.cycle = .idle ∧ s.resultWaiting = false ∧ s.stage.pusher = .rest ∧
        (s.alarms.entry Source.slotBlocked).level ≠ 0 ∧ s.setting (·.magazine.outputSlots) 0 = 20 ∧
        (s.alarms.entry Source.magazineFull).level ≠ 0) ∧
    (unloading 20 .finished .idle).Shaped ∧
    (let s := unloading 20 .unloading .pushing
     s.Shaped ∧ s.stage.state = .unloading ∧ s.elevator.unloading = some ⟨20, 3, 1⟩ ∧ s.elevator.output.activity = .pushing) ∧
    (let s := unloading 20 .unloading .idle
     s.stage.pusher = .rest ∧ s.elevator.output.magazine = true ∧ s.elevator.output.position = some (.slot 20) ∧
       s.elevator.output.target = some (.slot 20) ∧ s.elevator.output.activity = .idle) ∧
    (∀ n ∈ [1, 19, 20], ∀ level ∈ [2, 3],
      let s := alarmed Source.misfeed ⟨.active, false, 1, .slot n, level, .note⟩ (unloading n .unloading .waitingResume)
      s.control.station ≠ .boot ∧ s.stage.state = .unloading ∧ s.elevator.unloading = some ⟨n, 3, 1⟩ ∧
        s.stage.record = some strip ∧ s.elevator.input.activity ≠ .waitingResume ∧
        s.elevator.output.activity = .waitingResume ∧ s.elevator.output.deferred = 0 ∧
        (s.alarms.entry Source.misfeed).level = level ∧ s.alarms.mask = 2) :=
  ⟨by decide +kernel, shaped_of (by decide +kernel), ⟨shaped_of (by decide +kernel), by decide +kernel⟩, by decide +kernel,
    by decide +kernel⟩

/-- An elevator with these items. -/
def elevatorAt (a : Activity) (magazine : Bool) (position target : Option Place) : Elevator :=
  { Elevator.initial with activity := a, magazine := magazine, position := position, target := target, destination := target }

/-- A line of one station with both elevators alike. -/
def bothEnds (e : Elevator) : State :=
  let s := running (strapsOf 1 .head true true)
  { s with elevator := { s.elevator with input := e, output := e } }

theorem witness_ElevatorsServeMagazines :
    (∀ p ∈ [Place.slot 1, .slot 20, .exchange], let s := bothEnds (elevatorAt .idle true none (some p))
      s.straps.infeed = true ∧ s.straps.outfeed = true ∧ s.elevator.input.activity = .idle ∧
        s.elevator.output.activity = .idle ∧ s.elevator.input.target = some p ∧ s.elevator.output.target = some p ∧
        s.elevator.input.position ≠ some p ∧ s.elevator.output.position ≠ some p ∧ s.elevator.inputPusher = .rest ∧
        s.stage.pusher = .rest ∧ s.control.station = .run ∧ s.elevator.input.magazine = true ∧
        s.elevator.output.magazine = true) ∧
    (∀ n ∈ [1, 19, 20], let s := bothEnds (elevatorAt .moving true none (some (.slot n)))
      s.elevator.input.activity = .moving ∧ s.elevator.input.destination = some (.slot n) ∧
        s.elevator.input.target = some (.slot n) ∧ s.elevator.inputSlots[n - 1]? = some .unknown ∧
        s.elevator.output.activity = .moving ∧ s.elevator.output.destination = some (.slot n) ∧
        s.elevator.outputSlots[n - 1]? = some .empty) ∧
    (∀ a ∈ [Activity.idle, .moving, .pushing, .waitingResume], ∀ m ∈ [true, false],
      let s := bothEnds (elevatorAt a m none (some .exchange))
      s.elevator.input.magazine = m ∧ s.elevator.output.magazine = m ∧ s.elevator.input.activity = a) ∧
    (∀ d ∈ [Place.slot 20, .exchange], let s := bothEnds { elevatorAt .moving true none (some (.slot 1)) with destination := some d }
      s.elevator.input.activity = .moving ∧ s.elevator.input.destination = some d ∧ s.elevator.input.target ≠ some d) ∧
    (bothEnds (elevatorAt .moving false none (some (.slot 1)))).elevator.output.magazine = false ∧
    (let s := { bothEnds (elevatorAt .moving true none (some (.slot 20))) with
       elevator := { ElevatorUnit.initial with inputSlots := List.replicate 50 .taken, outputSlots := List.replicate 50 .blocked } }
     s.elevator.inputSlots[20 - 1]? = some .taken ∧ s.elevator.outputSlots[20 - 1]? = some .blocked ∧
       s.setting (·.magazine.inputSlots) 0 ≤ 20 ∧ s.setting (·.magazine.outputSlots) 0 ≤ 20) ∧
    (bothEnds (elevatorAt .moving true none (some (.slot 20)))).Shaped ∧
    (bothEnds (elevatorAt .idle false none (some (.slot 1)))).Shaped ∧
    (middle.alarms.entry Source.magazineEmpty).level ≠ 0 ∧ (middle.alarms.entry Source.magazineFull).level ≠ 0 :=
  ⟨by decide +kernel, by decide +kernel, by decide +kernel, by decide +kernel, by decide +kernel, by decide +kernel,
    shaped_of (by decide +kernel), shaped_of (by decide +kernel), by decide +kernel⟩

/-- Stock just short of the use, equal to it, and a lead flame-off. -/
theorem witness_WireCycleStartsWithBall :
    (bonding.Shaped ∧ bonding.program? = some program ∧ bonding.tracked?.isSome = true ∧ bonding.nextWire 1 = some (1, 1, 1) ∧ ({ bonding with control := { bonding.control with head := .headOut } } : State).nextWire 1 = none ∧
      bonding.currentWire = some (1, 1, 1) ∧ (wireRow? program 1).isSome = true ∧ bonding.wire.cycle = .idle ∧
      bonding.stage.state = .loaded ∧ bonding.stage.indexMotion = none ∧ bonding.control.station = .run ∧
      bonding.control.head = .headIn ∧ bonding.control.holdRequest = false ∧ bonding.heat.pauseRequest = false ∧
      bonding.control.restartWaiting = false ∧ (2184 : Nat) < 2185 ∧ bonding.wire.ballReady = true ∧
      (wireRow? program 1).map (fun r => wireUse r (profileOf program r.profile).loopFactor program.head.tailAllowance) = some 2185) ∧
    (let s := inCycle .flaming .leadHead false true
     s.wire.cycle = .flaming ∧ s.wire.awaits = .leadHead) ∧
    (let s := inCycle .flaming .fire false true
     s.Shaped ∧ s.wire.inFlight = some (flightOf false true) ∧ s.wireMayStart = true ∧ s.wire.awaits = .fire) ∧
    (inCycle .flaming .fire true false).wire.inFlight = some (flightOf true false) ∧
    (inStation .held (inCycle .flaming .fire false true)).wireMayStart = false ∧ middle.control.head = .headOut :=
  ⟨⟨shaped_of (by decide +kernel), by decide +kernel⟩, by decide +kernel, ⟨shaped_of (by decide +kernel), by decide +kernel⟩,
    by decide +kernel⟩

theorem witness_SearchesFindBothBonds :
    (inCycle .toFirst .none false false).wire.cycle = .toFirst ∧
    (∀ s ∈ [inCycle .searchFirst .none false false, inCycle .searchSecond .none true false],
      s.wire.inFlight.isSome = true ∧ s.wire.awaits = .none ∧ s.stage.state = .loaded ∧ (s.unit? 1).isSome = true) ∧
    (inCycle .searchFirst .none false false).Shaped ∧
    (inCycle .searchFirst .missingDieReturn false false).wire.awaits = .missingDieReturn ∧
    (let s := inCycle .searchSecond .cut true false
     s.Shaped ∧ s.wire.inFlight = some (flightOf true false) ∧ s.wire.awaits = .cut ∧ s.wire.cycle = .searchSecond ∧
       (flightOf true false).debit = .due ∧ 7000 - (flightOf true false).use < s.head (·.lowStock) ∧
       (s.alarms.entry Source.wireLow).level ≠ 0 ∧ (s.alarms.entry Source.missingDie).level ≠ 0) :=
  ⟨by decide +kernel, by decide +kernel, shaped_of (by decide +kernel), by decide +kernel, shaped_of (by decide +kernel),
    by decide +kernel⟩

/-- The completion of a segment's first wire and of its last. -/
theorem witness_LoopAndTailCompleteWire :
    (∀ s ∈ [inCycle .looping .lift true false, inCycle .looping .loopMotion true false, inCycle .tailing .tailRise true false,
        inCycle .tailing .tear true false],
      s.wire.inFlight = some (flightOf true false) ∧ s.stage.state = .loaded ∧ s.program? = some program ∧
        s.unit? 1 = some ⟨.isOpen, 0, none, [⟨1, 0, 0, 1⟩, ⟨4, 0, 0, 4⟩]⟩ ∧ 1 ≤ (flightOf true false).segment) ∧
    (inCycle .tailing .tear true false).Shaped ∧
    (let last : Progress := ⟨3, 1, 1, 1⟩
     let s := { inCycle .tailing .tear true false with
       stage := { bonding.stage with record := some (strip.setUnit 1 ⟨.isOpen, 0, none, [last, ⟨4, 0, 0, 4⟩]⟩) } }
     s.unit? 1 = some ⟨.isOpen, 0, none, [last, ⟨4, 0, 0, 4⟩]⟩ ∧ last.next + 1 = (segmentOf program 1).last + 1 ∧
       (segmentOf program 2).last < (segmentOf program 2).first) :=
  ⟨by decide +kernel, shaped_of (by decide +kernel), by decide +kernel⟩

/-- Station 2, a PULL station, with the strip bonded by station 1 and one wire suspect; its spacing timer has expired. -/
def bonded (status : UnitStatus) (suspects : List Suspect) : StripRecord :=
  { strip with tracked := strip.tracked.map fun t => { t with
    table := List.replicate 4 ⟨status, 0, none, [⟨4, 1, 1, 1⟩, ⟨4, 0, 0, 4⟩]⟩, suspects := suspects } }

def pulling (st : StageState) (a : AuditMode) : State :=
  let s := holding (strapsOf 2 .pull false true) st
  { s with
    loader := ⟨.valid 0 { program with pull := { program.pull with auditMode := a } }, 0⟩
    stage := { s.stage with record := some (bonded .done [⟨1, 3, .saturated⟩]) } }

def pullOf (m : PullMode) (tare : Option Nat) (peak : Nat) : PullInFlight := ⟨1, 3, 3, 1, .plan, m, tare, peak, 0, false⟩

/-- A PULL station in a phase of its cycle. -/
def inPull (c : PullCycle) (f : PullInFlight) : State :=
  let s := pulling .loaded .every
  { s with pull := { s.pull with cycle := c, inFlight := some f } }

theorem witness_BondedByIsRead :
    ((⟨4, 1, 2, 2⟩ : Progress).next > 3 ∧ (1 : Nat) < (⟨4, 1, 2, 2⟩ : Progress).split) ∧
    (let e : UnitEntry := ⟨.done, 0, none, [⟨4, 1, 1, 1⟩, ⟨4, 0, 0, 4⟩]⟩
     e.progress[0]? = some ⟨4, 1, 1, 1⟩ ∧ (segmentOf program 1).first ≤ 1 ∧ 3 ≤ (segmentOf program 1).last) ∧
    (let s := pulling .loaded .every
     exec .pullCycleStart s = .next (after (exec .pullCycleStart s)) ∧ s.pull.cycle = .idle ∧
       (after (exec .pullCycleStart s)).pull.cycle ≠ .idle ∧
       (after (exec .pullCycleStart s)).pull.inFlight.map (fun f => (f.unit, f.wire, f.bondedBy)) = some (1, 3, 1)) :=
  ⟨by decide, by decide +kernel, rfl, by decide +kernel⟩

theorem witness_PullMarksItsUnit :
    (∀ st ∈ [StageState.loaded, .finished], (pulling st .every).stage.state = st ∧ ((pulling st .every).unit? 4).isSome = true) ∧
    PullOutcome.held ≠ .noHook ∧ PullOutcome.failNd ≠ .noHook ∧ goodPull.outcome ≠ .noHook := by decide +kernel

/-- R120, R143: with a slot and a place to hand, a result that waits for room makes the stage wait, and an audit of another column
asks for its index motion. -/
theorem test_result_waiting_makes_stage_wait :
    let s := pulling .finished .wait
    let ready := { s with
      stage := { s.stage with column := 2 }
      elevator := { s.elevator with
        outputSlots := s.elevator.outputSlots.set 0 .empty
        output := { s.elevator.output with magazine := true, position := some (.slot 1), target := some (.slot 1) } } }
    let waits := { ready with line := { ready.line with waiting := [⟨0, .pullResult goodPull, none, false⟩] } }
    ready.stageWaits = false ∧ (after (exec .auditWaitChoose ready)).stage.indexMotion = none ∧
      waits.stageWaits = true ∧ (after (exec .auditWaitChoose waits)).stage.indexMotion = some 1 := by decide +kernel

/-- The work list with a suspect, a confirm, an audit in each mode, and nothing open. -/
theorem witness_PullCycleMovesThroughPhases :
    (let s := pulling .loaded .every
     s.program?.isSome = true ∧ s.tracked?.isSome = true ∧ s.nextPull 1 = some ⟨1, 3, .suspect, .nondestruct⟩ ∧
       s.workColumn = some 1 ∧ columnUnits program.rows 1 = [] ++ 1 :: [2] ∧ 1 ≤ s.pull.cursor ∧
       s.pull.cursor ≤ program.wires.length) ∧
    (let s := pulling .loaded .off
     let t := { s with
       stage := { s.stage with record := some (bonded .done []) }
       pull := { s.pull with pending := some ⟨2, 1, 57⟩ } }
     t.nextPull 1 = some ⟨1, 2, .confirm, .destruct⟩) ∧
    (let s := pulling .loaded .every
     let t := { s with stage := { s.stage with record := some (bonded .done []) } }
     t.nextPull 1 = some ⟨1, 1, .audit, .destruct⟩ ∧ s.pull.spacing = .expired) ∧
    (let s := pulling .loaded .off
     let t := { s with stage := { s.stage with record := some { bonded .done [] with sample := true } } }
     let u := { t with pull := { t.pull with planOn := true } }
     u.pullOnUnit program { bonded .done [] with sample := true } ((bonded .done []).tracked.getD ⟨0, 0, [], []⟩) 3 =
         some ⟨3, 2, .plan, .destruct⟩ ∧ t.nextPull 1 = none) ∧
    (let s := pulling .finished .wait
     s.stageWaits = true ∧ ({ s with pull := { s.pull with auditCount := 2 } } : State).waitAudit = none) ∧
    (let s := pulling .loaded .every
     s.straps.role = .pull ∧ s.pull.cycle = .idle ∧ s.pullChoice = some ⟨1, 3, .suspect, .nondestruct⟩ ∧
       (s.unit? 1).isSome = true ∧ s.program?.isSome = true ∧ s.control.station = .run ∧ s.stage.indexMotion = none ∧
       s.control.holdRequest = false ∧ s.heat.pauseRequest = false ∧ s.control.restartWaiting = false ∧
       s.resultWaiting = false ∧ (wireRow? program 3).isSome = true) ∧
    (middle.straps.role = .head) ∧
    (∀ c ∈ [PullCycle.toWire, .hooking, .releasing], (inPull c (pullOf .destruct none 0)).pull.cycle = c) ∧
    (let s := { pulling .finished .wait with straps := strapsOf 2 .pull false false }
     s.stage.state = .finished ∧ s.straps.outfeed = false ∧ s.stageWaits = true) ∧
    (let s := pulling .finished .wait
     s.straps.outfeed = true ∧ s.waitAudit = some ⟨1, 1, .audit, .destruct⟩ ∧ s.pullChoice = some ⟨1, 1, .audit, .destruct⟩ ∧
       unitColumn s.rows 1 = s.stage.column) ∧
    (let s := pulling .finished .wait
     let t := { s with stage := { s.stage with column := 2 } }
     t.waitAudit = some ⟨1, 1, .audit, .destruct⟩ ∧ t.control.station = .run ∧ t.stage.indexMotion = none ∧
       t.pull.cycle = .idle ∧ unitColumn t.rows 1 ≠ t.stage.column) := by decide +kernel

/-- The tare, the test force reached and missed by one, a break and a force at the quarter of the peak, and the two ends without
a break. -/
theorem witness_PullOutcomesAreDecided :
    ((inPull .lifting (pullOf .nondestruct none 0)).pull.inFlight = some (pullOf .nondestruct none 0)) ∧
    (let s := inPull .lifting (pullOf .nondestruct (some 0) 0)
     s.pull.cycle = .lifting ∧ s.setting (·.pull.gain) 0 = 2500 ∧ s.pullTestOf 3 = 600 ∧
       Int.tdiv (((984 : Nat) : Int) * 2500) 4096 = 600 ∧ Int.tdiv (((983 : Nat) : Int) * 2500) 4096 = 599) ∧
    (let f := pullOf .destruct (some 0) 2402
     50 ≤ f.peak ∧ Int.tdiv (((982 : Nat) : Int) * 2500) 4096 = 599 ∧ 599 < f.peak / 4 ∧ ¬600 < f.peak / 4 ∧
       (inPull .holding f).stage.record.isSome = true) ∧
    (∀ c ∈ [PullCycle.lifting, .holding], ∀ k ∈ [49, 50, 699, 700],
      (inPull c (pullOf .destruct (some 0) k)).pull.cycle = c) ∧
    (inPull .lifting (pullOf .destruct (some 0) 700)).Shaped ∧
    (let s := inPull .lifting (pullOf .destruct (some 0) 700)
     s.pullMinOf 3 = 700 ∧ s.stage.state = .loaded ∧ (s.unit? 1).isSome = true ∧ s.pull.log.length < 64 ∧
       s.pull.failures.length < 8 ∧ s.pull.pending = none ∧ s.pull.hookMiss < 2 ∧ s.line.queue.length < 14 ∧
       s.line.bulkCount < 8 ∧ s.line.waiting = [] ∧ s.straps.outfeed = true ∧ s.control.station ≠ .boot ∧
       (bonded .done []).lineSeq ≠ 0 ∧ s.report.table = []) ∧
    (∀ m ∈ [PullMode.nondestruct, .destruct], ∀ c ∈ [PullCycle.lifting, .holding],
      let s := inPull c (pullOf m (some 0) 2402)
      s.pull.cycle = c ∧ s.pull.inFlight = some (pullOf m (some 0) 2402) ∧ (pullOf m (some 0) 2402).tare = some 0 ∧
        s.setting (·.pull.gain) 0 = 2500 ∧ Int.tdiv ((((982 : Nat) : Int) - (0 : Nat)) * (2500 : Nat)) 4096 = 599 ∧
        50 ≤ max 2402 599 ∧ 599 < max 2402 599 / 4 ∧ s.stage.record.isSome = true) ∧
    8 ≤ ({ middle.line with queue := List.replicate 8 (entryOf (.pullResult goodPull)) } : LineUnit).bulkCount :=
  ⟨by decide +kernel, by decide +kernel, by decide +kernel, by decide +kernel, shaped_of (by decide +kernel), by decide +kernel,
    by decide +kernel, by decide +kernel⟩

/-- R125, R130: a confirm that ends in LIFT_1 empties the slot, raises CONFIRM_FAIL and enters the failure log. -/
theorem test_confirm_lifts :
    let s := inPull .lifting { pullOf .destruct (some 0) 2402 with kind := .confirm }
    let t := after (exec (.loadCellSample 0 .ballLift) { s with pull := { s.pull with pending := some ⟨3, 1, 57⟩ } })
    t.pull.pending = none ∧ (t.alarms.entry Source.confirmFail).state = .active ∧
      t.pull.failures.map (fun x => (x.outcome, x.breakCode, x.confirmFail)) = [(.lift1, .ballLift, true)] := by
  decide +kernel

theorem witness_RecordPortSendsOldestReport :
    (let u : ReportUnit := { ReportUnit.initial with ready := [[.ending 58 8 2 0], [.ending 59 7 1 0]] }
     u.sending = none ∧ u.ready = [.ending 58 8 2 0] :: [[.ending 59 7 1 0]] ∧
       ({ u with sending := some [] } : ReportUnit).sending.isSome = true) ∧ ReportUnit.initial.ready = [] := by decide +kernel

theorem witness_ScreenServesTriggers :
    (failing.control.station ≠ .boot ∧ failing.bannerShown = false ∧ ¬failing.screen.page < failing.screen.pageCount ∧
      (alarmed 9 (activeEntry false) failing).bannerShown = true ∧ (∀ g ∈ failing.screen.triggers, g.pending = false)) ∧
    (let s := after (exec .tick failing)
     s.screen.triggers = [] ++ ⟨⟨.tick, 2, 0, true⟩, true, true⟩ :: [] ∧ s.bannerShown = false) ∧
    (∃ d0 d1 d2, failing.screen.descriptors = [] ++ d0 :: [d1, d2] ++ [] ∧ d0.row.chain = true ∧ d1.row.chain = true ∧
      d2.row.chain = false ∧ ([] : List Descriptor).length = (⟨.tick, 2, 0, true⟩ : TriggerRow EventKind).first) ∧
    (∀ n ∈ [0, 1, 2], let d : Descriptor := ⟨⟨.wireStock, 0, 0, 2, 0, 0, 10, .dec, 2, false, false⟩, 0, 2, n⟩
     d.row.isRepeat = false ∧ d.count = n) ∧
    ((holding (strapsOf 2 .head false false) .loaded).unit? 4).isSome = true ∧ middle.unit? 1 = none ∧ middle.Shaped ∧
    (middle.present 2 = true ∧ middle.present 8 = false) ∧
    ((⟨some 188, false, .none⟩ : ZoneState).reading = some 188 ∧ (middle.heat.zone 6).reading = none) ∧
    (middle.setting (·.magazine.inputSlots) 0 < 21 ∧ middle.setting (·.magazine.outputSlots) 0 < 21) ∧
    middle.elevator.outputSlots[19]? = some .empty ∧
    (failing.pull.failures[1]?.map (·.unit) = some 3 ∧ [goodPull][0]? = some goodPull) :=
  ⟨by decide +kernel, by decide +kernel, ⟨_, _, _, rfl, rfl, rfl, rfl, rfl⟩, by decide +kernel, by decide +kernel,
    by decide +kernel, shaped_of (by decide +kernel), by decide +kernel, by decide +kernel, by decide +kernel, by decide +kernel,
    by decide +kernel⟩

theorem witness_FrameBytesGiveFrameBack : frameGood ⟨8, 255, .pullResult goodPull⟩ = true ∧
    frameGood ⟨1, 0, .record ⟨65, .suspects (List.replicate 16 ⟨64, 256, .saturated⟩)⟩⟩ = true ∧
    frameGood ⟨1, 2, .record ⟨1, .unit ⟨.reject .incomplete, 15, some .failNd, List.replicate 8 ⟨257, 8, 8, 257⟩⟩⟩⟩ = true ∧
    (frameBytes ⟨8, 0, .stop⟩)[6]?.isSome = true ∧ (frameBytes ⟨8, 0, .stop⟩)[0]?.isSome = true ∧
    (let s := { middle with line := { middle.line with queue := [partOnLine false] } }
     s.line.onLine = some (partOnLine false) ∧ (partOnLine false).onLine = some .stop) := by
  decide +kernel

theorem stopped_invariant {s : State} (h : s.control.station ≠ .boot → (decide (s.control.station = .stopped)) = s.alarms.stopStands) :
    s.StopInv := fun hb => by rw [← h hb]; simp

/-- The stop of a running station, and a state with a mirrored STOP. -/
theorem witness_StoppedExactlyWhileStopStands :
    (let s := bonding.withPending [.stopButton]
     s.Shaped ∧ s.StopInv ∧ step s = .next (after (step s))) ∧
    (inStation .stopped (alarmed 39 ⟨.acked, true, 1, .peer 8 0, 16, .stop⟩ middle)).StopInv :=
  ⟨⟨shaped_of (by decide +kernel), stopped_invariant (by decide +kernel), rfl⟩, stopped_invariant (by decide +kernel)⟩

theorem witness_TrimsStayWithinLimits :
    (let s := middle.withPending [.pullResultFrame 3 goodPull]
     s.TrimInv ∧ step s = .next (after (step s))) ∧ (⟨20, -20, 7⟩ : TrimEntry).Within :=
  ⟨⟨trims_zero (by decide +kernel), rfl⟩, by decide, by decide, by decide, by decide, by decide⟩

theorem witness_BondOnlyInBondPhases :
    let s := (inBond .bondSecond ⟨3, .second, 0, 0, 1000, true, 1000, 29, 39, none⟩).withPending [.demandInterval]
    s.BondInv ∧ step s = .next (after (step s)) :=
  ⟨⟨by decide, by decide, fun b h => by cases h; decide, by decide, nofun⟩, rfl⟩

theorem witness_RecordExactlyWhileStripHeld :
    let s := middle.withPending [.arrival]
    s.RecordInv ∧ step s = .next (after (step s)) :=
  ⟨⟨by unfold HoldsRecord; decide, by decide, by decide⟩, rfl⟩

theorem witness_TablesAndQueuesStayBounded :
    let s := (unloading 20 .unloading .pushing).withPending [.stripLeft]
    s.BoundInv ∧ step s = .next (after (step s)) :=
  ⟨⟨⟨by decide, by decide +kernel, by decide, by decide, by decide, by decide, by decide⟩, ⟨by decide, by decide, by decide, by decide⟩,
    ⟨by decide, nofun, by decide, by decide, by decide, by decide⟩⟩, rfl⟩

theorem witness_BlocksOfOtherRoleRest :
    (let s := bonding.withPending [.wireCycleStart]
     s.RoleInv ∧ step s = .next (after (step s))) ∧
    (let s := (pulling .loaded .every).withPending [.pullCycleStart]
     s.RoleInv ∧ step s = .next (after (step s))) := by
  refine ⟨⟨⟨nofun, fun _ => ?_⟩, rfl⟩, ⟨⟨fun _ => ?_, nofun⟩, rfl⟩⟩
  · constructor <;> decide +kernel
  · constructor <;> decide +kernel

end Sys2Proof.Tests
end

section
/-! PROOFS. The record's readings (R8, R9): which station bonded a wire, how a pull comes to carry that reading, and the mark a
pull leaves on its unit. -/

namespace Sys2Proof.Machine

/-! ## The bonded-by reading (R8) -/

/-- R8: a wire is read in the first of the segments from `k` upward that holds it. -/
theorem bonderFrom_eq_readBonder {p : Program} {w k i : Nat} {l : List Progress} {g : Progress} (hg : l[i]? = some g)
    (hin : (segmentOf p (k + i)).first ≤ w ∧ w ≤ (segmentOf p (k + i)).last)
    (hbefore : ∀ j < i, ¬((segmentOf p (k + j)).first ≤ w ∧ w ≤ (segmentOf p (k + j)).last)) :
    bonderFrom p w k l = readBonder g w := by
  induction l generalizing k i with
  | nil => simp at hg
  | cons x rest ih =>
    rw [bonderFrom]
    cases i with
    | zero =>
      obtain rfl : x = g := by simpa using hg
      exact if_pos hin
    | succ i =>
      refine (if_neg (hbefore 0 i.succ_pos)).trans
        (ih (i := i) (by simpa using hg) (by rwa [Nat.add_right_comm]) fun j hj => ?_)
      rw [Nat.add_right_comm]
      exact hbefore (j + 1) (Nat.succ_lt_succ hj)

/-! ## What the pull unit chooses (R116 to R120) -/

/-- R119: the audit candidate is a wire not yet pulled on the unit and read as bonded. -/
theorem State.candidateFrom_some {s : State} {p : Program} {u w n v : Nat} {e : UnitEntry}
    (h : s.candidateFrom p u e w n = some v) : s.pull.pairs.contains (u, v) = false ∧ bondedBy p e v ≠ 0 := by
  induction n generalizing w with
  | zero => simp [State.candidateFrom] at h
  | succ n ih =>
    rw [State.candidateFrom] at h
    split at h
    · next hc =>
      obtain rfl : w = v := Option.some.inj h
      exact hc
    · exact ih h

/-- R119: the open audit of a unit is a destructive pull on its audit candidate. -/
theorem State.openAudit_eq_some_iff {s : State} {p : Program} {u : Nat} {e : UnitEntry} {c : PullChoice} :
    s.openAudit p u e = some c ↔ s.auditWanted p e = true ∧ s.spacingExpired = true ∧
      ∃ w, s.auditCandidate p u e = some w ∧ ⟨u, w, .audit, .destruct⟩ = c := by
  simp [State.openAudit, and_assoc]

/-- R116: the plan's pulls on a unit are pulls on that unit. -/
theorem planPulls_unit {p : Program} {u : Nat} {c : PullChoice} (h : c ∈ planPulls p u) : c.unit = u := by
  obtain ⟨x, -, hx⟩ := List.mem_filterMap.mp h
  cases hm : x.mode with
  | none => simp [hm] at hx
  | some m =>
    obtain ⟨-, rfl⟩ : x.unit = u ∧ (⟨u, x.wire, .plan, m⟩ : PullChoice) = c := by simpa [hm] using hx
    rfl

/-- R116: the work list of a unit holds pulls on that unit. -/
theorem State.workList_unit {s : State} {p : Program} {r : StripRecord} {t : TrackedPart} {u : Nat} {e : UnitEntry}
    {c : PullChoice} (h : c ∈ s.workList p r t u e) : c.unit = u := by
  simp only [State.workList, List.mem_append] at h
  obtain ((hsuspect | hconfirm) | hplan) | haudit := h
  · obtain ⟨x, -, rfl⟩ := List.mem_map.mp hsuspect
    rfl
  · split at hconfirm
    · rw [List.mem_singleton.mp hconfirm]
    · simp at hconfirm
  · split at hplan
    · exact planPulls_unit hplan
    · simp at hplan
  · split at haudit
    · obtain ⟨-, -, w, -, rfl⟩ := State.openAudit_eq_some_iff.mp (Option.mem_toList.mp haudit)
      rfl
    · simp at haudit

/-- R117: the next pull of a column is an open pull of the work list of its own unit. -/
theorem State.nextPull_some {s : State} {col : Nat} {c : PullChoice} (h : s.nextPull col = some c) :
    ∃ p r t e, s.program? = some p ∧ s.stage.record = some r ∧ r.tracked = some t ∧ t.unit? c.unit = some e ∧
      c ∈ s.workList p r t c.unit e ∧ s.pullOpen p e c = true := by
  unfold State.nextPull at h
  split at h
  · next p r hp hr =>
    split at h
    · next t ht =>
      obtain ⟨u, -, hu⟩ := List.exists_of_findSome?_eq_some h
      unfold State.pullOnUnit at hu
      split at hu
      · next e he =>
        have hmem := List.mem_of_find?_eq_some hu
        obtain rfl := State.workList_unit hmem
        exact ⟨p, r, t, e, hp, hr, ht, he, hmem, List.find?_some hu⟩
      · simp at hu
    · simp at h
  · simp at h

/-- R120: the audit of mode WAIT is the open audit of its unit. -/
theorem State.waitAudit_some {s : State} {c : PullChoice} (h : s.waitAudit = some c) :
    ∃ p t e, s.program? = some p ∧ s.tracked? = some t ∧ p.pull.auditMode = .wait ∧ s.stageWaits = true ∧
      t.unit? c.unit = some e ∧ s.openAudit p c.unit e = some c := by
  unfold State.waitAudit at h
  split at h
  · next p t hp ht =>
    split at h
    · next hwait =>
      obtain ⟨u, -, hu⟩ := List.exists_of_findSome?_eq_some h
      split at hu
      · next e he =>
        obtain ⟨-, -, w, -, rfl⟩ := State.openAudit_eq_some_iff.mp hu
        exact ⟨p, t, e, hp, ht, hwait.1, hwait.2, he, hu⟩
      · simp at hu
    · simp at h
  · simp at h

/-- R121: a choice is the next pull of the current column or, in FINISHED, the audit of mode WAIT. -/
theorem State.pullChoice_some {s : State} {c : PullChoice} (h : s.pullChoice = some c) :
    (s.stage.state = .loaded ∧ s.workColumn = some s.stage.column ∧ s.nextPull s.stage.column = some c) ∨
    (s.stage.state = .finished ∧ s.waitAudit = some c ∧ unitColumn s.rows c.unit = s.stage.column) := by
  unfold State.pullChoice State.currentPull State.currentWaitAudit at h
  split at h
  · next hs => exact .inl ⟨hs, by simpa using h⟩
  · next hs =>
    split at h
    · next a ha =>
      obtain ⟨hcol, rfl⟩ : unitColumn s.rows a.unit = s.stage.column ∧ a = c := by simpa using h
      exact .inr ⟨hs, ha, hcol⟩
    · simp at h
  · simp at h

/-- R117, R119: the wire of a choice is read as bonded on its unit. -/
theorem State.pullChoice_bonded {s : State} {p : Program} {c : PullChoice} {e : UnitEntry} (h : s.pullChoice = some c)
    (hp : s.program? = some p) (he : s.unit? c.unit = some e) : bondedBy p e c.wire ≠ 0 := by
  rcases State.pullChoice_some h with ⟨-, -, hnext⟩ | ⟨-, haudit, -⟩
  · obtain ⟨p', r, t, e', hp', hr, ht, he', -, hopen⟩ := State.nextPull_some hnext
    obtain rfl : p' = p := by simpa [hp'] using hp
    obtain rfl : e' = e := by simpa [State.unit?, State.tracked?, hr, ht, he'] using he
    simp only [State.pullOpen, Bool.and_eq_true, decide_eq_true_eq] at hopen
    exact hopen.2
  · obtain ⟨p', t, e', hp', ht, -, -, he', hopen⟩ := State.waitAudit_some haudit
    obtain rfl : p' = p := by simpa [hp'] using hp
    obtain rfl : e' = e := by simpa [State.unit?, ht, he'] using he
    obtain ⟨-, -, w, hw, hc⟩ := State.openAudit_eq_some_iff.mp hopen
    rw [← hc]
    exact (State.candidateFrom_some hw).2

/-- R121: all PULL_CYCLE_START can do: begin the pull chosen, its conditions holding, or nothing. -/
theorem exec_pullCycleStart_cases (s : State) :
    exec .pullCycleStart s = .next s ∨
    ∃ p c e, s.straps.role = .pull ∧ s.pull.cycle = .idle ∧ s.cycleMayStart = true ∧ s.resultWaiting = false ∧
      s.program? = some p ∧ s.pullChoice = some c ∧ s.unit? c.unit = some e ∧
      exec .pullCycleStart s = .next (State.moveToWire p c { s with
        stage := { s.stage with working := s.stage.working || decide (s.stage.state = .loaded) }
        pull := { s.pull with cycle := .toWire, inFlight := some (pullInFlight p e c) } }) := by
  change execPullCycleStart s = _ ∨ ∃ p c e, _ ∧ _ ∧ _ ∧ _ ∧ _ ∧ _ ∧ _ ∧ execPullCycleStart s = _
  unfold execPullCycleStart
  split
  · next hstart =>
    obtain ⟨hrole, hidle, hmay, hroom⟩ := hstart
    split
    · next p c hp hc =>
      split
      · next e he => exact .inr ⟨p, c, e, hrole, hidle, hmay, hroom, hp, hc, he, rfl⟩
      · exact .inl rfl
    · exact .inl rfl
  · exact .inl rfl

/-- R8, R121: a pull begun carries the reading of its wire, which is not 0. -/
theorem pullCycleStart_carries_bondedBy {s t : State} {f : PullInFlight} (h : exec .pullCycleStart s = .next t)
    (hidle : s.pull.cycle = .idle) (hbegun : t.pull.cycle ≠ .idle) (hf : t.pull.inFlight = some f) :
    ∃ p e, s.program? = some p ∧ s.unit? f.unit = some e ∧ f.bondedBy = bondedBy p e f.wire ∧ f.bondedBy ≠ 0 := by
  rcases exec_pullCycleStart_cases s with hstay | ⟨p, c, e, -, -, -, -, hp, hc, he, hbegin⟩
  · obtain rfl : s = t := Host.Outcome.next.inj (hstay.symm.trans h)
    exact absurd hidle hbegun
  · obtain rfl := Host.Outcome.next.inj (hbegin.symm.trans h)
    obtain rfl : pullInFlight p e c = f := by simpa using hf
    exact ⟨p, e, hp, he, rfl, State.pullChoice_bonded hc hp he⟩

/-- Settles O47: the reading by cases on the split and the next wire, the pull's by what PULL_CYCLE_START can choose. -/
theorem bondedByIsRead : Obligations.BondedByIsRead := by
  refine ⟨fun g w => ⟨fun hn hs => ?_, fun hn hs => ?_, fun hn => ?_⟩, ?_, ?_, fun _ _ _ _ => rfl⟩
  · rw [readBonder, if_pos hn, if_pos hs]
  · rw [readBonder, if_pos hn, if_neg hs.not_gt]
  · rw [readBonder, if_neg hn.not_gt]
  · intro p e k w g hg hfirst hlast hbefore
    rw [Nat.add_comm] at hfirst hlast
    refine bonderFrom_eq_readBonder hg ⟨hfirst, hlast⟩ fun j hj => ?_
    rw [Nat.add_comm]
    exact hbefore j hj
  · intro s t f h hidle hbegun hf
    exact pullCycleStart_carries_bondedBy h hidle hbegun hf

/-! ## The pull mark (R9) -/

/-- R9: the outcomes that mark a unit, from the least severe to the most. -/
def severityOrder : List PullOutcome := [.held, .pass, .low, .lift2, .lift1, .failNd]

/-- R9: the model's severity is the place in the manual's order, counted from 1; NO_HOOK has none. -/
theorem severity_eq_idxOf {o : PullOutcome} (h : o ∈ severityOrder) : severity o = severityOrder.idxOf o + 1 := by
  revert o
  decide

/-- R9: every outcome but NO_HOOK has a place in the order. -/
theorem mem_severityOrder {o : PullOutcome} (h : o ≠ .noHook) : o ∈ severityOrder := by
  revert h
  cases o <;> decide

/-- R9: a worst outcome gives way to a more severe one only. -/
theorem worse_some (x o : PullOutcome) : worse (some x) o = if severity x < severity o then o else x := rfl

/-- R9: the worse of two outcomes is one of them. -/
theorem worse_some_eq_or (x o : PullOutcome) : worse (some x) o = x ∨ worse (some x) o = o := by
  rw [worse_some]
  split
  · exact .inr rfl
  · exact .inl rfl

/-- R9: the worse of two outcomes is at least as severe as each. -/
theorem severity_le_worse (x o : PullOutcome) :
    severity x ≤ severity (worse (some x) o) ∧ severity o ≤ severity (worse (some x) o) := by
  rw [worse_some]
  split
  · next h => exact ⟨h.le, le_rfl⟩
  · next h => exact ⟨le_rfl, not_lt.mp h⟩

/-- R9: in the manual's order the worse of two outcomes comes before neither. -/
theorem idxOf_le_idxOf_worse {x o : PullOutcome} (hx : x ∈ severityOrder) (ho : o ∈ severityOrder) :
    severityOrder.idxOf x ≤ severityOrder.idxOf (worse (some x) o) ∧
      severityOrder.idxOf o ≤ severityOrder.idxOf (worse (some x) o) := by
  have hw : worse (some x) o ∈ severityOrder := by
    rcases worse_some_eq_or x o with h | h <;> rwa [h]
  have hle := severity_le_worse x o
  simpa only [severity_eq_idxOf hx, severity_eq_idxOf ho, severity_eq_idxOf hw, Nat.add_le_add_iff_right] using hle

/-- R13: LOADED and FINISHED stages let the pull unit change the record. -/
theorem State.pullMayChange_of_loaded_or_finished {s : State}
    (h : s.stage.state = .loaded ∨ s.stage.state = .finished) : s.pullMayChange = true := by
  rcases h with h | h <;> simp [State.pullMayChange, h]

/-- Settles O48: the mark as `State.pullMark_unit` gives it, its worst outcome placed in the manual's order. -/
theorem pullMarksItsUnit : Obligations.PullMarksItsUnit := by
  refine ⟨?_, fun s x hx => ?_, fun s x hx => ?_⟩
  · intro s u o e hstage he ho
    have hmark := State.pullMark_unit o he (State.pullMayChange_of_loaded_or_finished hstage)
    refine ⟨worse e.worst o, hmark, fun hnone => ?_, fun x hworst => ?_⟩
    · rw [hnone, worse]
    · rw [hworst]
      refine ⟨worse_some_eq_or x o, ?_⟩
      rintro l rfl hx
      exact idxOf_le_idxOf_worse hx (mem_severityOrder ho)
  · unfold State.markUnit
    exact if_neg hx
  · unfold State.markUnit
    exact if_pos hx

end Sys2Proof.Machine
end

section
/-! PROOFS. The compensation temperature (R62): what a zone's entry gives, the bond that latches it as its search meets the
surface, and the two commands of the heat monitor and of power-on that bear on it. -/

namespace Sys2Proof.Machine

/-! ## What a zone gives -/

/-- R62: an enabled zone whose last visit gave a valid reading gives that reading. -/
theorem State.compensationTemperature_of_reading {s : State} {z : Nat} {r : Int} (henabled : s.zoneEnabled z = true)
    (hvalid : (s.heat.zone z).lastInvalid = false) (hreading : (s.heat.zone z).reading = some r) :
    s.compensationTemperature z = r := by
  simp only [State.compensationTemperature, henabled, hvalid, hreading]

/-- R62: a zone that is disabled, was last visited invalidly or has no reading gives its set temperature. -/
theorem State.compensationTemperature_of_unread {s : State} {z : Nat}
    (h : s.zoneEnabled z = false ∨ (s.heat.zone z).lastInvalid = true ∨ (s.heat.zone z).reading = none) :
    s.compensationTemperature z = (s.zoneSetting z).tSet := by
  unfold State.compensationTemperature
  split
  · next henabled hvalid hreading => simp [henabled, hvalid, hreading] at h
  · rfl

/-- R86: a zone that gives its set temperature has no deficit. -/
theorem State.deficit_eq_zero {s : State} {z : Nat} (h : s.compensationTemperature z = (s.zoneSetting z).tSet) :
    s.deficit z = 0 := by
  rw [State.deficit, h, Int.sub_self, max_self]

/-! ## The bond that latches it -/

/-- R86: with a valid program the zone of a bond is the one it maps to the current column. -/
theorem State.bondZone_of_program {s : State} {p : Program} (hp : s.program? = some p) :
    s.bondZone = zoneOfColumn p s.stage.column := by
  rw [State.bondZone, State.setting, hp]

/-- R86: a new bond takes the compensation of the deficit of the zone mapped to the current column. -/
theorem State.newBond_compensation {s : State} {p : Program} (hp : s.program? = some p) (c : Nat) (side : Side) (x : Int) :
    (s.newBond c side x).compensation = compensation (s.deficit (zoneOfColumn p s.stage.column)) := by
  rw [← State.bondZone_of_program hp, State.newBond]

/-- R72, R86: contact in the first search begins a bond, latched from the state at contact. -/
theorem exec_searchFirstContact_bond {s : State} {f : WireInFlight} (x : Int) (hf : s.wire.inFlight = some f)
    (hcycle : s.wire.cycle = .searchFirst) (hawaits : s.wire.awaits = .none) :
    ∃ t, exec (.searchFirstContact x) s = .next t ∧ t.energy.bond = some (s.newBond f.bondClass .first x) := by
  refine ⟨_, rfl, ?_⟩
  simp only [hf, hcycle, hawaits, and_self, if_true]
  rfl

/-- R75, R86: contact in the second search begins a bond, latched from the state at contact. -/
theorem exec_searchSecondContact_bond {s : State} {f : WireInFlight} (x : Int) (hf : s.wire.inFlight = some f)
    (hcycle : s.wire.cycle = .searchSecond) (hawaits : s.wire.awaits = .none) :
    ∃ t, exec (.searchSecondContact x) s = .next t ∧ t.energy.bond = some (s.newBond f.bondClass .second x) := by
  refine ⟨_, rfl, ?_⟩
  simp only [hf, hcycle, hawaits, and_self, if_true]
  rfl

/-! ## Visits and power-on -/

/-- R62: a visit, judged or not, leaves the energy unit and its bond alone. -/
theorem energy_of_exec_zoneVisit {s t : State} {valid : Bool} {x : Int} (h : exec (.zoneVisit valid x) s = .next t) :
    t.energy = s.energy := by
  obtain rfl := Host.Outcome.next.inj h
  split
  · rfl
  · exact (State.judgeZone_frame _ _).2.2.2.2.1

/-- R36, R59: after power-on the heat monitor is at its power-on values, whatever the stage port shows. -/
theorem heat_of_exec_powerOn {s t : State} {p : Straps} {r : FirstReading} (h : exec (.powerOn p r) s = .next t) :
    t.heat = .initial := by
  obtain rfl := Host.Outcome.next.inj h
  dsimp only
  (repeat' split) <;> simp only [State.senseOutput_frame, State.senseInput_frame, State.senseStrip_frame] <;> rfl

/-- R59: at power-on no zone has a reading. -/
@[simp] theorem HeatMonitor.initial_zone_reading (z : Nat) : (HeatMonitor.initial.zone z).reading = none := by
  rw [HeatMonitor.zone, HeatMonitor.initial, List.getD_eq_getElem?_getD, List.getElem?_getD_replicate_default_eq]

/-- Settles O33: the first two clauses by the zone's entry, the bond's by what contact latches, and the last two by what a visit
and power-on leave. -/
theorem compensationTemperatureOfZone : Obligations.CompensationTemperatureOfZone := by
  refine ⟨?_, ?_, ?_, ?_, ?_⟩
  · exact fun s z r => State.compensationTemperature_of_reading
  · intro s z h
    have hset := State.compensationTemperature_of_unread h
    exact ⟨hset, State.deficit_eq_zero hset⟩
  · intro s f p x hf hp hawaits
    refine ⟨fun hcycle => ?_, fun hcycle => ?_⟩
    · obtain ⟨t, hstep, hbond⟩ := exec_searchFirstContact_bond x hf hcycle hawaits
      exact ⟨t, _, hstep, hbond, State.newBond_compensation hp _ _ _⟩
    · obtain ⟨t, hstep, hbond⟩ := exec_searchSecondContact_bond x hf hcycle hawaits
      exact ⟨t, _, hstep, hbond, State.newBond_compensation hp _ _ _⟩
  · exact fun s t valid x => energy_of_exec_zoneVisit
  · intro s t p r z h
    have hreading : (t.heat.zone z).reading = none := by
      rw [heat_of_exec_powerOn h, HeatMonitor.initial_zone_reading]
    exact ⟨hreading, State.compensationTemperature_of_unread (.inr (.inr hreading))⟩

end Sys2Proof.Machine
end

section
/-! PROOFS. The effective power of a bond (R87): what contact latches of it, how samples carry it to the last bond record, and
what its saturated mark asks of an outcome. -/

namespace Sys2Proof.Machine

/-! ## Factor and product -/

/-- R84, R97: the trim entry of any class is within its limits, the classes past the table reading 0. -/
theorem State.TrimInv.trimOf_within {s : State} (h : s.TrimInv) (c : Nat) : (s.energy.trimOf c).Within := by
  rw [EnergyUnit.trimOf, List.getD_eq_getElem?_getD]
  cases hget : s.energy.trims[c]? with
  | some e => exact h e (List.mem_of_getElem? hget)
  | none => simp [TrimEntry.Within]

/-- R97: each of the two trims of an entry within its limits lies in -20 to +20. -/
theorem TrimEntry.Within.side_bounds {e : TrimEntry} (h : e.Within) (side : Side) : -20 ≤ e.side side ∧ e.side side ≤ 20 := by
  obtain ⟨hfirst, hfirst', hsecond, hsecond', -⟩ := h
  cases side with
  | first => exact ⟨hfirst, hfirst'⟩
  | second => exact ⟨hsecond, hsecond'⟩

/-- R86: a zone deficit is never negative. -/
theorem State.deficit_nonneg (s : State) (z : Nat) : 0 ≤ s.deficit z := le_max_left _ _

/-- R86: the compensation of a deficit lies in 0 to 10. -/
theorem compensation_bounds {d : Int} (h : 0 ≤ d) : 0 ≤ compensation d ∧ compensation d ≤ 10 :=
  ⟨le_min (by decide) (Int.ediv_nonneg h (by decide)), min_le_left _ _⟩

/-- R87: a product above 100 000 gives full power. -/
theorem effectivePower_of_saturated {pn : Nat} {t c : Int} (h : isSaturated pn t c = true) : effectivePower pn t c = 1000 :=
  if_pos h

/-- R87: up to 100 000 the power is the floor of a hundredth of the product, where the factor is not negative. -/
theorem effectivePower_of_not_saturated {pn : Nat} {t c : Int} (hfactor : 0 ≤ 100 + t + c) (h : isSaturated pn t c = false) :
    (effectivePower pn t c : Int) = powerProduct pn t c / 100 := by
  have hproduct : 0 ≤ powerProduct pn t c := Int.mul_nonneg (Int.natCast_nonneg pn) hfactor
  rw [effectivePower, h, if_neg Bool.false_ne_true]
  exact Int.toNat_of_nonneg (Int.ediv_nonneg hproduct (by decide))

/-! ## What contact latches -/

/-- R87: with the trims within their limits a new bond's factor lies in 80 to 130. -/
theorem State.newBond_factor {s : State} (h : s.TrimInv) (c : Nat) (side : Side) (x : Int) :
    80 ≤ 100 + (s.newBond c side x).trim + (s.newBond c side x).compensation ∧
      100 + (s.newBond c side x).trim + (s.newBond c side x).compensation ≤ 130 := by
  have htrim := (h.trimOf_within c).side_bounds side
  have hcomp := compensation_bounds (s.deficit_nonneg s.bondZone)
  dsimp only [State.newBond]
  omega

/-- R74, R86: contact in the search of a side begins a bond of that side, latched from the state at contact. -/
theorem exec_contact_bond {s : State} {f : WireInFlight} (x : Int) (side : Side) (hf : s.wire.inFlight = some f)
    (hawaits : s.wire.awaits = .none)
    (hcycle : s.wire.cycle = (match side with | .first => .searchFirst | .second => .searchSecond)) :
    ∃ t, exec (match side with | .first => .searchFirstContact x | .second => .searchSecondContact x) s = .next t ∧
      t.energy.bond = some (s.newBond f.bondClass side x) := by
  cases side with
  | first => exact exec_searchFirstContact_bond x hf hcycle hawaits
  | second => exact exec_searchSecondContact_bond x hf hcycle hawaits

/-! ## From sample to sample -/

/-- R89, R90: a sample leaves the energy unit as it is, or puts the sampled bond in the old one's place, or closes it with some
outcome. -/
theorem energy_of_exec_bondSample {s t : State} {b : Bond} {z : Option Int} {g : Nat} (hb : s.energy.bond = some b)
    (h : exec (.bondSample z g) s = .next t) :
    t.energy = s.energy ∨ t.energy = { s.energy with bond := some (b.sampled z g) } ∨
      ∃ o, t.energy = (s.closeBond (b.sampled z g) o).energy := by
  obtain rfl : _ = t := Host.Outcome.next.inj h
  rw [hb]
  cases s.wire.inFlight with
  | none => exact .inl rfl
  | some f =>
    dsimp only
    split
    · split
      · next o _ =>
        refine .inr (.inr ⟨o, ?_⟩)
        simp only [State.afterBond_frame, State.bondConsequence_frame]
      · exact .inr (.inl rfl)
    · exact .inl rfl

/-- R87: power and mark stay with the bond while it goes on, and pass to the last bond record with its end. -/
theorem exec_bondSample_keeps_power {s t : State} {b : Bond} {z : Option Int} {g : Nat} (hb : s.energy.bond = some b)
    (h : exec (.bondSample z g) s = .next t) :
    (∀ c, t.energy.bond = some c → c.power = b.power ∧ c.saturated = b.saturated) ∧
      (t.energy.bond = none → ∃ l, t.energy.lastBond = some l ∧ l.power = b.power ∧ l.saturated = b.saturated) := by
  obtain hsame | hsampled | ⟨o, hclosed⟩ := energy_of_exec_bondSample hb h
  · simp [hsame, hb]
  · simp [hsampled, Bond.sampled]
  · simp [hclosed, Bond.sampled]

/-! ## What the mark asks for -/

/-- R91, R93: a bond that ended well asks for a suspect exactly where it is saturated. -/
theorem State.bondConsequence_of_good {o : BondOutcome} (h : o = .sinkMet ∨ o = .timed ∨ o = .fast) (s : State) (u w : Nat) :
    s.bondConsequence o false u w = s ∧ s.bondConsequence o true u w = s.askSuspect u w .saturated := by
  obtain rfl | rfl | rfl := h <;> exact ⟨rfl, rfl⟩

/-- R91: a crush rejects its unit, saturated or not. -/
theorem State.bondConsequence_crush (mark : Bool) (s : State) (u w : Nat) :
    s.bondConsequence .crush mark u w = s.requestReject u .bondFail := rfl

/-- Settles O34: the first clause by the bond that contact latches, the second by what a sample does to the energy unit, and the
last two by the outcome's case of R91's table. -/
theorem effectivePowerIsLatched : Obligations.EffectivePowerIsLatched := by
  refine ⟨?_, ?_, ?_, ?_⟩
  · intro s f x side htrims hf hawaits hcycle
    obtain ⟨t, hstep, hbond⟩ := exec_contact_bond x side hf hawaits hcycle
    obtain ⟨hlow, hhigh⟩ := State.newBond_factor htrims f.bondClass side x
    refine ⟨t, _, hstep, hbond, rfl, rfl, ?_, hlow, hhigh, fun habove => ?_, fun hbelow => ?_⟩
    · cases side <;> rfl
    · have hmark : (s.newBond f.bondClass side x).saturated = true := decide_eq_true habove
      exact ⟨effectivePower_of_saturated hmark, hmark⟩
    · have hmark : (s.newBond f.bondClass side x).saturated = false := decide_eq_false (not_lt.mpr hbelow)
      exact ⟨effectivePower_of_not_saturated (le_trans (by decide) hlow) hmark, hmark⟩
  · exact fun s b z g hb => ⟨_, rfl, exec_bondSample_keeps_power hb rfl⟩
  · exact fun s u w o ho => State.bondConsequence_of_good ho s u w
  · exact fun s u w => ⟨rfl, rfl, fun mark => State.bondConsequence_crush mark s u w⟩

end Sys2Proof.Machine
end


section
/-! PROOFS. What each command leaves alone: the table of the blocks a command may change, and that it changes no other. -/

namespace Sys2Proof.Machine

/-! ## Blocks -/

/-- The parts of the state that only some commands change. Station control, the alarm table, the line unit and the screen are not
among them: nearly every command may change those. -/
inductive Block where
  | straps | loader | stage | heat | wire | energy | pull | elevator | report | ports
deriving DecidableEq

/-- `t` is `s` but for the blocks listed, and for station control, alarms, line and screen. -/
structure KeepsBut (bs : List Block) (s t : State) : Prop where
  straps : .straps ∉ bs → t.straps = s.straps
  loader : .loader ∉ bs → t.loader = s.loader
  stage : .stage ∉ bs → t.stage = s.stage
  heat : .heat ∉ bs → t.heat = s.heat
  wire : .wire ∉ bs → t.wire = s.wire
  energy : .energy ∉ bs → t.energy = s.energy
  pull : .pull ∉ bs → t.pull = s.pull
  elevator : .elevator ∉ bs → t.elevator = s.elevator
  report : .report ∉ bs → t.report = s.report
  ports : .ports ∉ bs → t.ports = s.ports
  pending : t.pending = s.pending

theorem KeepsBut.refl (bs : List Block) (s : State) : KeepsBut bs s s := by constructor <;> intros <;> rfl

theorem KeepsBut.trans {bs : List Block} {s t u : State} (h : KeepsBut bs s t) (k : KeepsBut bs t u) : KeepsBut bs s u where
  straps n := (k.straps n).trans (h.straps n)
  loader n := (k.loader n).trans (h.loader n)
  stage n := (k.stage n).trans (h.stage n)
  heat n := (k.heat n).trans (h.heat n)
  wire n := (k.wire n).trans (h.wire n)
  energy n := (k.energy n).trans (h.energy n)
  pull n := (k.pull n).trans (h.pull n)
  elevator n := (k.elevator n).trans (h.elevator n)
  report n := (k.report n).trans (h.report n)
  ports n := (k.ports n).trans (h.ports n)
  pending := k.pending.trans h.pending

/-- The blocks in which a STOP ends work (R24). -/
def stopBlocks : List Block := [.stage, .wire, .energy, .pull, .elevator, .ports]

/-- The blocks a command may change. -/
def blocksOf : Instr → List Block
  | .powerOn .. => [.straps, .loader, .stage, .heat, .wire, .energy, .pull, .elevator, .report, .ports]
  | .loadEnd _ => .loader :: .heat :: stopBlocks
  | .resumeKey _ | .pullResultFrame .. => .report :: stopBlocks
  | .ackKey | .stopButton | .warmRestart => stopBlocks
  | .stopFrame _ | .restartFrame _ | .presentFrame .. | .alarmFrame .. | .stateFrame .. | .lineStartFrame _ => stopBlocks
  | .offerFrame .. | .takeFrame .. | .refuseFrame .. | .arrivedFrame .. | .recordFrame .. | .frameDiscard _ => stopBlocks
  | .waitingFrameJoins | .reportSendStart | .reportSendEnd => [.report]
  | .zoneVisit .. => [.heat]
  | .frameSendEnd _ | .dwellLimitReached | .indexMotionEnd | .offerSend | .offerTimerExpiry => [.stage]
  | .senderTransferTimeout | .receiverTransferTimeout => [.stage]
  | .stageChooseWork | .auditWaitChoose => [.stage, .ports]
  | .arrival => [.stage, .pull, .elevator]
  | .stripLeft => [.stage, .elevator, .report]
  | .unloadStart _ => [.stage, .elevator, .report]
  | .unloadingPushRetry | .unloadingPushTimeout | .feedingPushStart _ | .feedingPushTimeout => [.stage, .elevator]
  | .pusherReturnToRest _ => [.stage, .elevator]
  | .elevatorMoveStart _ => [.elevator, .ports]
  | .elevatorMoveEnd .. | .newMagazine _ | .magazineRemoved _ | .inkMark _ => [.elevator]
  | .wireCycleStart | .searchFirstLimit | .loopLiftInPosition _ | .searchSecondLimit => [.stage, .wire, .ports]
  | .tailRiseInPosition _ | .tailingEnd => [.stage, .wire, .ports]
  | .leadFlameHeadReady | .flameOffEnd _ | .toFirstInPosition | .loopMotionInPosition => [.wire, .ports]
  | .missingDieReturnEnd | .cutEnd => [.wire]
  | .searchFirstContact _ | .searchSecondContact _ => [.wire, .energy, .ports]
  | .bondSample .. => [.stage, .wire, .energy, .ports]
  | .demandInterval => [.ports]
  | .auditSpacingExpiry | .releaseEnd => [.pull]
  | .pullCycleStart => [.stage, .pull, .ports]
  | .toWireInPosition | .hookEngagement => [.pull, .ports]
  | .loadCellSample .. | .holdTimerExpiry | .liftTravelLimit => [.stage, .pull, .report, .ports]
  | .pageKey | .holdKey | .keyRelease _ | .chordTimerExpiry | .frameSendStart | .arbitrationLost | .boundaryTaken => []
  | .tick | .fieldEngineWalk | .rollCallTimerExpiry => []

/-- R171: hearing a frame changes what its handler changes, and what a STOP ends where the frame shows a duplicate station. -/
theorem KeepsBut.hear {bs : List Block} {handle : State → State} (sender target : Nat) (s : State)
    (hstop : stopBlocks ⊆ bs) (h : ∀ r, KeepsBut bs r (handle r)) : KeepsBut bs s (s.hear sender target handle) := by
  have hanswer : ∀ a, KeepsBut bs s (s.answer a) := fun a => by constructor <;> simp
  have hdup : ∀ r : State, KeepsBut bs r r.duplicate := fun r => by
    simp only [stopBlocks, List.cons_subset] at hstop
    constructor <;> simp [hstop]
  unfold State.hear
  split
  · exact hanswer false
  split
  · exact hanswer true
  split
  · exact (hanswer true).trans (hdup _)
  · exact (hanswer true).trans (h _)

/-- R171: outside BOOT a frame changes what its handler changes, in BOOT nothing. -/
theorem KeepsBut.outsideBoot {bs : List Block} {handle : State → State} {s : State} (h : KeepsBut bs s (handle s)) :
    KeepsBut bs s (s.outsideBoot handle) := by
  unfold State.outsideBoot
  split
  · exact .refl bs s
  · exact h

/-! ## The walk of the field engine -/

/-- R163: a transfer changes the screen alone. -/
theorem State.transfer_eq (t first n : Nat) (d : Descriptor) (s : State) :
    s.transfer t first n d = { s with screen := (s.transfer t first n d).screen } := by
  unfold State.transfer
  split <;> rfl

/-- R162: a walk changes the screen alone. -/
theorem State.walk_eq (t first fuel n : Nat) (s : State) :
    s.walk t first fuel n = { s with screen := (s.walk t first fuel n).screen } := by
  induction fuel generalizing n s with
  | zero => rfl
  | succ fuel ih =>
    unfold State.walk
    split
    · dsimp only
      split
      · rw [ih, State.transfer_eq]
      · exact State.transfer_eq ..
    · rfl

/-! ## The table holds -/

/-- Every command answers a next state. -/
theorem exec_next (c : Instr) (s : State) : ∃ t, exec c s = .next t := by
  cases c <;> exact ⟨_, rfl⟩

/-- A command changes the blocks its row of the table names, station control, alarms, line and screen, and no other. -/
theorem exec_keepsBut {c : Instr} {s t : State} (h : exec c s = .next t) : KeepsBut (blocksOf c) s t := by
  cases c with
  | stopFrame | alarmFrame | lineStartFrame | pullResultFrame =>
    obtain rfl : _ = t := Host.Outcome.next.inj h
    refine KeepsBut.hear _ _ _ (by simp [blocksOf]) fun r => ?_
    clear h
    (repeat' split) <;> constructor <;> simp [blocksOf, stopBlocks]
  | presentFrame | stateFrame =>
    obtain rfl : _ = t := Host.Outcome.next.inj h
    refine KeepsBut.hear _ _ _ (by simp [blocksOf]) fun r => ?_
    refine .trans (t := r.setRoster _ _) ?_ (KeepsBut.outsideBoot ?_) <;> constructor <;> simp [blocksOf, stopBlocks]
  | restartFrame | offerFrame | refuseFrame | arrivedFrame | recordFrame | takeFrame =>
    obtain rfl : _ = t := Host.Outcome.next.inj h
    refine KeepsBut.hear _ _ _ (by simp [blocksOf]) fun r => .outsideBoot ?_
    clear h
    (repeat' split) <;> constructor <;> simp [blocksOf, stopBlocks]
  | frameDiscard =>
    obtain rfl : _ = t := Host.Outcome.next.inj h
    split
    · exact KeepsBut.hear _ _ _ (by simp [blocksOf]) fun r => .refl _ r
    · constructor <;> simp
  | ackKey | resumeKey =>
    obtain rfl : _ = t := Host.Outcome.next.inj h
    refine .trans (t := s.pressKey _) ?_ (KeepsBut.outsideBoot ?_) <;> constructor <;> simp [blocksOf, stopBlocks]
  | powerOn =>
    obtain rfl : _ = t := Host.Outcome.next.inj h
    clear h
    dsimp only
    (repeat' split) <;> constructor <;> simp [blocksOf]
  | fieldEngineWalk =>
    obtain rfl : _ = t := Host.Outcome.next.inj h
    clear h
    split
    · exact .refl _ s
    split
    · split
      · rw [State.walk_eq]
        constructor <;> simp
      · exact .refl _ s
    · exact .refl _ s
  | _ =>
    obtain rfl : _ = t := Host.Outcome.next.inj h
    clear h
    (repeat' (split <;> try dsimp only)) <;> constructor <;> simp [blocksOf, stopBlocks]

/-! ## What the table gives -/

/-- The straps and the loader are changed by power-on and the end of the load alone. -/
theorem straps_loader_notMem_blocksOf (c : Instr) (hp : ∀ p r, c ≠ .powerOn p r) :
    Block.straps ∉ blocksOf c ∧ ((∀ i, c ≠ .loadEnd i) → Block.loader ∉ blocksOf c) := by
  cases c <;> simp [blocksOf, stopBlocks] at hp ⊢

/-- Settles O2: every command answers, and the queue of commands stands in no row of the table. -/
theorem everyCommandAnswersNext : Obligations.EveryCommandAnswersNext := fun c s =>
  have ⟨t, h⟩ := exec_next c s
  ⟨t, h, (exec_keepsBut h).pending⟩

/-- Settles O3: by the table's rows of straps and loader. -/
theorem programAndStrapsOutlastCommands : Obligations.ProgramAndStrapsOutlastCommands := fun c _ _ h hp =>
  have ⟨hstraps, hloader⟩ := straps_loader_notMem_blocksOf c hp
  ⟨(exec_keepsBut h).straps hstraps, fun hl => (exec_keepsBut h).loader (hloader hl)⟩

/-- Settles O1: a step unfolds to the command at the front. -/
theorem stepTakesFrontCommand : Obligations.StepTakesFrontCommand :=
  ⟨fun _ _ _ => rfl, fun _ => rfl⟩

/-- A step is the command at the front of the queue, taken from a state that differs in the queue alone; or it idles. -/
theorem step_cases {s t : State} (h : step s = .next t) :
    t = s ∨ ∃ c q, exec c (s.withPending q) = .next t := by
  unfold step at h
  split at h
  · exact .inl (Host.Outcome.next.inj h).symm
  · next c q _ => exact .inr ⟨c, q, h⟩

end Sys2Proof.Machine
end


section
/-! PROOFS. The bounds of the line unit (R50, R173, R174): every request keeps them, and so does every shared operation; what
stands for a waiting result, and which operations bring none. -/

namespace Sys2Proof.Machine

/-! ## Counters -/

theorem bump_le {cap n : Nat} (h : n ≤ cap) : bump cap n ≤ cap := by
  unfold bump
  split <;> omega

theorem bumpBy_le (cap n k : Nat) : bumpBy cap n k ≤ cap := min_le_left _ _

/-! ## A request keeps the bounds (R174) -/

theorem TxEntry.isBulk_iff (e : TxEntry) : e.isBulk = true ↔ 5 ≤ e.body.frameClass := by simp [TxEntry.isBulk]

/-- R174: only an ALARM or a STATE frame that waits is merged with, by a frame of its own kind. -/
theorem TxEntry.mergesWith_cases {body : TxBody} {e : TxEntry} (h : e.mergesWith body = true) :
    e.onLine = none ∧ e.isBulk = false ∧ body.frameClass < 5 := by
  unfold TxEntry.mergesWith at h
  split at h
  · next he => simpa [TxEntry.isBulk, he, TxBody.frameClass] using h
  · next he => simp [TxEntry.isBulk, he, TxBody.frameClass] at h ⊢; exact h.1
  · simp at h

/-- A merge changes the body of one entry that does not stand on the line and nothing else of the queue. -/
theorem mem_mergeFrame {body : TxBody} {q : List TxEntry} {e : TxEntry} (h : e ∈ mergeFrame body q) :
    ∃ x ∈ q, e.onLine = x.onLine ∧ e.givenUp = x.givenUp := by
  induction q with
  | nil => simp [mergeFrame] at h
  | cons y ys ih =>
    rw [mergeFrame] at h
    split at h
    · rcases List.mem_cons.1 h with rfl | h
      · exact ⟨y, by simp, rfl, rfl⟩
      · exact ⟨e, by simp [h], rfl, rfl⟩
    · rcases List.mem_cons.1 h with rfl | h
      · exact ⟨e, by simp, rfl, rfl⟩
      · obtain ⟨x, hx, hxe⟩ := ih h
        exact ⟨x, by simp [hx], hxe⟩

/-- A count over the queue that a merge does not show in stays as it was. -/
theorem length_filter_mergeFrame {body : TxBody} {p : TxEntry → Bool} (q : List TxEntry)
    (hp : ∀ e : TxEntry, e.mergesWith body = true → p { e with body := body } = p e) :
    ((mergeFrame body q).filter p).length = (q.filter p).length := by
  induction q with
  | nil => rfl
  | cons y ys ih =>
    rw [mergeFrame]
    split
    · next hm => simp only [List.filter_cons, hp y hm]; split <;> rfl
    · simp only [List.filter_cons]; split <;> simp [ih]

theorem dropFirst_sublist (p : TxEntry → Bool) (q : List TxEntry) : (dropFirst p q).Sublist q := by
  induction q with
  | nil => exact List.Sublist.refl _
  | cons y ys ih =>
    rw [dropFirst]
    split
    · exact List.sublist_cons_self y ys
    · exact ih.cons_cons y

theorem LineUnit.bulkCount_append (q : List TxEntry) (target : Nat) (body : TxBody) :
    ((q ++ [(⟨target, body, none, false⟩ : TxEntry)]).filter TxEntry.isBulk).length =
      (q.filter TxEntry.isBulk).length + if 5 ≤ body.frameClass then 1 else 0 := by
  rw [List.filter_append, List.length_append]
  by_cases hc : 5 ≤ body.frameClass <;> simp [TxEntry.isBulk, hc]

/-- R174: no request takes the line unit past its bounds. -/
theorem LineUnit.Bounded.request {l : LineUnit} (h : l.Bounded) (target : Nat) (body : TxBody) :
    (l.request target body).Bounded := by
  obtain ⟨hplaces, hbulk, honLine, hwaiting, hgiven, hunheard, hlost⟩ := h
  have hgivenQ : ∀ e ∈ l.queue, e.givenUp = true → e.onLine.isSome = true := fun e he => hgiven e (by simp [he])
  have hgivenW : ∀ e ∈ l.waiting, e.givenUp = true → e.onLine.isSome = true := fun e he => hgiven e (by simp [he])
  rcases l.request_cases target body with ⟨-, he⟩ | ⟨hroom, hb, he⟩ | ⟨-, -, he⟩ | ⟨hc, hfull, hgo, he⟩ | ⟨-, -, -, he⟩ <;> rw [he]
  · refine ⟨by simpa [mergeFrame_length] using hplaces, ?_, ?_, hwaiting, ?_, hunheard, hlost⟩
    · refine (length_filter_mergeFrame _ fun e hm => ?_).le.trans hbulk
      obtain ⟨-, hnb, hcl⟩ := TxEntry.mergesWith_cases hm
      rw [hnb]
      simpa [TxEntry.isBulk] using hcl
    · exact (length_filter_mergeFrame _ fun _ _ => rfl).le.trans honLine
    · intro e hmem hg
      rcases List.mem_append.1 hmem with hq | hw
      · obtain ⟨x, hx, hol, hgu⟩ := mem_mergeFrame hq
        exact hol ▸ hgivenQ x hx (hgu ▸ hg)
      · exact hgivenW e hw hg
  · refine ⟨by simp; omega, ?_, by simpa using honLine, hwaiting, ?_, hunheard, hlost⟩
    · change ((l.queue ++ [(⟨target, body, none, false⟩ : TxEntry)]).filter TxEntry.isBulk).length ≤ 8
      rw [LineUnit.bulkCount_append]
      have hcount : (l.queue.filter TxEntry.isBulk).length = l.bulkCount := rfl
      split
      · next hc => have := (hb hc).1; omega
      · omega
    · intro e hmem hg
      simp only [List.mem_append, List.mem_singleton] at hmem
      rcases hmem with (hq | rfl) | hw
      · exact hgivenQ e hq hg
      · simp at hg
      · exact hgivenW e hw hg
  · refine ⟨hplaces, hbulk, honLine, ?_, ?_, hunheard, hlost⟩
    · intro e hmem
      rcases List.mem_append.1 hmem with hw | hn
      · exact hwaiting e hw
      · rw [List.mem_singleton.1 hn]
    · intro e hmem hg
      simp only [List.mem_append, List.mem_singleton] at hmem
      rcases hmem with hq | hw | rfl
      · exact hgivenQ e hq hg
      · exact hgivenW e hw hg
      · simp at hg
  · have hsub := dropFirst_sublist TxEntry.mayGo l.queue
    have hlen := dropFirst_length hgo
    refine ⟨by simp; omega, ?_, ?_, hwaiting, ?_, hunheard, bump_le hlost⟩
    · change ((dropFirst TxEntry.mayGo l.queue ++ [(⟨target, body, none, false⟩ : TxEntry)]).filter TxEntry.isBulk).length ≤ 8
      rw [LineUnit.bulkCount_append, if_neg (by omega)]
      exact (hsub.filter _).length_le.trans hbulk
    · simpa using (hsub.filter _).length_le.trans honLine
    · intro e hmem hg
      simp only [List.mem_append, List.mem_singleton] at hmem
      rcases hmem with (hq | rfl) | hw
      · exact hgivenQ e (hsub.subset hq) hg
      · simp at hg
      · exact hgivenW e hw hg
  · exact ⟨hplaces, hbulk, honLine, hwaiting, hgiven, hunheard, bump_le hlost⟩

/-! ## What the operations keep of the line unit -/

/-- R131: no pull result waits for room. -/
def LineUnit.NoResult (l : LineUnit) : Prop := ∀ e ∈ l.waiting, ∀ x, e.body ≠ .pullResult x

theorem State.resultWaiting_eq_false_iff (s : State) : s.resultWaiting = false ↔ s.line.NoResult := by
  unfold State.resultWaiting LineUnit.NoResult
  rw [List.any_eq_false]
  refine forall₂_congr fun e _ => ?_
  cases e.body <;> simp

/-- `m` is within the bounds where `l` is, no result waits in it where none waits in `l`, and its roster is as long. -/
structure LineUnit.Keeps (l m : LineUnit) : Prop where
  bounded : l.Bounded → m.Bounded
  noResult : l.NoResult → m.NoResult
  roster : l.roster.length = 8 → m.roster.length = 8

@[simp] theorem LineUnit.Keeps.refl (l : LineUnit) : l.Keeps l := ⟨id, id, id⟩

theorem LineUnit.Keeps.trans {l m n : LineUnit} (h : l.Keeps m) (k : m.Keeps n) : l.Keeps n :=
  ⟨k.bounded ∘ h.bounded, k.noResult ∘ h.noResult, k.roster ∘ h.roster⟩

@[simp] theorem LineUnit.Keeps.request {l m : LineUnit} (h : l.Keeps m) (target : Nat) {body : TxBody}
    (hb : ∀ x, body ≠ .pullResult x) : l.Keeps (m.request target body) where
  bounded hl := (h.bounded hl).request target body
  noResult hl := by
    have hm := h.noResult hl
    rcases m.request_cases target body with ⟨-, he⟩ | ⟨-, -, he⟩ | ⟨-, -, he⟩ | ⟨-, -, -, he⟩ | ⟨-, -, -, he⟩ <;> rw [he]
    · exact hm
    · exact hm
    · intro e hmem
      rcases List.mem_append.1 hmem with hw | hn
      · exact hm e hw
      · rw [List.mem_singleton.1 hn]
        exact hb
    · exact hm
    · exact hm
  roster hl := by simpa using h.roster hl

/-- The fields that a bound does not speak of may change. -/
@[simp] theorem LineUnit.Keeps.answer {l m : LineUnit} (h : l.Keeps m) (ack : Bool) : l.Keeps { m with ackOut := ack } where
  bounded hl := have ⟨a, b, c, d, e, f, g⟩ := h.bounded hl; ⟨a, b, c, d, e, f, g⟩
  noResult := h.noResult
  roster := h.roster

@[simp] theorem LineUnit.Keeps.timer {l m : LineUnit} (h : l.Keeps m) (t : Timer) : l.Keeps { m with rollCallTimer := t } where
  bounded hl := have ⟨a, b, c, d, e, f, g⟩ := h.bounded hl; ⟨a, b, c, d, e, f, g⟩
  noResult := h.noResult
  roster := h.roster

@[simp] theorem LineUnit.Keeps.setRoster {l m : LineUnit} (h : l.Keeps m) (i : Nat) (r : RosterEntry) :
    l.Keeps { m with roster := m.roster.set i r } where
  bounded hl := have ⟨a, b, c, d, e, f, g⟩ := h.bounded hl; ⟨a, b, c, d, e, f, g⟩
  noResult := h.noResult
  roster hl := by simpa using h.roster hl

@[simp] theorem LineUnit.Keeps.heard {l m : LineUnit} (h : l.Keeps m) : l.Keeps { m with unheard := 0 } where
  bounded hl := have ⟨a, b, c, d, e, _, g⟩ := h.bounded hl; ⟨a, b, c, d, e, Nat.zero_le _, g⟩
  noResult := h.noResult
  roster := h.roster

@[simp] theorem LineUnit.Keeps.unheard {l m : LineUnit} (h : l.Keeps m) :
    l.Keeps { m with unheard := bump Config.byteCap m.unheard } where
  bounded hl := have ⟨a, b, c, d, e, f, g⟩ := h.bounded hl; ⟨a, b, c, d, e, bump_le f, g⟩
  noResult := h.noResult
  roster := h.roster

/-- R33, R175: the news of a changed alarm table. -/
@[simp] theorem LineUnit.Keeps.afterAlarm {l m : LineUnit} (h : l.Keeps m) (old new : AlarmUnit) {news : Option TxBody}
    (hn : ∀ x, news ≠ some (.pullResult x)) : l.Keeps (m.afterAlarm old new news) := by
  unfold LineUnit.afterAlarm
  cases news with
  | none =>
    dsimp only
    split
    · exact h
    · exact h.request 0 (by simp)
  | some b =>
    have hb := h.request 0 (body := b) fun x hx => hn x (by rw [hx])
    dsimp only
    split
    · exact hb
    · exact hb.request 0 (by simp)

/-- R50: RECORD parts are taken out, or marked where they stand on the line. -/
@[simp] theorem LineUnit.Keeps.dropParts {l m : LineUnit} (h : l.Keeps m) (n : Nat) : l.Keeps (m.dropParts n) where
  bounded hl := by
    obtain ⟨hplaces, hbulk, honLine, hwaiting, hgiven, hunheard, hlost⟩ := h.bounded hl
    have hsub : (m.queue.filter fun e => e.onLine.isSome || !e.isPartOf n).Sublist m.queue := List.filter_sublist
    refine ⟨?_, ?_, ?_, fun e he => hwaiting e (List.mem_filter.1 he).1, ?_, hunheard, hlost⟩
    · simpa [LineUnit.dropParts] using hsub.length_le.trans hplaces
    · have := (hsub.filter TxEntry.isBulk).length_le.trans hbulk
      simpa [LineUnit.dropParts, LineUnit.bulkCount, List.filter_map, Function.comp_def, TxEntry.isBulk] using this
    · have := (hsub.filter fun e => e.onLine.isSome).length_le.trans honLine
      simpa [LineUnit.dropParts, List.filter_map, Function.comp_def] using this
    · intro e he hg
      rcases List.mem_append.1 he with hq | hw
      · obtain ⟨x, hx, rfl⟩ := List.mem_map.1 hq
        obtain ⟨hmem, hstay⟩ := List.mem_filter.1 hx
        simp only [Bool.or_eq_true] at hg
        rcases hg with hg | hg
        · exact hgiven x (by simp [hmem]) hg
        · simpa [hg] using hstay
      · exact hgiven e (by simp [(List.mem_filter.1 hw).1]) hg
  noResult hl e he := h.noResult hl e (List.mem_filter.1 he).1
  roster := h.roster

end Sys2Proof.Machine
end


section
/-! PROOFS. What the shared operations keep of the line unit, of the alarm table's length, of the station and head state, and of the
STOP-class entries: a lemma for each that changes any of the four. -/

namespace Sys2Proof.Machine

/-! ### Primitives -/

theorem localClass_ne_stop {i : Nat} (h : 4 < i) : localClass i ≠ .stop := by
  unfold localClass
  split
  · omega
  · split <;> simp

@[simp] theorem State.raiseAlarm_keeps {l : LineUnit} (i : Nat) (d : Detail) {s : State} (h : l.Keeps s.line) :
    l.Keeps (s.raiseAlarm i d).line := by
  unfold State.raiseAlarm State.putEntry
  split
  · exact h
  · refine h.afterAlarm _ _ ?_
    split <;> simp [alarmBody]

@[simp] theorem State.putEntry_keeps {l : LineUnit} (i : Nat) (e : AlarmEntry) (b : Bool) {s : State} (h : l.Keeps s.line) :
    l.Keeps (s.putEntry i e b).line := by
  refine h.afterAlarm _ _ ?_
  split <;> simp [alarmBody]

@[simp] theorem State.conditionGone_keeps {l : LineUnit} (i : Nat) {s : State} (h : l.Keeps s.line) :
    l.Keeps (s.conditionGone i).line := by
  unfold State.conditionGone
  dsimp only
  split <;> simp [h]

@[simp] theorem State.acknowledge_keeps {l : LineUnit} (i : Nat) {s : State} (h : l.Keeps s.line) :
    l.Keeps (s.acknowledge i).line := State.putEntry_keeps _ _ _ h

@[simp] theorem State.mirror_keeps {l : LineUnit} (k : Nat) (m : Option Summary) {s : State} (h : l.Keeps s.line) :
    l.Keeps (s.mirror k m).line := by
  unfold State.mirror
  dsimp only
  split <;> simp [h]

@[simp] theorem State.raiseAlarm_length (i : Nat) (d : Detail) (s : State) :
    (s.raiseAlarm i d).alarms.entries.length = s.alarms.entries.length := by
  rw [State.raiseAlarm_alarms]
  split <;> simp

@[simp] theorem State.conditionGone_length (i : Nat) (s : State) :
    (s.conditionGone i).alarms.entries.length = s.alarms.entries.length := by
  rw [State.conditionGone_alarms]
  simp

@[simp] theorem State.mirror_length (k : Nat) (m : Option Summary) (s : State) :
    (s.mirror k m).alarms.entries.length = s.alarms.entries.length := by
  rw [State.mirror_alarms]
  simp

/-- R24: a raise of a HOLD or NOTE source brings no STOP. -/
@[simp] theorem State.raiseAlarm_stands {i : Nat} (d : Detail) (s : State) (h4 : 4 < i) (h32 : i < 32) :
    (s.raiseAlarm i d).alarms.stopStands = s.alarms.stopStands := s.raiseAlarm_stopStands d h32 (localClass_ne_stop h4)

@[simp] theorem State.conditionGone_stands {i : Nat} (s : State) (h4 : 4 < i) (h32 : i < 32) :
    (s.conditionGone i).alarms.stopStands = s.alarms.stopStands := s.conditionGone_stopStands h32 (localClass_ne_stop h4)

theorem repeatStep_keeps {l : LineUnit} {f : State → State} (hf : ∀ r, l.Keeps r.line → l.Keeps (f r).line) (n : Nat) {s : State}
    (h : l.Keeps s.line) : l.Keeps (repeatStep f n s).line := by
  induction n generalizing s with
  | zero => exact h
  | succ n ih => exact ih (hf s h)

/-- A step repeated keeps what the step keeps. -/
theorem repeatStep_eq {α : Type} {f : State → State} (g : State → α) (hf : ∀ r, g (f r) = g r) (n : Nat) (s : State) :
    g (repeatStep f n s) = g s := by
  induction n generalizing s with
  | zero => rfl
  | succ n ih => exact (ih (f s)).trans (hf s)

/-! ### Alarms, frames, states -/

@[simp] theorem State.announce_keeps {l : LineUnit} {s : State} (h : l.Keeps s.line) : l.Keeps s.announce.line := by
  unfold State.announce
  simp [h]

@[simp] theorem State.judgeStock_keeps {l : LineUnit} {s : State} (h : l.Keeps s.line) : l.Keeps s.judgeStock.line := by
  unfold State.judgeStock
  split <;> simp [h]

@[simp] theorem State.judgeStock_calm (s : State) :
    s.judgeStock.control.station = s.control.station ∧
      s.judgeStock.control.head = s.control.head ∧
      s.judgeStock.alarms.entries.length = s.alarms.entries.length ∧
      s.judgeStock.alarms.stopStands = s.alarms.stopStands := by
  unfold State.judgeStock
  split <;> simp (disch := decide)

@[simp] theorem State.debit_keeps {l : LineUnit} {s : State} (h : l.Keeps s.line) : l.Keeps s.debit.line := by
  unfold State.debit
  (repeat' split) <;> simp [h]

@[simp] theorem State.debit_calm (s : State) :
    s.debit.control.station = s.control.station ∧
      s.debit.control.head = s.control.head ∧
      s.debit.alarms.entries.length = s.alarms.entries.length ∧
      s.debit.alarms.stopStands = s.alarms.stopStands := by
  unfold State.debit
  (repeat' split) <;> simp (disch := decide)

@[simp] theorem State.setStage_keeps {l : LineUnit} (st : StageState) {s : State} (h : l.Keeps s.line) : l.Keeps (s.setStage st).line := by
  unfold State.setStage
  split <;> simp [h]

@[simp] theorem State.setStation_keeps {l : LineUnit} (st : StationState) {s : State} (h : l.Keeps s.line) : l.Keeps (s.setStation st).line := by
  unfold State.setStation
  split <;> simp [h]

@[simp] theorem State.setHead_keeps {l : LineUnit} (hd : HeadState) {s : State} (h : l.Keeps s.line) : l.Keeps (s.setHead hd).line := by
  unfold State.setHead
  split <;> simp [h]

@[simp] theorem State.stopDwell_keeps {l : LineUnit} {s : State} (h : l.Keeps s.line) : l.Keeps s.stopDwell.line := by
  unfold State.stopDwell
  dsimp only
  split <;> simp [h]

@[simp] theorem State.stopDwell_calm (s : State) :
    s.stopDwell.control.station = s.control.station ∧
      s.stopDwell.control.head = s.control.head ∧
      s.stopDwell.alarms.entries.length = s.alarms.entries.length ∧
      s.stopDwell.alarms.stopStands = s.alarms.stopStands := by
  unfold State.stopDwell
  dsimp only
  split <;> simp (disch := decide)

@[simp] theorem State.takeStrip_keeps {l : LineUnit} (r : StripRecord) (c : Nat) {s : State} (h : l.Keeps s.line) : l.Keeps (s.takeStrip r c).line := by
  unfold State.takeStrip
  simp [h]

@[simp] theorem State.emptyStage_keeps {l : LineUnit} {s : State} (h : l.Keeps s.line) : l.Keeps s.emptyStage.line := by
  unfold State.emptyStage
  split <;> simp [h]

@[simp] theorem State.emptyStage_calm (s : State) :
    s.emptyStage.control.station = s.control.station ∧
      s.emptyStage.control.head = s.control.head ∧
      s.emptyStage.alarms.entries.length = s.alarms.entries.length ∧
      s.emptyStage.alarms.stopStands = s.alarms.stopStands := by
  unfold State.emptyStage
  split <;> simp (disch := decide)

@[simp] theorem State.addSuspect_keeps {l : LineUnit} (u w : Nat) (x : SuspectCause) {s : State} (h : l.Keeps s.line) : l.Keeps (s.addSuspect u w x).line := by
  unfold State.addSuspect
  (repeat' split) <;> simp [h]

@[simp] theorem State.addSuspect_calm (u w : Nat) (x : SuspectCause) (s : State) :
    (s.addSuspect u w x).control.station = s.control.station ∧
      (s.addSuspect u w x).control.head = s.control.head ∧
      (s.addSuspect u w x).alarms.entries.length = s.alarms.entries.length ∧
      (s.addSuspect u w x).alarms.stopStands = s.alarms.stopStands := by
  unfold State.addSuspect
  (repeat' split) <;> simp (disch := decide)

/-! ### Stopping and roll call -/

@[simp] theorem State.abortWire_keeps {l : LineUnit} {s : State} (h : l.Keeps s.line) : l.Keeps s.abortWire.line := by
  unfold State.abortWire
  (repeat' split) <;> simp [h]

@[simp] theorem State.abortWire_calm (s : State) :
    s.abortWire.control.station = s.control.station ∧
      s.abortWire.control.head = s.control.head ∧
      s.abortWire.alarms.entries.length = s.alarms.entries.length ∧
      s.abortWire.alarms.stopStands = s.alarms.stopStands := by
  unfold State.abortWire
  (repeat' split) <;> simp (disch := decide)

@[simp] theorem State.stopRollCall_keeps {l : LineUnit} {s : State} (h : l.Keeps s.line) : l.Keeps s.stopRollCall.line := by
  unfold State.stopRollCall
  split <;> simp [h]

@[simp] theorem State.enterStopped_keeps {l : LineUnit} {s : State} (h : l.Keeps s.line) : l.Keeps s.enterStopped.line := by
  exact State.setStation_keeps _ (by simp [h])

@[simp] theorem State.enterStopped_calm (s : State) :
    s.enterStopped.control.head = s.control.head ∧
      s.enterStopped.alarms.entries.length = s.alarms.entries.length ∧
      s.enterStopped.alarms.stopStands = s.alarms.stopStands := by
  unfold State.enterStopped
  simp (disch := decide)

@[simp] theorem State.sendPresent_keeps {l : LineUnit} {s : State} (h : l.Keeps s.line) : l.Keeps s.sendPresent.line := by
  unfold State.sendPresent
  split <;> simp [h]

@[simp] theorem State.judgeFinding_keeps {l : LineUnit} (i : Nat) (x : Option Nat) {s : State} (h : l.Keeps s.line) : l.Keeps (s.judgeFinding i x).line := by
  unfold State.judgeFinding
  split <;> simp [h]

@[simp] theorem State.judgeFinding_calm (i : Nat) (x : Option Nat) (s : State) :
    (s.judgeFinding i x).control.head = s.control.head ∧
      (s.judgeFinding i x).alarms.entries.length = s.alarms.entries.length := by
  unfold State.judgeFinding
  split <;> simp (disch := decide)

@[simp] theorem State.judgeGap_keeps {l : LineUnit} {s : State} (h : l.Keeps s.line) : l.Keeps s.judgeGap.line := by
  unfold State.judgeGap
  split <;> simp [h]

@[simp] theorem State.judgeGap_calm (s : State) :
    s.judgeGap.control.station = s.control.station ∧
      s.judgeGap.control.head = s.control.head ∧
      s.judgeGap.alarms.entries.length = s.alarms.entries.length ∧
      s.judgeGap.alarms.stopStands = s.alarms.stopStands := by
  unfold State.judgeGap
  split <;> simp (disch := decide)

@[simp] theorem State.judgeRoster_keeps {l : LineUnit} {s : State} (h : l.Keeps s.line) : l.Keeps s.judgeRoster.line := by
  unfold State.judgeRoster
  split
  · exact h
  · exact State.judgeGap_keeps (State.judgeFinding_keeps _ _ (State.judgeFinding_keeps _ _ h))

@[simp] theorem State.judgeRoster_calm (s : State) :
    s.judgeRoster.control.head = s.control.head ∧
      s.judgeRoster.alarms.entries.length = s.alarms.entries.length := by
  unfold State.judgeRoster
  split <;> simp (disch := decide)

@[simp] theorem State.tryReady_keeps {l : LineUnit} {s : State} (h : l.Keeps s.line) : l.Keeps s.tryReady.line := by
  unfold State.tryReady
  split <;> simp [h]

@[simp] theorem State.tryReady_calm (s : State) :
    s.tryReady.control.head = s.control.head ∧
      s.tryReady.alarms.entries.length = s.alarms.entries.length := by
  unfold State.tryReady
  split <;> simp (disch := decide)

@[simp] theorem State.enterRollCall_keeps {l : LineUnit} {s : State} (h : l.Keeps s.line) : l.Keeps s.enterRollCall.line := by
  have h1 : l.Keeps (s.setStation .rollcall).sendPresent.line := State.sendPresent_keeps (State.setStation_keeps _ h)
  exact State.tryReady_keeps (State.judgeRoster_keeps (h1.timer _))

@[simp] theorem State.enterRollCall_calm (s : State) :
    s.enterRollCall.control.head = s.control.head ∧
      s.enterRollCall.alarms.entries.length = s.alarms.entries.length := by
  unfold State.enterRollCall
  simp (disch := decide)

@[simp] theorem State.leaveStopped_keeps {l : LineUnit} {s : State} (h : l.Keeps s.line) : l.Keeps s.leaveStopped.line := by
  unfold State.leaveStopped
  (repeat' split) <;> simp [h]

@[simp] theorem State.leaveStopped_calm (s : State) :
    s.leaveStopped.control.head = s.control.head ∧
      s.leaveStopped.alarms.entries.length = s.alarms.entries.length := by
  unfold State.leaveStopped
  (repeat' split) <;> simp (disch := decide)

@[simp] theorem State.settleStop_keeps {l : LineUnit} {s : State} (h : l.Keeps s.line) : l.Keeps s.settleStop.line := by
  unfold State.settleStop
  split <;> simp [h]

@[simp] theorem State.settleStop_calm (s : State) :
    s.settleStop.control.head = s.control.head ∧
      s.settleStop.alarms.entries.length = s.alarms.entries.length := by
  unfold State.settleStop
  split <;> simp (disch := decide)

@[simp] theorem State.settle_keeps {l : LineUnit} {s : State} (h : l.Keeps s.line) : l.Keeps s.settle.line := by
  unfold State.settle
  split <;> simp [h]

@[simp] theorem State.settle_calm (s : State) :
    s.settle.control.head = s.control.head ∧
      s.settle.alarms.entries.length = s.alarms.entries.length := by
  unfold State.settle
  split <;> simp (disch := decide)

/-! ### Reports -/

@[simp] theorem State.fileResult_keeps {l : LineUnit} (x : PullResult) {s : State} (h : l.Keeps s.line) : l.Keeps (s.fileResult x).line := by
  unfold State.fileResult
  (repeat' split) <;> simp [h]

@[simp] theorem State.fileResult_calm (x : PullResult) (s : State) :
    (s.fileResult x).control.station = s.control.station ∧
      (s.fileResult x).control.head = s.control.head ∧
      (s.fileResult x).alarms.entries.length = s.alarms.entries.length ∧
      (s.fileResult x).alarms.stopStands = s.alarms.stopStands := by
  unfold State.fileResult
  (repeat' split) <;> simp (disch := decide)

@[simp] theorem State.loseEntry_keeps {l : LineUnit} (e : ReportEntry) {s : State} (h : l.Keeps s.line) : l.Keeps (s.loseEntry e).line := by
  unfold State.loseEntry
  simp [h]

@[simp] theorem State.loseEntry_calm (e : ReportEntry) (s : State) :
    (s.loseEntry e).control.station = s.control.station ∧
      (s.loseEntry e).control.head = s.control.head ∧
      (s.loseEntry e).alarms.entries.length = s.alarms.entries.length ∧
      (s.loseEntry e).alarms.stopStands = s.alarms.stopStands := by
  unfold State.loseEntry
  simp (disch := decide)

@[simp] theorem State.loseEntries_keeps {l : LineUnit} (es : List ReportEntry) {s : State} (h : l.Keeps s.line) : l.Keeps (s.loseEntries es).line := by
  induction es generalizing s with
  | nil => exact h
  | cons x xs ih => exact ih (by simp [h])

@[simp] theorem State.loseEntries_calm (es : List ReportEntry) (s : State) :
    (s.loseEntries es).control.station = s.control.station ∧
      (s.loseEntries es).control.head = s.control.head ∧
      (s.loseEntries es).alarms.entries.length = s.alarms.entries.length ∧
      (s.loseEntries es).alarms.stopStands = s.alarms.stopStands := by
  induction es generalizing s with
  | nil => exact ⟨rfl, rfl, rfl, rfl⟩
  | cons x xs ih => simpa [State.loseEntries] using ih (s.loseEntry x)

@[simp] theorem State.freeOrphans_keeps {l : LineUnit} (q : Nat) {s : State} (h : l.Keeps s.line) : l.Keeps (s.freeOrphans q).line := by
  unfold State.freeOrphans
  split <;> simp [h]

@[simp] theorem State.freeOrphans_calm (q : Nat) (s : State) :
    (s.freeOrphans q).control.station = s.control.station ∧
      (s.freeOrphans q).control.head = s.control.head ∧
      (s.freeOrphans q).alarms.entries.length = s.alarms.entries.length ∧
      (s.freeOrphans q).alarms.stopStands = s.alarms.stopStands := by
  unfold State.freeOrphans
  split <;> simp (disch := decide)

@[simp] theorem State.composeReport_keeps {l : LineUnit} (r : StripRecord) (u : Unloading) {s : State} (h : l.Keeps s.line) : l.Keeps (s.composeReport r u).line := by
  unfold State.composeReport
  dsimp only
  (repeat' split) <;> simp [h]

@[simp] theorem State.composeReport_calm (r : StripRecord) (u : Unloading) (s : State) :
    (s.composeReport r u).control.station = s.control.station ∧
      (s.composeReport r u).control.head = s.control.head ∧
      (s.composeReport r u).alarms.entries.length = s.alarms.entries.length ∧
      (s.composeReport r u).alarms.stopStands = s.alarms.stopStands := by
  unfold State.composeReport
  dsimp only
  (repeat' split) <;> simp (disch := decide)

/-! ### Magazines -/

@[simp] theorem State.nextInput_keeps {l : LineUnit} (n : Nat) {s : State} (h : l.Keeps s.line) : l.Keeps (s.nextInput n).line := by
  unfold State.nextInput
  split <;> simp [h]

@[simp] theorem State.nextInput_calm (n : Nat) (s : State) :
    (s.nextInput n).control.station = s.control.station ∧
      (s.nextInput n).control.head = s.control.head ∧
      (s.nextInput n).alarms.entries.length = s.alarms.entries.length ∧
      (s.nextInput n).alarms.stopStands = s.alarms.stopStands := by
  unfold State.nextInput
  split <;> simp (disch := decide)

@[simp] theorem State.nextOutput_keeps {l : LineUnit} (n : Nat) {s : State} (h : l.Keeps s.line) : l.Keeps (s.nextOutput n).line := by
  unfold State.nextOutput
  split <;> simp [h]

@[simp] theorem State.nextOutput_calm (n : Nat) (s : State) :
    (s.nextOutput n).control.station = s.control.station ∧
      (s.nextOutput n).control.head = s.control.head ∧
      (s.nextOutput n).alarms.entries.length = s.alarms.entries.length ∧
      (s.nextOutput n).alarms.stopStands = s.alarms.stopStands := by
  unfold State.nextOutput
  split <;> simp (disch := decide)

@[simp] theorem State.newInputMagazine_keeps {l : LineUnit} {s : State} (h : l.Keeps s.line) : l.Keeps s.newInputMagazine.line := by
  unfold State.newInputMagazine
  simp [h]

@[simp] theorem State.newInputMagazine_calm (s : State) :
    s.newInputMagazine.control.station = s.control.station ∧
      s.newInputMagazine.control.head = s.control.head ∧
      s.newInputMagazine.alarms.entries.length = s.alarms.entries.length ∧
      s.newInputMagazine.alarms.stopStands = s.alarms.stopStands := by
  unfold State.newInputMagazine
  simp (disch := decide)

@[simp] theorem State.newOutputMagazine_keeps {l : LineUnit} {s : State} (h : l.Keeps s.line) : l.Keeps s.newOutputMagazine.line := by
  unfold State.newOutputMagazine
  simp [h]

@[simp] theorem State.newOutputMagazine_calm (s : State) :
    s.newOutputMagazine.control.station = s.control.station ∧
      s.newOutputMagazine.control.head = s.control.head ∧
      s.newOutputMagazine.alarms.entries.length = s.alarms.entries.length ∧
      s.newOutputMagazine.alarms.stopStands = s.alarms.stopStands := by
  unfold State.newOutputMagazine
  simp (disch := decide)

@[simp] theorem State.inputIdle_keeps {l : LineUnit} {s : State} (h : l.Keeps s.line) : l.Keeps s.inputIdle.line := by
  unfold State.inputIdle
  exact repeatStep_keeps (fun r hr => by simp [hr]) _ h

@[simp] theorem State.inputIdle_calm (s : State) :
    s.inputIdle.control.station = s.control.station ∧
      s.inputIdle.control.head = s.control.head ∧
      s.inputIdle.alarms.entries.length = s.alarms.entries.length ∧
      s.inputIdle.alarms.stopStands = s.alarms.stopStands := by
  have hc := fun r => State.newInputMagazine_calm r
  exact ⟨repeatStep_eq (·.control.station) (fun r => (hc r).1) _ _, repeatStep_eq (·.control.head) (fun r => (hc r).2.1) _ _,
    repeatStep_eq (·.alarms.entries.length) (fun r => (hc r).2.2.1) _ _,
    repeatStep_eq (·.alarms.stopStands) (fun r => (hc r).2.2.2) _ _⟩

@[simp] theorem State.outputIdle_keeps {l : LineUnit} {s : State} (h : l.Keeps s.line) : l.Keeps s.outputIdle.line := by
  unfold State.outputIdle
  exact repeatStep_keeps (fun r hr => by simp [hr]) _ h

@[simp] theorem State.outputIdle_calm (s : State) :
    s.outputIdle.control.station = s.control.station ∧
      s.outputIdle.control.head = s.control.head ∧
      s.outputIdle.alarms.entries.length = s.alarms.entries.length ∧
      s.outputIdle.alarms.stopStands = s.alarms.stopStands := by
  have hc := fun r => State.newOutputMagazine_calm r
  exact ⟨repeatStep_eq (·.control.station) (fun r => (hc r).1) _ _, repeatStep_eq (·.control.head) (fun r => (hc r).2.1) _ _,
    repeatStep_eq (·.alarms.entries.length) (fun r => (hc r).2.2.1) _ _,
    repeatStep_eq (·.alarms.stopStands) (fun r => (hc r).2.2.2) _ _⟩

@[simp] theorem State.senseInput_keeps {l : LineUnit} {s : State} (h : l.Keeps s.line) : l.Keeps s.senseInput.line := by
  unfold State.senseInput
  (repeat' split) <;> simp [h]

@[simp] theorem State.senseInput_calm (s : State) :
    s.senseInput.control.station = s.control.station ∧
      s.senseInput.control.head = s.control.head ∧
      s.senseInput.alarms.entries.length = s.alarms.entries.length ∧
      s.senseInput.alarms.stopStands = s.alarms.stopStands := by
  unfold State.senseInput
  (repeat' split) <;> simp (disch := decide)

@[simp] theorem State.senseOutput_keeps {l : LineUnit} {s : State} (h : l.Keeps s.line) : l.Keeps s.senseOutput.line := by
  unfold State.senseOutput
  (repeat' split) <;> simp [h]

@[simp] theorem State.senseOutput_calm (s : State) :
    s.senseOutput.control.station = s.control.station ∧
      s.senseOutput.control.head = s.control.head ∧
      s.senseOutput.alarms.entries.length = s.alarms.entries.length ∧
      s.senseOutput.alarms.stopStands = s.alarms.stopStands := by
  unfold State.senseOutput
  (repeat' split) <;> simp (disch := decide)

@[simp] theorem State.judgeInputSlot_keeps {l : LineUnit} (b : Bool) {s : State} (h : l.Keeps s.line) : l.Keeps (s.judgeInputSlot b).line := by
  unfold State.judgeInputSlot
  (repeat' split) <;> simp [h]

@[simp] theorem State.judgeInputSlot_calm (b : Bool) (s : State) :
    (s.judgeInputSlot b).control.station = s.control.station ∧
      (s.judgeInputSlot b).control.head = s.control.head ∧
      (s.judgeInputSlot b).alarms.entries.length = s.alarms.entries.length ∧
      (s.judgeInputSlot b).alarms.stopStands = s.alarms.stopStands := by
  unfold State.judgeInputSlot
  (repeat' split) <;> simp (disch := decide)

@[simp] theorem State.judgeOutputSlot_keeps {l : LineUnit} {s : State} (h : l.Keeps s.line) : l.Keeps s.judgeOutputSlot.line := by
  unfold State.judgeOutputSlot
  (repeat' split) <;> simp [h]

@[simp] theorem State.judgeOutputSlot_calm (s : State) :
    s.judgeOutputSlot.control.station = s.control.station ∧
      s.judgeOutputSlot.control.head = s.control.head ∧
      s.judgeOutputSlot.alarms.entries.length = s.alarms.entries.length ∧
      s.judgeOutputSlot.alarms.stopStands = s.alarms.stopStands := by
  unfold State.judgeOutputSlot
  (repeat' split) <;> simp (disch := decide)

@[simp] theorem State.feedingEnd_keeps {l : LineUnit} {s : State} (h : l.Keeps s.line) : l.Keeps s.feedingEnd.line := by
  unfold State.feedingEnd
  split
  · refine State.inputIdle_keeps (State.nextInput_keeps _ ?_)
    simp [h]
  · exact h

@[simp] theorem State.feedingEnd_calm (s : State) :
    s.feedingEnd.control.station = s.control.station ∧
      s.feedingEnd.control.head = s.control.head ∧
      s.feedingEnd.alarms.entries.length = s.alarms.entries.length ∧
      s.feedingEnd.alarms.stopStands = s.alarms.stopStands := by
  unfold State.feedingEnd
  split <;> simp (disch := decide)

@[simp] theorem State.releaseInput_keeps {l : LineUnit} {s : State} (h : l.Keeps s.line) : l.Keeps s.releaseInput.line := by
  unfold State.releaseInput
  (repeat' split) <;> simp [h]

@[simp] theorem State.releaseInput_calm (s : State) :
    s.releaseInput.control.station = s.control.station ∧
      s.releaseInput.control.head = s.control.head ∧
      s.releaseInput.alarms.entries.length = s.alarms.entries.length ∧
      s.releaseInput.alarms.stopStands = s.alarms.stopStands := by
  unfold State.releaseInput
  (repeat' split) <;> simp (disch := decide)

@[simp] theorem State.finishUnload_keeps {l : LineUnit} (p : Pusher) {s : State} (h : l.Keeps s.line) : l.Keeps (s.finishUnload p).line := by
  unfold State.finishUnload
  split
  · refine State.outputIdle_keeps (State.nextOutput_keeps _ ?_)
    simp [h]
  · exact h

@[simp] theorem State.finishUnload_calm (p : Pusher) (s : State) :
    (s.finishUnload p).control.station = s.control.station ∧
      (s.finishUnload p).control.head = s.control.head ∧
      (s.finishUnload p).alarms.entries.length = s.alarms.entries.length ∧
      (s.finishUnload p).alarms.stopStands = s.alarms.stopStands := by
  unfold State.finishUnload
  split <;> simp (disch := decide)

@[simp] theorem State.releaseOutput_keeps {l : LineUnit} (x : StripSensors) {s : State} (h : l.Keeps s.line) : l.Keeps (s.releaseOutput x).line := by
  unfold State.releaseOutput
  (repeat' split) <;> simp [h]

@[simp] theorem State.releaseOutput_calm (x : StripSensors) (s : State) :
    (s.releaseOutput x).control.station = s.control.station ∧
      (s.releaseOutput x).control.head = s.control.head ∧
      (s.releaseOutput x).alarms.entries.length = s.alarms.entries.length ∧
      (s.releaseOutput x).alarms.stopStands = s.alarms.stopStands := by
  unfold State.releaseOutput
  (repeat' split) <;> simp (disch := decide)

/-! ### The stage -/

@[simp] theorem State.endCoverWait_keeps {l : LineUnit} {s : State} (h : l.Keeps s.line) : l.Keeps s.endCoverWait.line := by
  unfold State.endCoverWait
  split <;> simp [h]

@[simp] theorem State.endCoverWait_calm (s : State) :
    s.endCoverWait.control.station = s.control.station ∧
      s.endCoverWait.control.head = s.control.head ∧
      s.endCoverWait.alarms.entries.length = s.alarms.entries.length ∧
      s.endCoverWait.alarms.stopStands = s.alarms.stopStands := by
  unfold State.endCoverWait
  split <;> simp (disch := decide)

@[simp] theorem State.leaveStep_keeps {l : LineUnit} {s : State} (h : l.Keeps s.line) : l.Keeps s.leaveStep.line := by
  unfold State.leaveStep
  (repeat' split) <;> simp [h]

@[simp] theorem State.leaveStep_calm (s : State) :
    s.leaveStep.control.station = s.control.station ∧
      s.leaveStep.control.head = s.control.head ∧
      s.leaveStep.alarms.entries.length = s.alarms.entries.length ∧
      s.leaveStep.alarms.stopStands = s.alarms.stopStands := by
  unfold State.leaveStep
  (repeat' split) <;> simp (disch := decide)

@[simp] theorem State.judgeCover_keeps {l : LineUnit} {s : State} (h : l.Keeps s.line) : l.Keeps s.judgeCover.line := by
  unfold State.judgeCover
  split <;> simp [h]

@[simp] theorem State.judgeCover_calm (s : State) :
    s.judgeCover.control.station = s.control.station ∧
      s.judgeCover.control.head = s.control.head ∧
      s.judgeCover.alarms.entries.length = s.alarms.entries.length ∧
      s.judgeCover.alarms.stopStands = s.alarms.stopStands := by
  unfold State.judgeCover
  split <;> simp (disch := decide)

@[simp] theorem State.offerClosed_keeps {l : LineUnit} (t : Timer) {s : State} (h : l.Keeps s.line) : l.Keeps (s.offerClosed t).line := by
  unfold State.offerClosed
  simp [h]

@[simp] theorem State.closeHandoff_keeps {l : LineUnit} {s : State} (h : l.Keeps s.line) : l.Keeps s.closeHandoff.line := by
  unfold State.closeHandoff
  simp [h]

@[simp] theorem State.closeHandoff_calm (s : State) :
    s.closeHandoff.control.station = s.control.station ∧
      s.closeHandoff.control.head = s.control.head ∧
      s.closeHandoff.alarms.entries.length = s.alarms.entries.length ∧
      s.closeHandoff.alarms.stopStands = s.alarms.stopStands := by
  unfold State.closeHandoff
  simp (disch := decide)

@[simp] theorem State.takeBack_keeps {l : LineUnit} {s : State} (h : l.Keeps s.line) : l.Keeps s.takeBack.line := by
  unfold State.takeBack
  simp [h]

@[simp] theorem State.resumeSender_keeps {l : LineUnit} (x : StripSensors) {s : State} (h : l.Keeps s.line) : l.Keeps (s.resumeSender x).line := by
  unfold State.resumeSender
  (repeat' split) <;> simp [h]

@[simp] theorem State.resumeSender_calm (x : StripSensors) (s : State) :
    (s.resumeSender x).control.station = s.control.station ∧
      (s.resumeSender x).control.head = s.control.head ∧
      (s.resumeSender x).alarms.entries.length = s.alarms.entries.length ∧
      (s.resumeSender x).alarms.stopStands = s.alarms.stopStands := by
  unfold State.resumeSender
  (repeat' split) <;> simp (disch := decide)

@[simp] theorem State.answerOffer_keeps {l : LineUnit} (k : Nat) (o : OfferPayload) {s : State} (h : l.Keeps s.line) : l.Keeps (s.answerOffer k o).line := by
  unfold State.answerOffer
  split <;> simp [h]

@[simp] theorem State.giveUpTransfer_keeps {l : LineUnit} {s : State} (h : l.Keeps s.line) : l.Keeps s.giveUpTransfer.line := by
  unfold State.giveUpTransfer
  simp [h]

@[simp] theorem State.giveUpTransfer_calm (s : State) :
    s.giveUpTransfer.control.station = s.control.station ∧
      s.giveUpTransfer.control.head = s.control.head ∧
      s.giveUpTransfer.alarms.entries.length = s.alarms.entries.length ∧
      s.giveUpTransfer.alarms.stopStands = s.alarms.stopStands := by
  unfold State.giveUpTransfer
  simp (disch := decide)

@[simp] theorem State.resumeReceiver_keeps {l : LineUnit} {s : State} (h : l.Keeps s.line) : l.Keeps s.resumeReceiver.line := by
  unfold State.resumeReceiver
  split <;> simp [h]

@[simp] theorem State.resumeReceiver_calm (s : State) :
    s.resumeReceiver.control.station = s.control.station ∧
      s.resumeReceiver.control.head = s.control.head ∧
      s.resumeReceiver.alarms.entries.length = s.alarms.entries.length ∧
      s.resumeReceiver.alarms.stopStands = s.alarms.stopStands := by
  unfold State.resumeReceiver
  split <;> simp (disch := decide)

@[simp] theorem State.takeUntracked_keeps {l : LineUnit} (x : Serial) (q c : Nat) {s : State} (h : l.Keeps s.line) : l.Keeps (s.takeUntracked x q c).line := by
  unfold State.takeUntracked
  simp [h]

@[simp] theorem State.takeUntracked_calm (x : Serial) (q c : Nat) (s : State) :
    (s.takeUntracked x q c).control.station = s.control.station ∧
      (s.takeUntracked x q c).control.head = s.control.head ∧
      (s.takeUntracked x q c).alarms.entries.length = s.alarms.entries.length ∧
      (s.takeUntracked x q c).alarms.stopStands = s.alarms.stopStands := by
  unfold State.takeUntracked
  simp (disch := decide)

@[simp] theorem State.arriveReceiving_keeps {l : LineUnit} (k : KeptOffer) (a : RecordAssembly) {s : State} (h : l.Keeps s.line) : l.Keeps (s.arriveReceiving k a).line := by
  unfold State.arriveReceiving
  split <;> simp [h]

@[simp] theorem State.arriveReceiving_calm (k : KeptOffer) (a : RecordAssembly) (s : State) :
    (s.arriveReceiving k a).control.station = s.control.station ∧
      (s.arriveReceiving k a).control.head = s.control.head ∧
      (s.arriveReceiving k a).alarms.entries.length = s.alarms.entries.length ∧
      (s.arriveReceiving k a).alarms.stopStands = s.alarms.stopStands := by
  unfold State.arriveReceiving
  split <;> simp (disch := decide)

@[simp] theorem State.arriveEmpty_keeps {l : LineUnit} {s : State} (h : l.Keeps s.line) : l.Keeps s.arriveEmpty.line := by
  unfold State.arriveEmpty
  split <;> simp [h]

@[simp] theorem State.arriveEmpty_calm (s : State) :
    s.arriveEmpty.control.station = s.control.station ∧
      s.arriveEmpty.control.head = s.control.head ∧
      s.arriveEmpty.alarms.entries.length = s.alarms.entries.length ∧
      s.arriveEmpty.alarms.stopStands = s.alarms.stopStands := by
  unfold State.arriveEmpty
  split <;> simp (disch := decide)

@[simp] theorem State.handoffLeft_keeps {l : LineUnit} {s : State} (h : l.Keeps s.line) : l.Keeps s.handoffLeft.line := by
  unfold State.handoffLeft
  split <;> simp [h]

@[simp] theorem State.handoffLeft_calm (s : State) :
    s.handoffLeft.control.station = s.control.station ∧
      s.handoffLeft.control.head = s.control.head ∧
      s.handoffLeft.alarms.entries.length = s.alarms.entries.length ∧
      s.handoffLeft.alarms.stopStands = s.alarms.stopStands := by
  unfold State.handoffLeft
  split <;> simp (disch := decide)

@[simp] theorem State.restartStage_keeps {l : LineUnit} {s : State} (h : l.Keeps s.line) : l.Keeps s.restartStage.line := by
  unfold State.restartStage
  dsimp only
  (repeat' split) <;> simp [h]

@[simp] theorem State.restartStage_calm (s : State) :
    s.restartStage.control.station = s.control.station ∧
      s.restartStage.control.head = s.control.head ∧
      s.restartStage.alarms.entries.length = s.alarms.entries.length ∧
      s.restartStage.alarms.stopStands = s.alarms.stopStands := by
  unfold State.restartStage
  dsimp only
  (repeat' split) <;> simp (disch := decide)

/-! ### Heat -/

@[simp] theorem State.judgePause_keeps {l : LineUnit} (z : Option Nat) {s : State} (h : l.Keeps s.line) : l.Keeps (s.judgePause z).line := by
  unfold State.judgePause
  (repeat' split) <;> simp [h]

@[simp] theorem State.judgePause_calm (z : Option Nat) (s : State) :
    (s.judgePause z).control.station = s.control.station ∧
      (s.judgePause z).control.head = s.control.head ∧
      (s.judgePause z).alarms.entries.length = s.alarms.entries.length ∧
      (s.judgePause z).alarms.stopStands = s.alarms.stopStands := by
  unfold State.judgePause
  (repeat' split) <;> simp (disch := decide)

@[simp] theorem State.judgeSensor_keeps {l : LineUnit} (z : Nat) {s : State} (h : l.Keeps s.line) : l.Keeps (s.judgeSensor z).line := by
  unfold State.judgeSensor
  (repeat' split) <;> simp [h]

@[simp] theorem State.judgeSensor_calm (z : Nat) (s : State) :
    (s.judgeSensor z).control.station = s.control.station ∧
      (s.judgeSensor z).control.head = s.control.head ∧
      (s.judgeSensor z).alarms.entries.length = s.alarms.entries.length ∧
      (s.judgeSensor z).alarms.stopStands = s.alarms.stopStands := by
  unfold State.judgeSensor
  (repeat' split) <;> simp (disch := decide)

@[simp] theorem State.judgeZone_keeps {l : LineUnit} (z : Nat) {s : State} (h : l.Keeps s.line) : l.Keeps (s.judgeZone z).line := by
  unfold State.judgeZone
  simp [h]

@[simp] theorem State.judgeZone_calm (z : Nat) (s : State) :
    (s.judgeZone z).control.station = s.control.station ∧
      (s.judgeZone z).control.head = s.control.head ∧
      (s.judgeZone z).alarms.entries.length = s.alarms.entries.length ∧
      (s.judgeZone z).alarms.stopStands = s.alarms.stopStands := by
  unfold State.judgeZone
  simp (disch := decide)

@[simp] theorem State.judgeAllZones_keeps {l : LineUnit} {s : State} (h : l.Keeps s.line) : l.Keeps s.judgeAllZones.line := by
  unfold State.judgeAllZones
  dsimp only
  split <;> simp [h]

@[simp] theorem State.judgeAllZones_calm (s : State) :
    s.judgeAllZones.control.station = s.control.station ∧
      s.judgeAllZones.control.head = s.control.head ∧
      s.judgeAllZones.alarms.entries.length = s.alarms.entries.length ∧
      s.judgeAllZones.alarms.stopStands = s.alarms.stopStands := by
  unfold State.judgeAllZones
  dsimp only
  split <;> simp (disch := decide)

/-! ### Bonds, trims and pulls -/

@[simp] theorem State.askSuspect_keeps {l : LineUnit} (u w : Nat) (x : SuspectCause) {s : State} (h : l.Keeps s.line) : l.Keeps (s.askSuspect u w x).line := by
  unfold State.askSuspect
  split <;> simp [h]

@[simp] theorem State.askSuspect_calm (u w : Nat) (x : SuspectCause) (s : State) :
    (s.askSuspect u w x).control.station = s.control.station ∧
      (s.askSuspect u w x).control.head = s.control.head ∧
      (s.askSuspect u w x).alarms.entries.length = s.alarms.entries.length ∧
      (s.askSuspect u w x).alarms.stopStands = s.alarms.stopStands := by
  unfold State.askSuspect
  split <;> simp (disch := decide)

@[simp] theorem State.bondConsequence_keeps {l : LineUnit} (o : BondOutcome) (b : Bool) (u w : Nat) {s : State} (h : l.Keeps s.line) : l.Keeps (s.bondConsequence o b u w).line := by
  unfold State.bondConsequence
  (repeat' split) <;> simp [h]

@[simp] theorem State.bondConsequence_calm (o : BondOutcome) (b : Bool) (u w : Nat) (s : State) :
    (s.bondConsequence o b u w).control.station = s.control.station ∧
      (s.bondConsequence o b u w).control.head = s.control.head ∧
      (s.bondConsequence o b u w).alarms.entries.length = s.alarms.entries.length ∧
      (s.bondConsequence o b u w).alarms.stopStands = s.alarms.stopStands := by
  unfold State.bondConsequence
  (repeat' split) <;> simp (disch := decide)

@[simp] theorem State.updateTrims_keeps {l : LineUnit} (r : PullResult) {s : State} (h : l.Keeps s.line) : l.Keeps (s.updateTrims r).line := by
  unfold State.updateTrims
  dsimp only
  (repeat' split) <;> simp [h]

@[simp] theorem State.updateTrims_calm (r : PullResult) (s : State) :
    (s.updateTrims r).control.station = s.control.station ∧
      (s.updateTrims r).control.head = s.control.head ∧
      (s.updateTrims r).alarms.entries.length = s.alarms.entries.length ∧
      (s.updateTrims r).alarms.stopStands = s.alarms.stopStands := by
  unfold State.updateTrims
  dsimp only
  (repeat' split) <;> simp (disch := decide)

@[simp] theorem State.learnResult_keeps {l : LineUnit} (r : PullResult) {s : State} (h : l.Keeps s.line) : l.Keeps (s.learnResult r).line := by
  unfold State.learnResult
  (repeat' split) <;> simp [h]

@[simp] theorem State.learnResult_calm (r : PullResult) (s : State) :
    (s.learnResult r).control.station = s.control.station ∧
      (s.learnResult r).control.head = s.control.head ∧
      (s.learnResult r).alarms.entries.length = s.alarms.entries.length ∧
      (s.learnResult r).alarms.stopStands = s.alarms.stopStands := by
  unfold State.learnResult
  (repeat' split) <;> simp (disch := decide)

@[simp] theorem State.settleConfirm_keeps {l : LineUnit} (x : PullResult) {s : State} (h : l.Keeps s.line) : l.Keeps (s.settleConfirm x).line := by
  unfold State.settleConfirm
  (repeat' split) <;> simp [h]

@[simp] theorem State.settleConfirm_calm (x : PullResult) (s : State) :
    (s.settleConfirm x).control.station = s.control.station ∧
      (s.settleConfirm x).control.head = s.control.head ∧
      (s.settleConfirm x).alarms.entries.length = s.alarms.entries.length ∧
      (s.settleConfirm x).alarms.stopStands = s.alarms.stopStands := by
  unfold State.settleConfirm
  (repeat' split) <;> simp (disch := decide)

@[simp] theorem State.countHookMiss_keeps {l : LineUnit} (x : PullResult) {s : State} (h : l.Keeps s.line) : l.Keeps (s.countHookMiss x).line := by
  unfold State.countHookMiss
  (repeat' split) <;> simp [h]

@[simp] theorem State.countHookMiss_calm (x : PullResult) (s : State) :
    (s.countHookMiss x).control.station = s.control.station ∧
      (s.countHookMiss x).control.head = s.control.head ∧
      (s.countHookMiss x).alarms.entries.length = s.alarms.entries.length ∧
      (s.countHookMiss x).alarms.stopStands = s.alarms.stopStands := by
  unfold State.countHookMiss
  (repeat' split) <;> simp (disch := decide)

@[simp] theorem State.sendResult_calm (x : PullResult) (s : State) :
    (s.sendResult x).control.station = s.control.station ∧
      (s.sendResult x).control.head = s.control.head ∧
      (s.sendResult x).alarms.entries.length = s.alarms.entries.length ∧
      (s.sendResult x).alarms.stopStands = s.alarms.stopStands := by
  unfold State.sendResult
  split <;> simp (disch := decide)

@[simp] theorem State.makeResult_calm (x : PullResult) (s : State) :
    (s.makeResult x).control.station = s.control.station ∧
      (s.makeResult x).control.head = s.control.head ∧
      (s.makeResult x).alarms.entries.length = s.alarms.entries.length ∧
      (s.makeResult x).alarms.stopStands = s.alarms.stopStands := by
  unfold State.makeResult
  simp (disch := decide)

@[simp] theorem State.decidePull_calm (f : PullInFlight) (o : PullOutcome) (b : BreakCode) (s : State) :
    (s.decidePull f o b).control.station = s.control.station ∧
      (s.decidePull f o b).control.head = s.control.head ∧
      (s.decidePull f o b).alarms.entries.length = s.alarms.entries.length ∧
      (s.decidePull f o b).alarms.stopStands = s.alarms.stopStands := by
  unfold State.decidePull
  split <;> simp (disch := decide)

@[simp] theorem State.judgePullSample_calm (f : PullInFlight) (x : LocatorCode) (s : State) :
    (s.judgePullSample f x).control.station = s.control.station ∧
      (s.judgePullSample f x).control.head = s.control.head ∧
      (s.judgePullSample f x).alarms.entries.length = s.alarms.entries.length ∧
      (s.judgePullSample f x).alarms.stopStands = s.alarms.stopStands := by
  unfold State.judgePullSample
  (repeat' split) <;> simp (disch := decide)

/-! ### The line bus -/

@[simp] theorem State.heardBy_keeps {l : LineUnit} {s : State} (h : l.Keeps s.line) : l.Keeps s.heardBy.line := by
  unfold State.heardBy
  dsimp only
  split <;> simp [h]

@[simp] theorem State.heardBy_calm (s : State) :
    s.heardBy.control.station = s.control.station ∧
      s.heardBy.control.head = s.control.head ∧
      s.heardBy.alarms.entries.length = s.alarms.entries.length ∧
      s.heardBy.alarms.stopStands = s.alarms.stopStands := by
  unfold State.heardBy
  dsimp only
  split <;> simp (disch := decide)

@[simp] theorem State.unheardBy_keeps {l : LineUnit} {s : State} (h : l.Keeps s.line) : l.Keeps s.unheardBy.line := by
  unfold State.unheardBy
  dsimp only
  split <;> simp [h]

@[simp] theorem State.unheardBy_calm (s : State) :
    s.unheardBy.control.station = s.control.station ∧
      s.unheardBy.control.head = s.control.head ∧
      s.unheardBy.alarms.entries.length = s.alarms.entries.length ∧
      s.unheardBy.alarms.stopStands = s.alarms.stopStands := by
  unfold State.unheardBy
  dsimp only
  split <;> simp (disch := decide)

@[simp] theorem State.noteJoined_keeps {l : LineUnit} (e : TxEntry) {s : State} (h : l.Keeps s.line) : l.Keeps (s.noteJoined e).line := by
  unfold State.noteJoined
  split <;> simp [h]

@[simp] theorem State.noteJoined_calm (e : TxEntry) (s : State) :
    (s.noteJoined e).control.station = s.control.station ∧
      (s.noteJoined e).control.head = s.control.head ∧
      (s.noteJoined e).alarms.entries.length = s.alarms.entries.length ∧
      (s.noteJoined e).alarms.stopStands = s.alarms.stopStands := by
  unfold State.noteJoined
  split <;> simp (disch := decide)

@[simp] theorem State.duplicate_keeps {l : LineUnit} {s : State} (h : l.Keeps s.line) : l.Keeps s.duplicate.line := by
  unfold State.duplicate
  split <;> simp [h]

@[simp] theorem State.duplicate_calm (s : State) :
    s.duplicate.control.head = s.control.head ∧
      s.duplicate.alarms.entries.length = s.alarms.entries.length := by
  unfold State.duplicate
  split <;> simp (disch := decide)

@[simp] theorem State.setRoster_keeps {l : LineUnit} (k : Nat) (e : RosterEntry) {s : State} (h : l.Keeps s.line) : l.Keeps (s.setRoster k e).line := by
  unfold State.setRoster
  split <;> simp [h]

@[simp] theorem State.sendSummary_keeps {l : LineUnit} {s : State} (h : l.Keeps s.line) : l.Keeps s.sendSummary.line := by
  unfold State.sendSummary
  split
  · simp [h, alarmBody]
  · exact h

@[simp] theorem State.answerPresent_keeps {l : LineUnit} (b : Bool) (known : List Nat) {s : State} (h : l.Keeps s.line) : l.Keeps (s.answerPresent b known).line := by
  unfold State.answerPresent
  (repeat' split) <;> simp [h]

@[simp] theorem State.rosterHeard_keeps {l : LineUnit} (k : Nat) {s : State} (h : l.Keeps s.line) : l.Keeps (s.rosterHeard k).line := by
  have h1 : l.Keeps s.judgeRoster.tryReady.line := State.tryReady_keeps (State.judgeRoster_keeps h)
  unfold State.rosterHeard
  dsimp only
  split
  · exact State.settle_keeps (State.judgeCover_keeps h1)
  · exact State.settle_keeps h1

@[simp] theorem State.rosterHeard_calm (k : Nat) (s : State) :
    (s.rosterHeard k).control.head = s.control.head ∧
      (s.rosterHeard k).alarms.entries.length = s.alarms.entries.length := by
  unfold State.rosterHeard
  dsimp only
  split <;> simp (disch := decide)

@[simp] theorem State.stageHears_keeps {l : LineUnit} (k : Nat) (p : StatePayload) {s : State} (h : l.Keeps s.line) : l.Keeps (s.stageHears k p).line := by
  unfold State.stageHears
  (repeat' split) <;> simp [h]

@[simp] theorem State.mirrorFromState_keeps {l : LineUnit} (k : Nat) (p : StatePayload) {s : State} (h : l.Keeps s.line) : l.Keeps (s.mirrorFromState k p).line := by
  unfold State.mirrorFromState
  split <;> simp [h]

@[simp] theorem State.mirrorFromState_calm (k : Nat) (p : StatePayload) (s : State) :
    (s.mirrorFromState k p).control.head = s.control.head ∧
      (s.mirrorFromState k p).alarms.entries.length = s.alarms.entries.length := by
  unfold State.mirrorFromState
  split <;> simp (disch := decide)

/-! ### The panel -/

@[simp] theorem State.endCondition_keeps {l : LineUnit} (i : Nat) {s : State} (h : l.Keeps s.line) : l.Keeps (s.endCondition i).line := by
  unfold State.endCondition
  split <;> simp [h]

@[simp] theorem State.endCondition_calm (i : Nat) (s : State) :
    (s.endCondition i).control.head = s.control.head ∧
      (s.endCondition i).alarms.entries.length = s.alarms.entries.length := by
  unfold State.endCondition
  split <;> simp (disch := decide)

@[simp] theorem State.ackLow_keeps {l : LineUnit} (i : Nat) {s : State} (h : l.Keeps s.line) : l.Keeps (s.ackLow i).line := by
  unfold State.ackLow
  split <;> simp [h]

@[simp] theorem State.ackLow_calm (i : Nat) (s : State) :
    (s.ackLow i).control.head = s.control.head ∧
      (s.ackLow i).alarms.entries.length = s.alarms.entries.length := by
  unfold State.ackLow
  split <;> simp (disch := decide)

@[simp] theorem State.clearEvent_keeps {l : LineUnit} (i : Nat) {s : State} (h : l.Keeps s.line) : l.Keeps (s.clearEvent i).line := by
  unfold State.clearEvent
  split <;> simp [h]

@[simp] theorem State.clearEvent_calm (i : Nat) (s : State) :
    (s.clearEvent i).control.head = s.control.head ∧
      (s.clearEvent i).alarms.entries.length = s.alarms.entries.length := by
  unfold State.clearEvent
  split <;> simp (disch := decide)

@[simp] theorem State.startLine_keeps {l : LineUnit} {s : State} (h : l.Keeps s.line) : l.Keeps s.startLine.line := by
  exact State.setStation_keeps _ (h.request 0 (by simp))

@[simp] theorem State.resumeHeld_keeps {l : LineUnit} {s : State} (h : l.Keeps s.line) : l.Keeps s.resumeHeld.line := by
  unfold State.resumeHeld
  simp [h]

@[simp] theorem State.resumeStep_keeps {l : LineUnit} {s : State} (h : l.Keeps s.line) : l.Keeps s.resumeStep.line := by
  unfold State.resumeStep
  (repeat' split) <;> simp [h]

@[simp] theorem State.releaseWaiting_keeps {l : LineUnit} (x : StripSensors) {s : State} (h : l.Keeps s.line) : l.Keeps (s.releaseWaiting x).line := by
  exact State.releaseOutput_keeps _ (State.releaseInput_keeps (State.resumeReceiver_keeps (State.resumeSender_keeps _ h)))

@[simp] theorem State.releaseWaiting_calm (x : StripSensors) (s : State) :
    (s.releaseWaiting x).control.station = s.control.station ∧
      (s.releaseWaiting x).control.head = s.control.head ∧
      (s.releaseWaiting x).alarms.entries.length = s.alarms.entries.length ∧
      (s.releaseWaiting x).alarms.stopStands = s.alarms.stopStands := by
  unfold State.releaseWaiting
  simp (disch := decide)

/-! ### The loader and the warm restart -/

@[simp] theorem State.latchLevels_keeps {l : LineUnit} (p : Program) {s : State} (h : l.Keeps s.line) : l.Keeps (s.latchLevels p).line := by
  unfold State.latchLevels
  simp [h]

@[simp] theorem State.latchPlan_keeps {l : LineUnit} (p : Program) {s : State} (h : l.Keeps s.line) : l.Keeps (s.latchPlan p).line := by
  unfold State.latchPlan
  split <;> simp [h]

@[simp] theorem State.latchPlan_calm (p : Program) (s : State) :
    (s.latchPlan p).control.station = s.control.station ∧
      (s.latchPlan p).control.head = s.control.head ∧
      (s.latchPlan p).alarms.entries.length = s.alarms.entries.length ∧
      (s.latchPlan p).alarms.stopStands = s.alarms.stopStands := by
  unfold State.latchPlan
  split <;> simp (disch := decide)

@[simp] theorem State.tellMagazines_keeps {l : LineUnit} {s : State} (h : l.Keeps s.line) : l.Keeps s.tellMagazines.line := by
  unfold State.tellMagazines
  dsimp only
  (repeat' split) <;> simp [h]

@[simp] theorem State.tellMagazines_calm (s : State) :
    s.tellMagazines.control.station = s.control.station ∧
      s.tellMagazines.control.head = s.control.head ∧
      s.tellMagazines.alarms.entries.length = s.alarms.entries.length ∧
      s.tellMagazines.alarms.stopStands = s.alarms.stopStands := by
  unfold State.tellMagazines
  dsimp only
  (repeat' split) <;> simp (disch := decide)

@[simp] theorem State.tellClamped_keeps {l : LineUnit} {s : State} (h : l.Keeps s.line) : l.Keeps s.tellClamped.line := by
  unfold State.tellClamped
  split <;> simp [h]

@[simp] theorem State.tellClamped_calm (s : State) :
    s.tellClamped.control.station = s.control.station ∧
      s.tellClamped.control.head = s.control.head ∧
      s.tellClamped.alarms.entries.length = s.alarms.entries.length ∧
      s.tellClamped.alarms.stopStands = s.alarms.stopStands := by
  unfold State.tellClamped
  split <;> simp (disch := decide)

@[simp] theorem State.leaveBoot_keeps {l : LineUnit} {s : State} (h : l.Keeps s.line) : l.Keeps s.leaveBoot.line := by
  unfold State.leaveBoot
  split
  · exact State.settle_keeps (State.judgeRoster_keeps (State.enterStopped_keeps h))
  · exact State.settle_keeps (State.enterRollCall_keeps h)

@[simp] theorem State.leaveBoot_calm (s : State) :
    s.leaveBoot.control.head = s.control.head ∧
      s.leaveBoot.alarms.entries.length = s.alarms.entries.length := by
  unfold State.leaveBoot
  split <;> simp (disch := decide)

@[simp] theorem State.loadValid_keeps {l : LineUnit} (id : ProgramId) (p : Program) (n : Nat) {s : State} (h : l.Keeps s.line) : l.Keeps (s.loadValid id p n).line := by
  unfold State.loadValid
  refine State.leaveBoot_keeps ?_
  simp only [State.event_frame]
  refine State.tellClamped_keeps (State.tellMagazines_keeps (State.judgeAllZones_keeps (State.latchPlan_keeps _ ?_)))
  simp only [State.latchDwell_frame, State.latchScreen_frame]
  exact State.latchLevels_keeps _ h

@[simp] theorem State.loadInvalid_keeps {l : LineUnit} {s : State} (h : l.Keeps s.line) : l.Keeps s.loadInvalid.line := by
  exact State.leaveBoot_keeps (State.tellMagazines_keeps (State.raiseAlarm_keeps _ _ h))

@[simp] theorem State.clearAlarms_keeps {l : LineUnit} {s : State} (h : l.Keeps s.line) : l.Keeps s.clearAlarms.line := by
  unfold State.clearAlarms
  simp [h]

end Sys2Proof.Machine
end


section
/-! PROOFS. What a STOP leaves (R24, R82, R94, R128, R136), and the properties that outlast it: those that no news disturbs and that
hold again once work has been ended. What settles the station state keeps each of them. -/

namespace Sys2Proof.Machine

/-! ## What a STOP leaves -/

/-- R94: the ends of a bond aborted. -/
@[simp] theorem EnergyUnit.abortBond_fields (u : EnergyUnit) :
    u.abortBond.trims = u.trims ∧ u.abortBond.bond = none ∧ u.abortBond.fastCount = u.fastCount ∧
      (u.bond = none → u.abortBond.lastBond = u.lastBond) := by
  unfold EnergyUnit.abortBond
  split
  · next h => simp [h]
  · next h => simp [h]

/-- R82: the wire sequencer and the outputs of an aborted cycle. -/
@[simp] theorem State.abortWire_ends (s : State) :
    s.abortWire.wire.cycle = .idle ∧ s.abortWire.wire.awaits = .none ∧ s.abortWire.wire.inFlight = none ∧
      s.abortWire.wire.ballReady = false ∧ s.abortWire.energy = s.energy.abortBond ∧
      s.abortWire.ports.ultrasonic = 0 ∧ s.abortWire.ports.bondForce = none ∧ s.abortWire.ports.fire = false := by
  unfold State.abortWire
  dsimp only
  (repeat' split) <;> simp

/-- R82: with no wire in flight an abort ends what stands of the cycle and charges nothing. -/
theorem State.abortWire_of_none {s : State} (h : s.wire.inFlight = none) :
    s.abortWire.wire = { s.wire with cycle := .idle, awaits := .none, inFlight := none, ballReady := false } ∧
      s.abortWire.stage = s.stage := by
  have hc : abortCharges s.wire = false := by simp [abortCharges, h]
  unfold State.abortWire
  simp [hc]

theorem State.requestReject_stage (u : Nat) (cause : RejectCause) (s : State) :
    (s.requestReject u cause).stage = { s.stage with record := (s.requestReject u cause).stage.record } ∧
      (s.requestReject u cause).stage.record.isSome = s.stage.record.isSome := by
  unfold State.requestReject
  (repeat' split) <;> simp

/-- R4, R82: an abort touches nothing of the stage but the record, which stays. -/
theorem State.abortWire_stage (s : State) :
    s.abortWire.stage = { s.stage with record := s.abortWire.stage.record } ∧
      s.abortWire.stage.record.isSome = s.stage.record.isSome := by
  unfold State.abortWire
  dsimp only
  split
  · split
    · next f _ =>
      simp only [State.debit_frame]
      exact s.requestReject_stage f.unit .aborted
    · simp
  · simp

@[simp] theorem State.abandonPull_pull (s : State) :
    s.abandonPull.pull = { s.pull with cycle := .idle, inFlight := none, holdTimer := .stopped } := rfl

@[simp] theorem State.abandonPull_quiet (s : State) : s.abandonPull.ports.ultrasonic = s.ports.ultrasonic := rfl

/-- R42: what an index motion's halt leaves of the stage. -/
theorem State.haltIndex_cases (s : State) :
    (s.stage.indexMotion.isSome = true ∧ s.haltIndex = { s with
      stage := { s.stage with indexMotion := none, column := 0, working := false }
      ports := { s.ports with index := .halt } }) ∨ (s.stage.indexMotion = none ∧ s.haltIndex = s) := by
  unfold State.haltIndex
  split
  · next h => exact .inl ⟨h, rfl⟩
  · next h => exact .inr ⟨by simpa using h, rfl⟩

@[simp] theorem State.haltIndex_keeps_record (s : State) :
    s.haltIndex.stage.state = s.stage.state ∧ s.haltIndex.stage.record = s.stage.record ∧
      s.haltIndex.stage.assembly = s.stage.assembly ∧ s.haltIndex.stage.kept = s.stage.kept ∧
      s.haltIndex.ports.ultrasonic = s.ports.ultrasonic := by
  rcases s.haltIndex_cases with ⟨-, h⟩ | ⟨-, h⟩ <;> rw [h] <;> exact ⟨rfl, rfl, rfl, rfl, rfl⟩

@[simp] theorem State.haltElevators_elevator (s : State) :
    s.haltElevators.elevator = { s.elevator with input := s.elevator.input.halted, output := s.elevator.output.halted } := rfl

@[simp] theorem State.haltElevators_quiet (s : State) : s.haltElevators.ports.ultrasonic = s.ports.ultrasonic := rfl

/-- R24: what stands of each block once the station has entered STOPPED. -/
@[simp] theorem State.enterStopped_ends (s : State) :
    s.enterStopped.control.station = .stopped ∧
    s.enterStopped.wire.cycle = .idle ∧ s.enterStopped.wire.awaits = .none ∧ s.enterStopped.wire.inFlight = none ∧
    s.enterStopped.wire.ballReady = false ∧ s.enterStopped.energy = s.energy.abortBond ∧
    s.enterStopped.pull = { s.pull with cycle := .idle, inFlight := none, holdTimer := .stopped } ∧
    s.enterStopped.elevator = { s.elevator with input := s.elevator.input.halted, output := s.elevator.output.halted } ∧
    s.enterStopped.ports.ultrasonic = 0 ∧ s.enterStopped.stage.state = s.stage.state ∧
    s.enterStopped.stage.record.isSome = s.stage.record.isSome ∧ s.enterStopped.stage.assembly = s.stage.assembly ∧
    s.enterStopped.stage.kept = s.stage.kept := by
  have hstage := s.stopRollCall.abortWire_stage
  unfold State.enterStopped
  simp [hstage.2]
  rw [hstage.1]
  simp

/-! ## News -/

/-- `t` is `s` but for what news changes: station control, its head aside, the alarm entries, the line unit within its bounds, the
screen, the loader, the readings, the plan state, and of the stage what says nothing of its strip. -/
structure Calm (s t : State) : Prop where
  straps : t.straps = s.straps
  wire : t.wire = s.wire
  energy : t.energy = s.energy
  elevator : t.elevator = s.elevator
  report : t.report = s.report
  ports : t.ports = s.ports
  pull : t.pull = { s.pull with planOn := t.pull.planOn }
  stage : t.stage.state = s.stage.state ∧ t.stage.record = s.stage.record ∧ t.stage.assembly = s.stage.assembly ∧
    t.stage.kept = s.stage.kept
  head : t.control.head = s.control.head
  line : s.line.Keeps t.line
  entries : t.alarms.entries.length = s.alarms.entries.length
  zones : s.heat.zones.length = 6 → t.heat.zones.length = 6

theorem Calm.refl (s : State) : Calm s s := by constructor <;> simp

theorem Calm.trans {s t u : State} (h : Calm s t) (k : Calm t u) : Calm s u where
  straps := k.straps.trans h.straps
  wire := k.wire.trans h.wire
  energy := k.energy.trans h.energy
  elevator := k.elevator.trans h.elevator
  report := k.report.trans h.report
  ports := k.ports.trans h.ports
  pull := by rw [k.pull, h.pull]
  stage := by
    obtain ⟨a, b, c, d⟩ := h.stage
    obtain ⟨a', b', c', d'⟩ := k.stage
    exact ⟨a'.trans a, b'.trans b, c'.trans c, d'.trans d⟩
  head := k.head.trans h.head
  line := h.line.trans k.line
  entries := k.entries.trans h.entries
  zones := k.zones ∘ h.zones

theorem Calm.raiseAlarm (i : Nat) (d : Detail) (s : State) : Calm s (s.raiseAlarm i d) := by constructor <;> simp

theorem Calm.send {body : TxBody} (hb : ∀ x, body ≠ .pullResult x) (target : Nat) (s : State) : Calm s (s.send target body) := by
  constructor <;> simp [hb]

/-! ## Properties that outlast a STOP -/

/-- A property that no news disturbs and that holds once the station has entered STOPPED. -/
structure OutlastsStop (P : State → Prop) : Prop where
  calm : ∀ {s t : State}, Calm s t → P s → P t
  stop : ∀ {s : State}, P s → P s.enterStopped

theorem Calm.leaveStopped (s : State) : Calm s s.leaveStopped := by constructor <;> simp

/-- R24: what settles the station state keeps what outlasts a STOP. -/
theorem OutlastsStop.settle {P : State → Prop} (hP : OutlastsStop P) {s : State} (h : P s) : P s.settle := by
  have hstop : ∀ {r : State}, P r → P r.settleStop := fun {r} hr => by
    unfold State.settleStop
    split
    · exact hP.stop hr
    · exact hr
  unfold State.settle
  split
  · exact hstop (hP.calm (.leaveStopped s) h)
  · exact hstop h

theorem OutlastsStop.duplicate {P : State → Prop} (hP : OutlastsStop P) {s : State} (h : P s) : P s.duplicate := by
  unfold State.duplicate
  split
  · exact h
  · exact hP.settle (hP.calm (by constructor <;> simp) h)

/-- R171: hearing a frame keeps what outlasts a STOP and the frame's handler keeps. -/
theorem OutlastsStop.hear {P : State → Prop} (hP : OutlastsStop P) {s : State} (k target : Nat) {handle : State → State}
    (hhandle : ∀ r, P r → P (handle r)) (h : P s) : P (s.hear k target handle) := by
  have hanswer : ∀ a, P (s.answer a) := fun a => hP.calm (by constructor <;> simp) h
  unfold State.hear
  split
  · exact hanswer false
  split
  · exact hanswer true
  split
  · exact hP.duplicate (hanswer true)
  · exact hhandle _ (hanswer true)

theorem State.outsideBoot_keeps {P : State → Prop} {s : State} {handle : State → State} (hhandle : P s → P (handle s))
    (h : P s) : P (s.outsideBoot handle) := by
  unfold State.outsideBoot
  split
  · exact h
  · exact hhandle h

theorem OutlastsStop.hear_outsideBoot {P : State → Prop} (hP : OutlastsStop P) {s : State} (k target : Nat)
    {handle : State → State} (hhandle : ∀ r, P r → P (handle r)) (h : P s) :
    P (s.hear k target (State.outsideBoot handle)) :=
  hP.hear k target (fun r hr => State.outsideBoot_keeps (hhandle r) hr) h

theorem Calm.judgeCover (s : State) : Calm s s.judgeCover := by
  unfold State.judgeCover
  split
  · constructor <;> simp
  · exact .refl s

theorem OutlastsStop.rosterHeard {P : State → Prop} (hP : OutlastsStop P) (k : Nat) {s : State} (h : P s) :
    P (s.rosterHeard k) := by
  have h1 : P s.judgeRoster.tryReady := hP.calm (by constructor <;> simp) h
  unfold State.rosterHeard
  dsimp only
  split
  · exact hP.settle (hP.calm (.judgeCover _) h1)
  · exact hP.settle h1

theorem OutlastsStop.leaveBoot {P : State → Prop} (hP : OutlastsStop P) {s : State} (h : P s) : P s.leaveBoot := by
  unfold State.leaveBoot
  split
  · exact hP.settle (hP.calm (by constructor <;> simp) (hP.stop h))
  · exact hP.settle (hP.calm (by constructor <;> simp) h)

/-! ## The commands whose whole effect is news and a STOP -/

/-- The commands that bring news and settle the station state, and do nothing more to the blocks an invariant speaks of. -/
def isNews : Instr → Bool
  | .loadEnd _ | .stopButton | .stopFrame _ | .restartFrame _ | .presentFrame .. | .alarmFrame .. | .stateFrame .. => true
  | .lineStartFrame _ | .frameDiscard _ => true
  | _ => false

theorem Calm.stageHears (k : Nat) (p : StatePayload) (s : State) : Calm s (s.stageHears k p) := by
  unfold State.stageHears
  (repeat' (split <;> try dsimp only)) <;> constructor <;> simp

theorem State.latchPlan_pull (p : Program) (s : State) :
    (s.latchPlan p).pull = { s.pull with planOn := planValid p } := by
  unfold State.latchPlan
  dsimp only
  split <;> simp

theorem length_levelEntries (levels : List Nat) (i : Nat) (es : List AlarmEntry) :
    (levelEntries levels i es).length = es.length := by
  induction es generalizing i with
  | nil => rfl
  | cons e es ih => simp [levelEntries, ih]

@[simp] theorem State.judgePause_heat (fresh : Option Nat) (s : State) :
    (s.judgePause fresh).heat = { s.heat with pauseRequest := s.pauseJudged } := by
  unfold State.judgePause
  dsimp only
  (repeat' split) <;> simp

theorem State.judgeAllZones_zones (s : State) : s.judgeAllZones.heat.zones = s.judgedZones := by
  unfold State.judgeAllZones
  dsimp only
  split <;> simp

theorem Calm.judgeAllZones (s : State) : Calm s s.judgeAllZones := by
  constructor <;> simp [State.judgeAllZones_zones, State.judgedZones, zoneNumbers]

theorem Calm.latchLevels (p : Program) (s : State) : Calm s (s.latchLevels p) := by
  constructor <;> simp [State.latchLevels, length_levelEntries]

theorem Calm.latchPlan (p : Program) (s : State) : Calm s (s.latchPlan p) := by
  constructor <;> simp [State.latchPlan_pull]

theorem OutlastsStop.loadValid {P : State → Prop} (hP : OutlastsStop P) (id : ProgramId) (p : Program) (n : Nat) {s : State}
    (h : P s) : P (s.loadValid id p n) := by
  refine hP.leaveBoot ?_
  have h1 : P { s with loader := ⟨.valid id p, min Config.byteCap n⟩ } := hP.calm (by constructor <;> simp) h
  have h2 := hP.calm (.latchLevels p _) h1
  have h3 : P ((State.latchLevels p { s with loader := ⟨.valid id p, min Config.byteCap n⟩ }).latchScreen p).latchDwell :=
    hP.calm (by constructor <;> simp) h2
  have h4 := hP.calm (.judgeAllZones _) (hP.calm (.latchPlan p _) h3)
  exact hP.calm (by constructor <;> simp) h4

theorem OutlastsStop.loadInvalid {P : State → Prop} (hP : OutlastsStop P) {s : State} (h : P s) : P s.loadInvalid :=
  hP.leaveBoot (hP.calm (by constructor <;> simp) h)

theorem Calm.mirrorFromState (k : Nat) (p : StatePayload) (s : State) : Calm s (s.mirrorFromState k p) := by
  constructor <;> simp

theorem Calm.restartAsked (s : State) : Calm s { s with control := { s.control with restartWaiting := true } } := by
  constructor <;> simp

theorem Calm.setRoster (k : Nat) (e : RosterEntry) (s : State) : Calm s (s.setRoster k e) := by constructor <;> simp

/-- What outlasts a STOP is kept by every command whose whole effect is news and a STOP. -/
theorem OutlastsStop.exec_isNews {P : State → Prop} (hP : OutlastsStop P) {c : Instr} {s t : State} (hc : isNews c = true)
    (h : exec c s = .next t) (hs : P s) : P t := by
  cases c with
  | loadEnd image =>
    obtain rfl : _ = t := Host.Outcome.next.inj h
    split
    · split
      · exact hP.loadValid _ _ _ hs
      · exact hP.loadInvalid hs
    · exact hs
  | stopButton =>
    obtain rfl : _ = t := Host.Outcome.next.inj h
    exact hP.settle (hP.calm (.raiseAlarm ..) (hP.calm (.send (by simp) ..) hs))
  | stopFrame =>
    obtain rfl : _ = t := Host.Outcome.next.inj h
    exact hP.hear _ _ (fun r hr => hP.settle (hP.calm (by constructor <;> simp) hr)) hs
  | restartFrame =>
    obtain rfl : _ = t := Host.Outcome.next.inj h
    exact hP.hear_outsideBoot _ _ (fun r hr => hP.calm (.restartAsked _) hr) hs
  | presentFrame =>
    obtain rfl : _ = t := Host.Outcome.next.inj h
    refine hP.hear _ _ (fun r hr => State.outsideBoot_keeps (fun hr => hP.rosterHeard _ ?_) (hP.calm (.setRoster ..) hr)) hs
    exact hP.calm (by constructor <;> simp) hr
  | alarmFrame =>
    obtain rfl : _ = t := Host.Outcome.next.inj h
    exact hP.hear _ _ (fun r hr => hP.settle (hP.calm (by constructor <;> simp) hr)) hs
  | stateFrame =>
    obtain rfl : _ = t := Host.Outcome.next.inj h
    refine hP.hear _ _ (fun r hr => State.outsideBoot_keeps (fun hr => hP.rosterHeard _ ?_) (hP.calm (.setRoster ..) hr)) hs
    exact hP.calm (.mirrorFromState ..) (hP.calm (.stageHears ..) hr)
  | lineStartFrame =>
    obtain rfl : _ = t := Host.Outcome.next.inj h
    refine hP.hear _ _ (fun r hr => ?_) hs
    split
    · exact hP.calm (by constructor <;> simp) hr
    · exact hr
  | frameDiscard =>
    obtain rfl : _ = t := Host.Outcome.next.inj h
    split
    · exact hP.hear _ _ (fun r hr => hr) hs
    · exact hP.calm (by constructor <;> simp) hs
  | _ => simp [isNews] at hc

/-! ## The keys and the warm restart -/

/-- The pages' actions apart, ACK brings news and settles. -/
theorem OutlastsStop.exec_ackKey {P : State → Prop} (hP : OutlastsStop P) {s t : State} (hspool : ∀ r, P r → P r.spoolConfirm)
    (htake : ∀ r, P r → P r.takeFailure) (h : exec .ackKey s = .next t) (hs : P s) : P t := by
  obtain rfl : _ = t := Host.Outcome.next.inj h
  refine State.outsideBoot_keeps (fun hr => ?_) (hP.calm (by constructor <;> simp) hs)
  unfold State.ackPress
  split
  · exact hP.settle (hP.calm (by constructor <;> simp) hr)
  · split
    · exact hspool _ hr
    · exact htake _ hr
    · exact hr

theorem Calm.eachSource {f : Nat → State → State} (hf : ∀ i s, Calm s (f i s)) (l : List Nat) (s : State) :
    Calm s (eachSource f l s) := by
  induction l generalizing s with
  | nil => exact .refl s
  | cons i is ih => exact (hf i s).trans (ih _)

theorem Calm.ackLow (i : Nat) (s : State) : Calm s (s.ackLow i) := by constructor <;> simp

theorem Calm.clearEvent (i : Nat) (s : State) : Calm s (s.clearEvent i) := by constructor <;> simp

theorem Calm.resumeStep (s : State) : Calm s s.resumeStep := by
  constructor
  case head => unfold State.resumeStep State.startLine State.resumeHeld; (repeat' split) <;> simp
  all_goals simp

/-- What waits for the press apart, RESUME brings news and settles. -/
theorem OutlastsStop.exec_resumeKey {P : State → Prop} (hP : OutlastsStop P) {x : StripSensors} {s t : State}
    (hrelease : ∀ r, P r → P (r.releaseWaiting x)) (h : exec (.resumeKey x) s = .next t) (hs : P s) : P t := by
  obtain rfl : _ = t := Host.Outcome.next.inj h
  refine State.outsideBoot_keeps (fun hr => hP.settle (hrelease _ ?_)) (hP.calm (by constructor <;> simp) hs)
  exact hP.calm (.resumeStep _) (hP.calm (.eachSource Calm.clearEvent _ _) (hP.calm (.eachSource Calm.ackLow _ _) hr))

theorem LineUnit.Keeps.cleared (l : LineUnit) :
    l.Keeps { l with queue := [], waiting := [], unheard := 0, roster := emptyRoster, rollCallTimer := .stopped } where
  bounded h := ⟨by simp, by simp [LineUnit.bulkCount], by simp, by simp, by simp, by simp, h.lost⟩
  noResult _ := by simp [LineUnit.NoResult]
  roster _ := by simp [emptyRoster]

theorem State.renew_calm (old : AlarmUnit) (l : List Source) (s : State) : Calm s (s.renew old l) := by
  induction l generalizing s with
  | nil => exact .refl s
  | cons i is ih =>
    unfold State.renew
    refine .trans ?_ (ih _)
    split
    · constructor <;> simp
    · exact .refl s

theorem OutlastsStop.restartState {P : State → Prop} (hP : OutlastsStop P) {s : State} (h : P s) : P s.restartState := by
  unfold State.restartState
  split
  · exact hP.settle (hP.calm (by constructor <;> simp) h)
  · exact hP.settle (hP.calm (by constructor <;> simp) h)

/-- The stage apart, a warm restart brings news and settles. -/
theorem OutlastsStop.exec_warmRestart {P : State → Prop} (hP : OutlastsStop P) {s t : State}
    (hstage : ∀ r, P r → P r.restartStage) (h : exec .warmRestart s = .next t) (hs : P s) : P t := by
  obtain rfl : _ = t := Host.Outcome.next.inj h
  split
  · refine hP.restartState (hP.calm (State.renew_calm ..) (hstage _ (hP.calm ?_ hs)))
    refine .trans (t := State.restartLine { s with screen := s.screen.restarted }) ?_ ?_
    · constructor <;> simp [State.restartLine, LineUnit.Keeps.cleared]
    · constructor <;> simp [State.clearAlarms]
  · exact hs

end Sys2Proof.Machine
end


section
/-! PROOFS. The trims (R84, R95 to R100): no command but a pull result and power-on moves one, and none leaves its limits. -/

namespace Sys2Proof.Machine

/-! ## What leaves the trims -/

theorem trims_outlastsStop (l : List TrimEntry) : OutlastsStop fun s => s.energy.trims = l where
  calm h hs := h.energy ▸ hs
  stop hs := by simpa using hs

/-- R95: only a pull result and power-on reach a trim. -/
theorem trims_of_exec {c : Instr} {s t : State} (h : exec c s = .next t) (hp : ∀ p r, c ≠ .powerOn p r)
    (hr : ∀ k r, c ≠ .pullResultFrame k r) : t.energy.trims = s.energy.trims := by
  have hP := trims_outlastsStop s.energy.trims
  cases c with
  | powerOn p r => exact absurd rfl (hp p r)
  | pullResultFrame k r => exact absurd rfl (hr k r)
  | loadEnd | stopButton | stopFrame | restartFrame | presentFrame | alarmFrame | stateFrame | lineStartFrame | frameDiscard =>
    exact hP.exec_isNews rfl h rfl
  | ackKey => exact hP.exec_ackKey (fun r hr => by simpa using hr) (fun r hr => by simpa using hr) h rfl
  | resumeKey => exact hP.exec_resumeKey (fun r hr => by simpa using hr) h rfl
  | warmRestart => exact hP.exec_warmRestart (fun r hr => by simpa using hr) h rfl
  | offerFrame | refuseFrame | arrivedFrame | recordFrame | takeFrame =>
    obtain rfl : _ = t := Host.Outcome.next.inj h
    refine hP.hear_outsideBoot _ _ (fun r hr => ?_) rfl
    (repeat' split) <;> simpa using hr
  | searchFirstContact | searchSecondContact =>
    obtain rfl : _ = t := Host.Outcome.next.inj h
    (repeat' split) <;> simp
  | bondSample =>
    cases hb : s.energy.bond with
    | none =>
      obtain rfl : _ = t := Host.Outcome.next.inj h
      simp [hb]
    | some b => obtain he | he | ⟨o, he⟩ := energy_of_exec_bondSample hb h <;> simp [he]
  | _ => rw [(exec_keepsBut h).energy (by simp [blocksOf])]

theorem energy_of_exec_powerOn {s t : State} {p : Straps} {r : FirstReading} (h : exec (.powerOn p r) s = .next t) :
    t.energy = EnergyUnit.initial := by
  obtain rfl : _ = t := Host.Outcome.next.inj h
  dsimp only
  (repeat' split) <;> simp [State.reset]

/-- Settles O4: no other command reaches a trim, and power-on gives the energy unit its initial values. -/
theorem onlyPullResultsMoveTrims : Obligations.OnlyPullResultsMoveTrims :=
  ⟨fun _ _ _ h hp hr => trims_of_exec h hp hr, fun _ _ _ _ h => by rw [energy_of_exec_powerOn h]; rfl⟩

/-! ## The limits of the trims -/

theorem moveTrim_bounds (d t : Int) : -20 ≤ moveTrim d t ∧ moveTrim d t ≤ 20 := by
  unfold moveTrim Config.trimLimit
  omega

theorem decayTrim_bounds {t : Int} (h : -20 ≤ t ∧ t ≤ 20) : -20 ≤ decayTrim t ∧ decayTrim t ≤ 20 := by
  unfold decayTrim
  split <;> (try split) <;> omega

/-- R97, R98: what a result teaches stays within the limits. -/
theorem TrimEntry.Within.taught {e : TrimEntry} (h : e.Within) (o : PullOutcome) (b : BreakCode) : (e.taught o b).Within := by
  obtain ⟨hf, hf', hs, hs', hg⟩ := h
  unfold TrimEntry.taught
  split
  · exact ⟨hf, hf', hs, hs', hg⟩
  split
  · split
    · next hlow => exact ⟨hf, hf', hs, hs', Nat.le_of_lt_succ hlow⟩
    · have h1 := decayTrim_bounds ⟨hf, hf'⟩
      have h2 := decayTrim_bounds ⟨hs, hs'⟩
      exact ⟨h1.1, h1.2, h2.1, h2.2, Nat.zero_le _⟩
  · have h1 := moveTrim_bounds (trimDelta o b).1 e.first
    have h2 := moveTrim_bounds (trimDelta o b).2 e.second
    exact ⟨h1.1, h1.2, h2.1, h2.2, Nat.zero_le _⟩

/-- R96: a result's class takes what it teaches. -/
theorem State.updateTrims_trims (r : PullResult) (s : State) :
    (s.updateTrims r).energy.trims =
      s.energy.trims.set r.bondClass ((s.energy.trimOf r.bondClass).taught r.outcome r.breakCode) := by
  unfold State.updateTrims
  dsimp only
  (repeat' split) <;> simp

theorem State.TrimInv.updateTrims {s : State} (h : s.TrimInv) (r : PullResult) : (s.updateTrims r).TrimInv := by
  intro e he
  rw [State.updateTrims_trims] at he
  rcases List.mem_or_eq_of_mem_set he with he | rfl
  · exact h e he
  · exact (h.trimOf_within r.bondClass).taught _ _

theorem State.TrimInv.learnResult {s : State} (h : s.TrimInv) (r : PullResult) : (s.learnResult r).TrimInv := by
  have hu := h.updateTrims r
  unfold State.learnResult
  split
  · dsimp only
    split
    · simpa [State.TrimInv] using hu
    · exact hu
  · exact h

theorem State.TrimInv.outlastsStop : OutlastsStop State.TrimInv where
  calm h hs := by simpa [State.TrimInv, h.energy] using hs
  stop hs := by simpa [State.TrimInv] using hs

theorem State.TrimInv.exec {c : Instr} {s t : State} (hs : s.TrimInv) (h : exec c s = .next t) : t.TrimInv := by
  cases c with
  | powerOn =>
    rw [State.TrimInv, energy_of_exec_powerOn h]
    simp [EnergyUnit.initial, TrimEntry.Within]
  | pullResultFrame k r =>
    obtain rfl : _ = t := Host.Outcome.next.inj h
    refine State.TrimInv.outlastsStop.hear _ _ (fun u hu => ?_) hs
    simpa [State.TrimInv] using hu.learnResult r
  | _ =>
    rw [State.TrimInv, trims_of_exec h (by simp) (by simp)]
    exact hs

/-- Settles O55: a step runs one command, and each keeps the trims within their limits. -/
theorem trimsStayWithinLimits : Obligations.TrimsStayWithinLimits := by
  intro s t hs h
  obtain rfl | ⟨c, q, hc⟩ := step_cases h
  · exact hs
  · exact State.TrimInv.exec (s := s.withPending q) hs hc

end Sys2Proof.Machine
end


section
/-! PROOFS. The wire cycle and the bond (R63, R84, R88): what each command of the wire sequencer does to the cycle, and that a wire is
in flight, a bond in progress and the ultrasound on only in their phases. -/

namespace Sys2Proof.Machine

/-! ## What the record's requests leave of the wire sequencer -/

@[simp] theorem State.requestReject_wire (u : Nat) (cause : RejectCause) (s : State) :
    (s.requestReject u cause).wire.cycle = s.wire.cycle ∧ (s.requestReject u cause).wire.awaits = s.wire.awaits ∧
    (s.requestReject u cause).wire.ballReady = s.wire.ballReady ∧ (s.requestReject u cause).wire.stock = s.wire.stock ∧
    (s.requestReject u cause).wire.inFlight = s.wire.inFlight ∧
    (s.requestReject u cause).wire.wiresBonded = s.wire.wiresBonded ∧
    (s.requestReject u cause).wire.unitsDone = s.wire.unitsDone := by
  unfold State.requestReject
  (repeat' split) <;> simp

@[simp] theorem State.bondConsequence_wire (o : BondOutcome) (b : Bool) (u w : Nat) (s : State) :
    (s.bondConsequence o b u w).wire.cycle = s.wire.cycle ∧ (s.bondConsequence o b u w).wire.inFlight = s.wire.inFlight := by
  unfold State.bondConsequence
  (repeat' split) <;> simp

@[simp] theorem State.completeWire_wire (f : WireInFlight) (s : State) :
    (s.completeWire f).wire.cycle = s.wire.cycle ∧ (s.completeWire f).wire.inFlight = s.wire.inFlight := by
  unfold State.completeWire
  (repeat' (split <;> try dsimp only)) <;> simp

/-- R79: a debit leaves a wire in flight, or none, as it found it. -/
@[simp] theorem State.debit_inFlight (s : State) : s.debit.wire.inFlight.isSome = s.wire.inFlight.isSome := by
  cases hf : s.wire.inFlight with
  | none => unfold State.debit; simp [hf]
  | some f => rw [State.debit_wire hf]; split <;> simp [hf]

/-! ## The power and the demand -/

/-- R87: no effective power is above 1000 ‰. -/
theorem effectivePower_le (pn : Nat) (t c : Int) : effectivePower pn t c ≤ 1000 := by
  unfold effectivePower
  split
  · exact Nat.le_refl _
  · next h =>
    have hle : powerProduct pn t c ≤ 100000 := by simpa [isSaturated] using h
    omega

/-- R88: the demand of an interval is at most the bond's power. -/
theorem demandAt_le (p ramp i : Nat) : demandAt p ramp i ≤ p := by
  unfold demandAt
  split
  · next h => exact Nat.div_le_of_le_mul (by rw [Nat.mul_comm]; exact Nat.mul_le_mul_right p h.1)
  · exact Nat.le_refl _

/-! ## The invariant -/

/-- Outside the two bond phases there is no bond and no ultrasound. -/
theorem State.BondInv.still {s : State} (h : s.BondInv) (h1 : s.wire.cycle ≠ .bondFirst) (h2 : s.wire.cycle ≠ .bondSecond) :
    s.energy.bond = none ∧ s.ports.ultrasonic = 0 := by
  refine ⟨?_, h.quiet h1 h2⟩
  have := h.bond
  simpa [h1, h2] using this

/-- A state outside the two bond phases with no bond and no ultrasound, and a wire in flight exactly outside IDLE. -/
theorem State.BondInv.of_still {s : State} (h1 : s.wire.cycle ≠ .bondFirst) (h2 : s.wire.cycle ≠ .bondSecond)
    (hb : s.energy.bond = none) (hu : s.ports.ultrasonic = 0) (hf : s.wire.inFlight.isSome = true ↔ s.wire.cycle ≠ .idle) :
    s.BondInv where
  flight := hf
  bond := by simp [hb, h1, h2]
  power := by simp [hb]
  demand := by omega
  quiet _ _ := hu

/-- The invariant speaks of four things alone. -/
theorem State.BondInv.of_eq {s t : State} (h : s.BondInv) (hc : t.wire.cycle = s.wire.cycle)
    (hf : t.wire.inFlight.isSome = s.wire.inFlight.isSome) (hb : t.energy.bond = s.energy.bond)
    (hu : t.ports.ultrasonic = s.ports.ultrasonic) : t.BondInv where
  flight := by rw [hc, hf]; exact h.flight
  bond := by rw [hc, hb]; exact h.bond
  power := by rw [hb]; exact h.power
  demand := by rw [hu]; exact h.demand
  quiet := by rw [hc, hu]; exact h.quiet

theorem State.BondInv.outlastsStop : OutlastsStop State.BondInv where
  calm h hs := hs.of_eq (by rw [h.wire]) (by rw [h.wire]) (by rw [h.energy]) (by rw [h.ports])
  stop _ := .of_still (by simp) (by simp) (by simp) (by simp) (by simp)

/-- R88 to R93: a sample goes on with the bond, or ends it and opens the phase after it. -/
theorem State.BondInv.bondSample {s t : State} {z : Option Int} {g : Nat} (hs : s.BondInv)
    (h : exec (.bondSample z g) s = .next t) : t.BondInv := by
  obtain rfl : _ = t := Host.Outcome.next.inj h
  clear h
  split
  · next b f hb hf =>
    dsimp only
    split
    · split
      · next o _ =>
        cases hside : (b.sampled z g).side <;> refine .of_still ?_ ?_ ?_ ?_ ?_ <;> simp [State.afterBond, hf, hside]
      · obtain ⟨hflight, hbond, hpower, hdemand, hquiet⟩ := hs
        refine ⟨hflight, by simpa [hb] using hbond, ?_, hdemand, hquiet⟩
        intro c hc
        obtain rfl : b.sampled z g = c := by simpa using hc
        exact hpower b hb
    · exact hs
  · exact hs

/-- R71, R74, R86: contact begins a bond whose power is in range, the ultrasound still off. -/
theorem State.BondInv.startBond {s : State} (hs : s.BondInv) (h1 : s.wire.cycle ≠ .bondFirst) (h2 : s.wire.cycle ≠ .bondSecond)
    {w : WireSequencer} (hw : w.cycle = .bondFirst ∨ w.cycle = .bondSecond) (hf : w.inFlight.isSome = true) (c : Nat) (side : Side)
    (x : Int) : (State.startBond c side x { s with wire := w }).BondInv where
  flight := by rcases hw with hw | hw <;> simp [hf, hw]
  bond := by simpa using hw
  power b hb := by
    obtain rfl : State.newBond _ c side x = b := by simpa using hb
    exact effectivePower_le _ _ _
  demand := (hs.still h1 h2).2 ▸ Nat.zero_le _
  quiet _ _ := (hs.still h1 h2).2

theorem State.BondInv.demandInterval {s t : State} (hs : s.BondInv) (h : exec .demandInterval s = .next t) : t.BondInv := by
  obtain rfl : _ = t := Host.Outcome.next.inj h
  clear h
  obtain ⟨hflight, hbond, hpower, hdemand, hquiet⟩ := hs
  split
  · next b hb =>
    split
    · next hbonding =>
      refine ⟨hflight, hbond, hpower, (demandAt_le _ _ _).trans (hpower b hb), fun h1 h2 => absurd hbonding ?_⟩
      simpa [WireSequencer.bonding] using ⟨h1, h2⟩
    · exact ⟨hflight, hbond, hpower, hdemand, hquiet⟩
  · exact ⟨hflight, hbond, hpower, hdemand, hquiet⟩

/-! ## The demands that are not the ultrasound's -/

@[simp] theorem State.startIndex_quiet (c : Nat) (s : State) : (s.startIndex c).ports.ultrasonic = s.ports.ultrasonic := rfl

@[simp] theorem State.moveToWire_quiet (p : Program) (c : PullChoice) (s : State) :
    (s.moveToWire p c).ports.ultrasonic = s.ports.ultrasonic := rfl

@[simp] theorem State.decidePull_quiet (f : PullInFlight) (o : PullOutcome) (b : BreakCode) (s : State) :
    (s.decidePull f o b).ports.ultrasonic = s.ports.ultrasonic := by
  unfold State.decidePull State.enterReleasing
  split <;> simp

/-- The index drive, the elevators and the pull unit leave the ultrasound alone. -/
theorem ultrasonic_of_exec {c : Instr} {s t : State} (hc : Block.ports ∈ blocksOf c → Block.wire ∉ blocksOf c ∧ c ≠ .demandInterval)
    (h : exec c s = .next t) : t.ports.ultrasonic = s.ports.ultrasonic := by
  cases c with
  | stageChooseWork | auditWaitChoose | elevatorMoveStart | pullCycleStart | toWireInPosition | hookEngagement
  | holdTimerExpiry | liftTravelLimit =>
    obtain rfl : _ = t := Host.Outcome.next.inj h
    clear h
    (repeat' split) <;> simp
  | loadCellSample =>
    obtain rfl : _ = t := Host.Outcome.next.inj h
    clear h
    unfold State.judgePullSample
    (repeat' (split <;> try dsimp only)) <;> simp
  | _ => rw [(exec_keepsBut h).ports (by simp_all [blocksOf, stopBlocks])]

/-! ## The wire sequencer's own commands -/

/-- R65 to R67: a cycle begins outside the bond phases. -/
theorem State.BondInv.wireCycleStart {s t : State} (hs : s.BondInv) (h : exec .wireCycleStart s = .next t) : t.BondInv := by
  obtain rfl : _ = t := Host.Outcome.next.inj h
  clear h
  split
  · next hc =>
    obtain ⟨hb, hu⟩ := hs.still (by simp [hc.1]) (by simp [hc.1])
    split
    · dsimp only
      (repeat' split)
      · exact hs.of_eq (by simp) (by simp) (by simp) (by simp)
      · exact .of_still (by simp [State.enterToFirst]) (by simp [State.enterToFirst]) hb hu (by simp [State.enterToFirst])
      · exact .of_still (by simp [State.enterLead]) (by simp [State.enterLead]) hb hu (by simp [State.enterLead])
    · exact hs
  · exact hs

/-- R68, R69, R77: a flame-off's end opens a wire or ends the cycle. -/
theorem State.BondInv.flameOffEnd {s t : State} {spark : Bool} (hs : s.BondInv) (h : exec (.flameOffEnd spark) s = .next t) :
    t.BondInv := by
  obtain rfl : _ = t := Host.Outcome.next.inj h
  clear h
  split
  · split
    · next hc =>
      obtain ⟨hb, hu⟩ := hs.still (by simp [hc.1]) (by simp [hc.1])
      dsimp only
      (repeat' split)
      · exact .of_still (by simp [State.enterToFirst]) (by simp [State.enterToFirst]) hb hu (by simp [State.enterToFirst])
      · exact .of_still (by simp) (by simp) (by simpa using hb) (by simpa using hu) (by simp)
      · exact .of_still (by simp) (by simp) (by simpa using hb) (by simpa using hu) (by simp)
    · exact hs
  · exact hs

/-- R70, R71, R73, R74: over a bond the head searches. -/
theorem State.BondInv.startSearch {s : State} (hs : s.BondInv) (h1 : s.wire.cycle ≠ .bondFirst) (h2 : s.wire.cycle ≠ .bondSecond)
    (hf : s.wire.inFlight.isSome = true) {cycle : WireCycle} (hc : cycle = .searchFirst ∨ cycle = .searchSecond) (c : Nat)
    (side : Side) : (s.startSearch c side cycle).BondInv := by
  obtain ⟨hb, hu⟩ := hs.still h1 h2
  rcases hc with rfl | rfl <;>
    exact .of_still (by simp [State.startSearch]) (by simp [State.startSearch]) hb hu (by simp [State.startSearch, hf])

/-- A cycle that returns to IDLE from outside the bond phases. -/
theorem State.BondInv.wireIdle {s : State} (hb : s.energy.bond = none) (hu : s.ports.ultrasonic = 0) : s.wireIdle.BondInv :=
  .of_still (by simp) (by simp) (by simpa using hb) (by simpa using hu) (by simp)

theorem State.BondInv.exec {c : Instr} {s t : State} (hs : s.BondInv) (h : exec c s = .next t) : t.BondInv := by
  have hP := State.BondInv.outlastsStop
  have same {r u : State} (hr : r.BondInv) (hw : u.wire = r.wire) (he : u.energy.bond = r.energy.bond) (hp : u.ports = r.ports) :
      u.BondInv := hr.of_eq (by rw [hw]) (by rw [hw]) he (by rw [hp])
  cases c with
  | powerOn =>
    refine .of_still ?_ ?_ ?_ ?_ ?_ <;>
      (obtain rfl : _ = t := Host.Outcome.next.inj h
       dsimp only
       (repeat' split) <;>
        simp [State.reset, WireSequencer.initial, EnergyUnit.initial, Ports.initial])
  | loadEnd | stopButton | stopFrame | restartFrame | presentFrame | alarmFrame | stateFrame | lineStartFrame | frameDiscard =>
    exact hP.exec_isNews rfl h hs
  | ackKey =>
    refine hP.exec_ackKey (fun r hr => hr.of_eq ?_ ?_ (by simp) (by simp)) (fun r hr => same hr (by simp) (by simp) (by simp)) h hs
    · unfold State.spoolConfirm State.waiveDebit
      (repeat' (split <;> try dsimp only)) <;> simp
    · unfold State.spoolConfirm State.waiveDebit
      (repeat' (split <;> try dsimp only)) <;> simp_all
  | resumeKey => exact hP.exec_resumeKey (fun r hr => same hr (by simp) (by simp) (by simp)) h hs
  | warmRestart => exact hP.exec_warmRestart (fun r hr => same hr (by simp) (by simp) (by simp)) h hs
  | offerFrame | refuseFrame | arrivedFrame | recordFrame | takeFrame =>
    obtain rfl : _ = t := Host.Outcome.next.inj h
    refine hP.hear_outsideBoot _ _ (fun r hr => ?_) hs
    clear h
    (repeat' split) <;> exact same hr (by simp) (by simp) (by simp)
  | pullResultFrame =>
    obtain rfl : _ = t := Host.Outcome.next.inj h
    refine hP.hear _ _ (fun r hr => same hr (by simp) ?_ (by simp)) hs
    unfold State.learnResult State.updateTrims
    (repeat' (split <;> try dsimp only)) <;> simp
  | bondSample => exact hs.bondSample h
  | demandInterval => exact hs.demandInterval h
  | wireCycleStart => exact hs.wireCycleStart h
  | flameOffEnd => exact hs.flameOffEnd h
  | searchFirstContact | searchSecondContact =>
    obtain rfl : _ = t := Host.Outcome.next.inj h
    clear h
    split
    · next f hf =>
      split
      · next hc => exact hs.startBond (by simp [hc.1]) (by simp [hc.1]) (by simp) (by simp [hf]) _ _ _
      · exact hs
    · exact hs
  | toFirstInPosition | loopMotionInPosition =>
    obtain rfl : _ = t := Host.Outcome.next.inj h
    clear h
    split
    · next f hf =>
      split
      · next hc => exact hs.startSearch (by simp [hc]) (by simp [hc]) (by simp [hf]) (by simp) _ _
      · exact hs
    · exact hs
  | missingDieReturnEnd =>
    obtain rfl : _ = t := Host.Outcome.next.inj h
    clear h
    split
    · next hc =>
      obtain ⟨hb, hu⟩ := hs.still (by simp [hc.1]) (by simp [hc.1])
      exact .wireIdle hb hu
    · exact hs
  | cutEnd =>
    obtain rfl : _ = t := Host.Outcome.next.inj h
    clear h
    split
    · next hc =>
      obtain ⟨hb, hu⟩ := hs.still (by rcases hc.1 with h | h <;> simp [h]) (by rcases hc.1 with h | h <;> simp [h])
      exact .wireIdle (by simpa using hb) (by simpa using hu)
    · exact hs
  | tailingEnd =>
    obtain rfl : _ = t := Host.Outcome.next.inj h
    clear h
    split
    · next f hf =>
      split
      · next hc =>
        obtain ⟨hb, hu⟩ := hs.still (by simp [hc.1]) (by simp [hc.1])
        exact .of_still (by simp) (by simp) (by simpa using hb) (by simpa using hu) (by simp [hf])
      · exact hs
    · exact hs
  | searchFirstLimit | loopLiftInPosition | searchSecondLimit | tailRiseInPosition | leadFlameHeadReady =>
    obtain rfl : _ = t := Host.Outcome.next.inj h
    clear h
    (repeat' (split <;> try dsimp only)) <;> exact hs.of_eq (by simp [State.startLoop]) (by simp [State.startLoop]) (by simp)
      (by simp [State.startLoop])
  | _ =>
    have hk := exec_keepsBut h
    have hw := hk.wire (by simp [blocksOf])
    exact hs.of_eq (by rw [hw]) (by rw [hw]) (by rw [hk.energy (by simp [blocksOf])]) (ultrasonic_of_exec (by simp [blocksOf]) h)

/-- Settles O56: a step runs one command, and each leaves wire, bond and ultrasound in their phases. -/
theorem bondOnlyInBondPhases : Obligations.BondOnlyInBondPhases := by
  intro s t hs h
  obtain rfl | ⟨c, q, hc⟩ := step_cases h
  · exact hs
  · exact State.BondInv.exec (hs.of_eq (t := s.withPending q) rfl rfl rfl rfl) hc

end Sys2Proof.Machine
end


section
/-! PROOFS. The record on the stage (R1, R13, R17, R51): which changes leave the stage its state and its record, what every command
does to the two, and that a record in HANDING is kept or discarded. -/

namespace Sys2Proof.Machine

/-! ## What the blocks may change of the record -/

/-- The stage of `t` is in the state of `s` with a record, an assembly and an answered OFFER exactly where `s` has them; and out of
the states in which a record may be changed (R13) the record is the same. -/
structure SameStrip (s t : State) : Prop where
  state : t.stage.state = s.stage.state
  record : t.stage.record.isSome = s.stage.record.isSome
  assembly : t.stage.assembly = s.stage.assembly
  kept : t.stage.kept = s.stage.kept
  frozen : s.dwellMayChange = false → t.stage.record = s.stage.record

theorem SameStrip.of_eq {s t : State} (h1 : t.stage.state = s.stage.state) (h2 : t.stage.record = s.stage.record)
    (h3 : t.stage.assembly = s.stage.assembly) (h4 : t.stage.kept = s.stage.kept) : SameStrip s t :=
  ⟨h1, by rw [h2], h3, h4, fun _ => h2⟩

theorem SameStrip.of_stage {s t : State} (h : t.stage = s.stage) : SameStrip s t :=
  .of_eq (by rw [h]) (by rw [h]) (by rw [h]) (by rw [h])

theorem State.dwellMayChange_congr {s t : State} (h : t.stage.state = s.stage.state) : t.dwellMayChange = s.dwellMayChange := by
  simp [State.dwellMayChange, State.pullMayChange, h]

theorem SameStrip.trans {s t u : State} (h : SameStrip s t) (k : SameStrip t u) : SameStrip s u where
  state := k.state.trans h.state
  record := k.record.trans h.record
  assembly := k.assembly.trans h.assembly
  kept := k.kept.trans h.kept
  frozen hs := (k.frozen (by rw [State.dwellMayChange_congr h.state, hs])).trans (h.frozen hs)

/-- What leaves the stage alone may follow. -/
theorem SameStrip.then {s t u : State} (h : SameStrip s t) (hu : u.stage = t.stage) : SameStrip s u := h.trans (.of_stage hu)

/-- R13: in a state in which work may change the record, the dwell flag may be set too. -/
theorem State.dwellMayChange_of_work {s : State} (h : s.workMayChange = true) : s.dwellMayChange = true := by
  simp_all [State.dwellMayChange, State.pullMayChange, State.workMayChange]

theorem State.dwellMayChange_of_pull {s : State} (h : s.pullMayChange = true) : s.dwellMayChange = true := by
  simp_all [State.dwellMayChange]

/-- A unit's entry changes in a state that lets the record change. -/
theorem SameStrip.setUnit {s : State} (h : s.dwellMayChange = true) (u : Nat) (e : UnitEntry) : SameStrip s (s.setUnit u e) where
  state := rfl
  record := by simp
  assembly := rfl
  kept := rfl
  frozen hs := by rw [h] at hs; simp at hs

theorem SameStrip.requestReject (u : Nat) (cause : RejectCause) (s : State) : SameStrip s (s.requestReject u cause) := by
  unfold State.requestReject
  split
  · split
    · next hc => exact (SameStrip.setUnit (State.dwellMayChange_of_work hc.1) u _).then rfl
    · exact .of_stage rfl
  · exact .of_stage rfl

theorem SameStrip.requestPullReject (u : Nat) (cause : RejectCause) (s : State) : SameStrip s (s.requestPullReject u cause) := by
  unfold State.requestPullReject
  split
  · split
    · next hc => exact (SameStrip.setUnit (State.dwellMayChange_of_pull hc.1) u _).then rfl
    · exact .of_stage rfl
  · exact .of_stage rfl

theorem SameStrip.pullMark (u : Nat) (o : PullOutcome) (s : State) : SameStrip s (s.pullMark u o) := by
  unfold State.pullMark
  split
  · split
    · next hc => exact SameStrip.setUnit (State.dwellMayChange_of_pull hc) u _
    · exact .of_stage rfl
  · exact .of_stage rfl

theorem SameStrip.completeWire (f : WireInFlight) (s : State) : SameStrip s (s.completeWire f) := by
  unfold State.completeWire
  split
  · split
    · next hc => exact (SameStrip.setUnit (State.dwellMayChange_of_work hc.1) f.unit _).then rfl
    · exact .of_stage rfl
  · exact .of_stage rfl

/-- Another record on a stage that has one, in a state that lets work change it. -/
theorem SameStrip.of_record {s t : State} {x : StripRecord} (hl : s.workMayChange ≠ false) (hr : s.stage.record.isSome = true)
    (h : t.stage = { s.stage with record := some x }) : SameStrip s t where
  state := by rw [h]
  record := by rw [h, hr]; rfl
  assembly := by rw [h]
  kept := by rw [h]
  frozen hs := by simp [State.dwellMayChange_of_work (Bool.eq_true_of_not_eq_false hl)] at hs

theorem SameStrip.addSuspect (u w : Nat) (cause : SuspectCause) (s : State) : SameStrip s (s.addSuspect u w cause) := by
  unfold State.addSuspect
  split
  · next r hr =>
    split
    · next t _ =>
      split
      · exact .of_stage rfl
      · next hc =>
        have hl : s.workMayChange ≠ false := fun h => hc (.inl h)
        split
        · exact .of_record hl (by rw [hr]; rfl) rfl
        · exact .of_record (x := { r with tracked := some { t with dropped := bump Config.byteCap t.dropped } }) hl
            (by rw [hr]; rfl) (by simp)
    · exact .of_stage rfl
  · exact .of_stage rfl

theorem SameStrip.askSuspect (u w : Nat) (cause : SuspectCause) (s : State) : SameStrip s (s.askSuspect u w cause) := by
  unfold State.askSuspect
  split
  · exact .addSuspect ..
  · exact .of_stage rfl

theorem SameStrip.abortWire (s : State) : SameStrip s s.abortWire := by
  unfold State.abortWire
  dsimp only
  split
  · split
    · next f _ => exact (SameStrip.requestReject f.unit .aborted s).then (by simp)
    · exact .of_stage rfl
  · exact .of_stage rfl

theorem SameStrip.enterStopped (s : State) : SameStrip s s.enterStopped := by
  unfold State.enterStopped
  have h1 : SameStrip s s.stopRollCall.abortWire := (SameStrip.of_stage (by simp)).trans (.abortWire _)
  have h2 : SameStrip s s.stopRollCall.abortWire.abandonPull.haltIndex :=
    (h1.then (u := s.stopRollCall.abortWire.abandonPull) (by simp)).trans (.of_eq (by simp) (by simp) (by simp) (by simp))
  exact h2.then (by simp)

theorem SameStrip.bondConsequence (o : BondOutcome) (b : Bool) (u w : Nat) (s : State) :
    SameStrip s (s.bondConsequence o b u w) := by
  unfold State.bondConsequence
  split
  · exact .requestReject ..
  · exact .requestReject ..
  · split
    · exact .askSuspect ..
    · exact .requestReject ..
  · exact .askSuspect ..
  · exact .askSuspect ..
  · exact .askSuspect ..
  · exact .of_stage rfl

theorem SameStrip.markUnit (x : PullResult) (s : State) : SameStrip s (s.markUnit x) := by
  unfold State.markUnit
  split
  · exact .of_stage rfl
  · dsimp only
    split
    · exact (SameStrip.pullMark ..).trans (.requestPullReject ..)
    · exact .pullMark ..

theorem SameStrip.decidePull (f : PullInFlight) (o : PullOutcome) (b : BreakCode) (s : State) :
    SameStrip s (s.decidePull f o b) := by
  unfold State.decidePull
  split
  · next r _ =>
    refine ((SameStrip.of_stage (t := s.enterPair (resultOf r f o b)) (by simp)).trans (.markUnit (resultOf r f o b) _)).then ?_
    simp [State.makeResult]
  · exact .of_stage (by simp)

theorem SameStrip.setDwellFlag (s : State) : SameStrip s s.setDwellFlag := by
  unfold State.setDwellFlag
  split
  · next h => exact ⟨rfl, by simp, rfl, rfl, fun hs => by rw [h] at hs; simp at hs⟩
  · exact .of_stage rfl

/-! ## How a strip moves -/

/-- The changes of stage state that leave the record, other than its coming and going (R39, R43, R46 to R48, R50). -/
def StageStep (a b : StageState) : Prop :=
  (a = .loaded ∧ b = .finished) ∨ (a = .finished ∧ b = .offering) ∨ (a = .offering ∧ b = .finished) ∨
    (a = .offering ∧ b = .handing) ∨ (a = .handing ∧ b = .finished)

/-- All that a command's work, a STOP aside, can do to the strip on the stage (R38 to R57). -/
inductive StripMove (s t : State) : Prop
  /-- the strip stays -/
  | stays (h : SameStrip s t)
  /-- the stage is emptied -/
  | emptied (hstate : t.stage.state = .empty) (hrecord : t.stage.record = none) (hassembly : t.stage.assembly = none)
      (hkept : t.stage.kept = none)
  /-- a strip is taken -/
  | taken (hfrom : s.stage.state = .receiving ∨ s.stage.state = .empty ∨ s.stage.state = .feeding)
      (hstate : t.stage.state = .loaded) (hrecord : t.stage.record.isSome = true) (hassembly : t.stage.assembly = none)
      (hkept : t.stage.kept = none)
  /-- the stage state changes, the record stays -/
  | steps (hstate : StageStep s.stage.state t.stage.state) (hrecord : t.stage.record = s.stage.record)
      (hassembly : t.stage.assembly = s.stage.assembly) (hkept : t.stage.kept = s.stage.kept)
  /-- the record is closed on entry to UNLOADING -/
  | closed (hfrom : s.stage.state = .finished) (hstate : t.stage.state = .unloading) (hrecord : t.stage.record.isSome = true)
      (hassembly : t.stage.assembly = s.stage.assembly) (hkept : t.stage.kept = s.stage.kept)
  /-- an empty stage begins to feed -/
  | feeds (hfrom : s.stage.state = .empty) (hstate : t.stage.state = .feeding) (hrecord : t.stage.record = s.stage.record)
      (hassembly : t.stage.assembly = s.stage.assembly) (hkept : t.stage.kept = s.stage.kept)
  /-- an empty stage answers an OFFER, or a receiving one takes a part -/
  | receives (hfrom : s.stage.state = .empty ∨ s.stage.state = .receiving) (hstate : t.stage.state = .receiving)
      (hrecord : t.stage.record = s.stage.record) (hassembly : t.stage.assembly.isSome = true)
      (hkept : t.stage.kept.isSome = true)

theorem StripMove.of_stage {s t : State} (h : t.stage = s.stage) : StripMove s t := .stays (.of_stage h)

/-- What follows a move and leaves the stage alone. -/
theorem StripMove.then {s t u : State} (h : StripMove s t) (hu : u.stage = t.stage) : StripMove s u := by
  cases h with
  | stays h => exact .stays (h.then hu)
  | emptied h1 h2 h3 h4 => exact .emptied (by rw [hu, h1]) (by rw [hu, h2]) (by rw [hu, h3]) (by rw [hu, h4])
  | taken h h1 h2 h3 h4 => exact .taken h (by rw [hu, h1]) (by rw [hu, h2]) (by rw [hu, h3]) (by rw [hu, h4])
  | steps h1 h2 h3 h4 => exact .steps (by rw [hu]; exact h1) (by rw [hu, h2]) (by rw [hu, h3]) (by rw [hu, h4])
  | closed h h1 h2 h3 h4 => exact .closed h (by rw [hu, h1]) (by rw [hu, h2]) (by rw [hu, h3]) (by rw [hu, h4])
  | feeds h h1 h2 h3 h4 => exact .feeds h (by rw [hu, h1]) (by rw [hu, h2]) (by rw [hu, h3]) (by rw [hu, h4])
  | receives h h1 h2 h3 h4 => exact .receives h (by rw [hu, h1]) (by rw [hu, h2]) (by rw [hu, h3]) (by rw [hu, h4])

/-- A move from a state with the same strip. -/
theorem StripMove.from {r s t : State} (h1 : r.stage.state = s.stage.state) (h2 : r.stage.record = s.stage.record)
    (h3 : r.stage.assembly = s.stage.assembly) (h4 : r.stage.kept = s.stage.kept) (h : StripMove r t) : StripMove s t := by
  cases h with
  | stays h => exact .stays ((SameStrip.of_eq h1 h2 h3 h4).trans h)
  | emptied k1 k2 k3 k4 => exact .emptied k1 k2 k3 k4
  | taken h k1 k2 k3 k4 => exact .taken (by rw [← h1]; exact h) k1 k2 k3 k4
  | steps k1 k2 k3 k4 => exact .steps (by rw [← h1]; exact k1) (k2.trans h2) (k3.trans h3) (k4.trans h4)
  | closed h k1 k2 k3 k4 => exact .closed (by rw [← h1]; exact h) k1 k2 (k3.trans h3) (k4.trans h4)
  | feeds h k1 k2 k3 k4 => exact .feeds (by rw [← h1]; exact h) k1 (k2.trans h2) (k3.trans h3) (k4.trans h4)
  | receives h k1 k2 k3 k4 => exact .receives (by rw [← h1]; exact h) k1 (k2.trans h2) k3 k4

theorem StripMove.emptyStage (s : State) : StripMove s s.emptyStage := .emptied (by simp) (by simp) (by simp) (by simp)

theorem StripMove.takeStrip {s : State} (h : s.stage.state = .receiving ∨ s.stage.state = .empty ∨ s.stage.state = .feeding)
    (r : StripRecord) (c : Nat) : StripMove s (s.takeStrip r c) :=
  .taken h (by simp) (by simp) (by simp) (by simp)

/-- R50, R54, R145: what a RESUME press, or the end of an unloading push, does to the strip. -/
theorem StripMove.finishUnload (p : Pusher) (s : State) : StripMove s (s.finishUnload p) := by
  unfold State.finishUnload
  split
  · exact .emptied (by simp) (by simp) (by simp) (by simp)
  · exact .of_stage rfl

theorem StripMove.resumeSender (x : StripSensors) (s : State) : StripMove s (s.resumeSender x) := by
  unfold State.resumeSender
  split
  · next h =>
    split
    · exact .of_stage rfl
    · exact .emptyStage s
    · exact .steps (by simp [StageStep, h.1]) (by simp) (by simp) (by simp)
  · exact .of_stage rfl

theorem StripMove.giveUpTransfer (s : State) : StripMove s s.giveUpTransfer := by
  unfold State.giveUpTransfer
  exact .emptied (by simp) (by simp) (by simp) (by simp)

theorem StripMove.resumeReceiver (s : State) : StripMove s s.resumeReceiver := by
  unfold State.resumeReceiver
  split
  · exact .giveUpTransfer s
  · exact .of_stage rfl

theorem StripMove.releaseOutput (x : StripSensors) (s : State) : StripMove s (s.releaseOutput x) := by
  unfold State.releaseOutput
  split
  · split
    · exact .of_stage rfl
    · exact .finishUnload _ s
    · exact .of_stage (by simp)
  · exact .of_stage rfl

theorem StripMove.restartStage (s : State) : StripMove s s.restartStage := by
  unfold State.restartStage
  dsimp only
  split
  · next h => exact .steps (by simp_all [StageStep]) (by simp) (by simp) (by simp)
  · next h =>
    split
    · exact .steps (by simp_all [StageStep]) (by simp) (by simp) (by simp)
    · exact .stays (.of_eq (by simp) (by simp) (by simp) (by simp))
    · exact .emptied (by simp) (by simp) (by simp) (by simp)
    · exact .stays (.of_eq (by simp) (by simp) (by simp) (by simp))
  · exact .emptied (by simp [State.giveUpTransfer]) (by simp [State.giveUpTransfer]) (by simp [State.giveUpTransfer])
      (by simp [State.giveUpTransfer])
  · exact .stays (.of_eq (by simp) (by simp) (by simp) (by simp))

/-! ### What the frames do -/

theorem StripMove.answerOffer (k : Nat) (o : OfferPayload) (s : State) : StripMove s (s.answerOffer k o) := by
  unfold State.answerOffer
  split
  · exact .of_stage (by simp)
  · next h =>
    have hempty : s.stage.state = .empty := by
      unfold State.refusal at h
      (repeat' split at h) <;> simp_all
    exact .receives (.inl hempty) (by simp) (by simp) (by simp) (by simp)

theorem StripMove.beginHanding {r : StripRecord} {s : State} (h : s.stage.state = .offering) :
    StripMove s (s.beginHanding r) := by
  unfold State.beginHanding
  exact .steps (by simp [StageStep, h]) (by simp) (by simp) (by simp)

theorem StripMove.takeFrame (k : Nat) (p : TakePayload) (s : State) :
    StripMove s (match s.stage.record with
      | some r => if s.takeMatches k p r then s.beginHanding r else s
      | none => s) := by
  split
  · split
    · next h =>
      have ho : s.stage.state = .offering := by simp [State.takeMatches] at h; exact h.1
      exact .beginHanding ho
    · exact .of_stage rfl
  · exact .of_stage rfl

theorem StripMove.offerClosed {s : State} (h : s.stage.state = .offering) (timer : Timer) :
    StripMove s (s.offerClosed timer) :=
  .steps (by simp [StageStep, h]) (by simp) (by simp) (by simp)

theorem StripMove.refuseFrame (k : Nat) (p : RefusePayload) (s : State) :
    StripMove s (if s.stage.state = .offering ∧ k = s.straps.station + 1 ∧ p.offerNumber = s.stage.offerNumber then
      s.offerClosed .stopped else s) := by
  split
  · next h => exact .offerClosed h.1 _
  · exact .of_stage rfl

theorem StripMove.pullResult (p : PullResult) (s : State) : StripMove s ((s.learnResult p).fileResult p) := .of_stage (by simp)

theorem StripMove.spoolConfirm (s : State) : StripMove s s.spoolConfirm := by
  unfold State.spoolConfirm State.judgeCover
  dsimp only
  (repeat' split) <;> exact .stays (.of_eq (by simp) (by simp) (by simp) (by simp))

theorem StripMove.closeHandoff (s : State) : StripMove s s.closeHandoff := by
  unfold State.closeHandoff
  exact .emptied (by simp) (by simp) (by simp) (by simp)

theorem StripMove.arrivedFrame (k : Nat) (p : ArrivedPayload) (s : State) :
    StripMove s (if s.stage.state = .handing ∧ k = s.straps.station + 1 ∧ p.offerNumber = s.stage.offerNumber ∧
        p.lineSeq = s.recordSeq then s.closeHandoff else s) := by
  split
  · exact .closeHandoff s
  · exact .of_stage rfl

theorem StripMove.takeRecordPart (k : Nat) (p : RecordPayload) (s : State) : StripMove s (s.takeRecordPart k p) := by
  unfold State.takeRecordPart
  split
  · next hkept _ =>
    split
    · next h => exact .receives (.inr h.1) (by simp [h.1]) (by simp) (by simp) (by simp [hkept])
    · exact .of_stage rfl
  · exact .of_stage rfl

/-! ### What the other commands do -/

theorem StripMove.leaveStep {s : State} (h : s.stage.state = .loaded) : StripMove s s.leaveStep := by
  unfold State.leaveStep
  split
  · split
    · exact .of_stage rfl
    · exact .stays (.of_eq (by simp) (by simp) (by simp) (by simp))
  · exact .steps (by simp [StageStep, h]) (by simp) (by simp) (by simp)

theorem StripMove.feedingEnd {s : State} (h : s.stage.state = .feeding) : StripMove s s.feedingEnd := by
  unfold State.feedingEnd
  split
  · exact .taken (.inr (.inr h)) (by simp) (by simp) (by simp) (by simp)
  · exact .of_stage rfl

theorem StripMove.takeUntracked {s : State} (h : s.stage.state = .receiving ∨ s.stage.state = .empty) (x : Serial) (q c : Nat) :
    StripMove s (s.takeUntracked x q c) :=
  (StripMove.takeStrip (h.imp_right .inl) (untrackedRecord x q) c).then (by simp [State.takeUntracked])

theorem StripMove.arriveReceiving {s : State} (h : s.stage.state = .receiving) (k : KeptOffer) (a : RecordAssembly) :
    StripMove s (s.arriveReceiving k a) := by
  unfold State.arriveReceiving
  split
  · next r _ => exact (StripMove.takeStrip (.inl h) r 1).then (by simp)
  · exact (StripMove.takeUntracked (.inl h) k.offer.serial k.offer.lineSeq 1).then (by simp)

theorem StripMove.arriveEmpty {s : State} (h : s.stage.state = .empty) : StripMove s s.arriveEmpty := by
  unfold State.arriveEmpty
  split
  · next n _ => exact (StripMove.takeUntracked (.inr h) n.serial n.lineSeq 1).then (by simp)
  · exact .takeUntracked (.inr h) _ _ _

@[simp] theorem State.columnDone_strip (s : State) :
    s.columnDone.stage.state = s.stage.state ∧ s.columnDone.stage.record = s.stage.record ∧
      s.columnDone.stage.assembly = s.stage.assembly ∧ s.columnDone.stage.kept = s.stage.kept := by
  unfold State.columnDone
  split <;> simp

theorem SameStrip.tryPush (s : State) : SameStrip s s.tryPush := by
  unfold State.tryPush
  (repeat' split) <;> exact .of_eq (by simp) (by simp) (by simp) (by simp)

theorem SameStrip.notePartLeft (e : TxEntry) (s : State) : SameStrip s (s.notePartLeft e) := by
  unfold State.notePartLeft
  split
  · refine SameStrip.trans ?_ (.tryPush _)
    exact .of_eq rfl rfl rfl rfl
  · exact .of_stage rfl

theorem SameStrip.raisedReject (i : Nat) (d : Detail) (u : Nat) (cause : RejectCause) (s : State) :
    SameStrip s ((s.raiseAlarm i d).requestReject u cause) := (SameStrip.of_stage (by simp)).trans (.requestReject ..)

theorem SameStrip.judgePullSample (f : PullInFlight) (l : LocatorCode) (s : State) : SameStrip s (s.judgePullSample f l) := by
  unfold State.judgePullSample
  dsimp only
  split
  · refine SameStrip.trans ?_ (.decidePull ..)
    exact .of_stage rfl
  · split <;> exact .of_stage rfl

/-- The commands whose work may be ended by a STOP, or that several works make up: what they do is said elsewhere. -/
def isComposite : Instr → Bool
  | .powerOn .. | .ackKey | .resumeKey _ | .warmRestart | .pullResultFrame .. => true
  | .offerFrame .. | .takeFrame .. | .refuseFrame .. | .arrivedFrame .. | .recordFrame .. => true
  | c => isNews c

/-- Every other command does one thing to the strip. -/
theorem exec_stripMove {c : Instr} {s t : State} (hc : isComposite c = false) (h : exec c s = .next t) : StripMove s t := by
  cases c with
  | frameSendEnd =>
    obtain rfl : _ = t := Host.Outcome.next.inj h
    clear h
    split
    · exact .stays (SameStrip.trans (.of_stage (by dsimp only; split <;> simp)) (.notePartLeft _ _))
    · exact .of_stage rfl
  | dwellLimitReached =>
    obtain rfl : _ = t := Host.Outcome.next.inj h
    clear h
    split
    · refine .stays (SameStrip.trans ?_ (.setDwellFlag _))
      exact .of_eq (by simp) (by simp) (by simp) (by simp)
    · exact .of_stage rfl
  | indexMotionEnd =>
    obtain rfl : _ = t := Host.Outcome.next.inj h
    clear h
    split
    · exact .stays (.of_eq (by simp) (by simp) (by simp) (by simp))
    · exact .of_stage rfl
  | offerSend =>
    obtain rfl : _ = t := Host.Outcome.next.inj h
    clear h
    split
    · split
      · next hm =>
        have hf : s.stage.state = .finished := by simp [State.mayOffer] at hm; tauto
        exact .steps (by simp [StageStep, hf]) (by simp) (by simp) (by simp)
      · exact .of_stage rfl
    · exact .of_stage rfl
  | offerTimerExpiry =>
    obtain rfl : _ = t := Host.Outcome.next.inj h
    clear h
    split
    · next ho => exact .offerClosed ho _
    · exact .of_stage rfl
  | senderTransferTimeout | receiverTransferTimeout =>
    obtain rfl : _ = t := Host.Outcome.next.inj h
    clear h
    (repeat' split) <;> exact .stays (.of_eq (by simp) (by simp) (by simp) (by simp))
  | stageChooseWork =>
    obtain rfl : _ = t := Host.Outcome.next.inj h
    clear h
    split
    · exact .of_stage rfl
    next hl =>
    have hloaded : s.stage.state = .loaded := by tauto
    have hleave : StripMove s s.columnDone.leaveStep :=
      .from (by simp) (by simp) (by simp) (by simp) (.leaveStep (s := s.columnDone) (by simpa using hloaded))
    split
    · split
      · exact .stays (.of_eq rfl rfl rfl rfl)
      · exact .stays (.of_eq (by simp [State.startIndex]) (by simp [State.startIndex]) (by simp [State.startIndex])
          (by simp [State.startIndex]))
    · exact hleave
    · exact hleave
    · exact .of_stage rfl
  | auditWaitChoose =>
    obtain rfl : _ = t := Host.Outcome.next.inj h
    clear h
    (repeat' split) <;> exact .stays (.of_eq rfl rfl rfl rfl)
  | arrival =>
    obtain rfl : _ = t := Host.Outcome.next.inj h
    clear h
    split
    · next hr =>
      split
      · exact .arriveReceiving hr _ _
      · exact .of_stage rfl
    · next he => exact .arriveEmpty he
    · next hf => exact .feedingEnd hf
    · exact .of_stage rfl
  | stripLeft =>
    obtain rfl : _ = t := Host.Outcome.next.inj h
    clear h
    have hdwell : StripMove s s.stopDwell := .stays (.of_eq (by simp) (by simp) (by simp) (by simp))
    split
    · split
      · unfold State.handoffLeft
        dsimp only
        split
        · exact .emptied (by simp) (by simp) (by simp) (by simp)
        · exact .stays (.of_eq (by simp) (by simp) (by simp) (by simp))
      · exact hdwell
      · exact .of_stage rfl
    · split
      · exact .finishUnload _ s
      · exact hdwell
    · exact .of_stage rfl
  | unloadStart =>
    obtain rfl : _ = t := Host.Outcome.next.inj h
    clear h
    split
    · next n r hslot hr =>
      split
      · exact .of_stage (by simp)
      · have hf : s.stage.state = .finished := by
          unfold State.unloadSlot? at hslot
          split at hslot
          · next hc => exact hc.2.1
          · simp at hslot
        exact .closed hf (by simp [State.startUnloadPush]) (by simp [State.startUnloadPush]) (by simp [State.startUnloadPush])
          (by simp [State.startUnloadPush])
    · exact .of_stage rfl
  | unloadingPushRetry | unloadingPushTimeout =>
    obtain rfl : _ = t := Host.Outcome.next.inj h
    clear h
    (repeat' split) <;> exact .stays (.of_eq (by simp [State.startUnloadPush]) (by simp [State.startUnloadPush])
      (by simp [State.startUnloadPush]) (by simp [State.startUnloadPush]))
  | feedingPushStart =>
    obtain rfl : _ = t := Host.Outcome.next.inj h
    clear h
    split
    · next n m hslot _ =>
      split
      · have hf : s.stage.state = .empty := by
          unfold State.feedSlot? at hslot
          split at hslot
          · split at hslot
            · next hc => exact hc.2.1
            · simp at hslot
          · simp at hslot
        exact .feeds hf (by simp) (by simp) (by simp) (by simp)
      · exact .of_stage (by simp)
    · exact .of_stage rfl
  | feedingPushTimeout =>
    obtain rfl : _ = t := Host.Outcome.next.inj h
    clear h
    split
    · split
      · exact .emptied (by simp) (by simp) (by simp) (by simp)
      · exact .of_stage rfl
    · exact .of_stage rfl
  | pusherReturnToRest =>
    obtain rfl : _ = t := Host.Outcome.next.inj h
    clear h
    split
    · exact .of_stage (by split <;> rfl)
    · split
      · refine .stays (SameStrip.trans ?_ (.tryPush _))
        exact .of_eq rfl rfl rfl rfl
      · exact .of_stage rfl
  | wireCycleStart | pullCycleStart =>
    obtain rfl : _ = t := Host.Outcome.next.inj h
    clear h
    (repeat' (split <;> try dsimp only)) <;> exact .stays (.of_eq (by simp) (by simp) (by simp) (by simp))
  | searchFirstLimit =>
    obtain rfl : _ = t := Host.Outcome.next.inj h
    clear h
    split
    · next f _ =>
      split
      · exact .stays ((SameStrip.requestReject f.unit .noSurface s).then (by simp))
      · exact .of_stage rfl
    · exact .of_stage rfl
  | searchSecondLimit =>
    obtain rfl : _ = t := Host.Outcome.next.inj h
    clear h
    split
    · next f _ =>
      split
      · exact .stays ((SameStrip.raisedReject Source.searchFail2 (.unitWire f.unit f.wire) f.unit .noSurface s).then (by simp))
      · exact .of_stage rfl
    · exact .of_stage rfl
  | loopLiftInPosition =>
    obtain rfl : _ = t := Host.Outcome.next.inj h
    clear h
    split
    · next f _ =>
      split
      · split
        · exact .of_stage rfl
        · exact .stays ((SameStrip.raisedReject Source.nonStick1 (.unitWire f.unit f.wire) f.unit .nonStick1 s).then (by simp))
      · exact .of_stage rfl
    · exact .of_stage rfl
  | tailRiseInPosition =>
    obtain rfl : _ = t := Host.Outcome.next.inj h
    clear h
    split
    · next f _ =>
      split
      · split
        · exact .of_stage rfl
        · exact .stays ((SameStrip.raisedReject Source.nonStick2 (.unitWire f.unit f.wire) f.unit .nonStick2 s).then (by simp))
      · exact .of_stage rfl
    · exact .of_stage rfl
  | tailingEnd =>
    obtain rfl : _ = t := Host.Outcome.next.inj h
    clear h
    split
    · next f hf =>
      split
      · refine .stays (((SameStrip.of_stage (t := s.debit) (by simp)).trans (.completeWire f _)).then rfl)
      · exact .of_stage rfl
    · exact .of_stage rfl
  | bondSample z g =>
    obtain rfl : _ = t := Host.Outcome.next.inj h
    clear h
    split
    · next b f _ _ =>
      split
      · dsimp only
        split
        · next o _ =>
          have hc : SameStrip s (s.closeBond (b.sampled z g) o) := .of_stage rfl
          exact .stays ((hc.trans (.bondConsequence o (b.sampled z g).saturated f.unit f.wire _)).then (by simp))
        · exact .of_stage rfl
      · exact .of_stage rfl
    · exact .of_stage rfl
  | loadCellSample =>
    obtain rfl : _ = t := Host.Outcome.next.inj h
    clear h
    split
    · split
      · split
        · exact .of_stage rfl
        · exact .stays (.judgePullSample ..)
      · exact .of_stage rfl
    · exact .of_stage rfl
  | holdTimerExpiry | liftTravelLimit =>
    obtain rfl : _ = t := Host.Outcome.next.inj h
    clear h
    split
    · split
      · exact .stays (.decidePull ..)
      · exact .of_stage rfl
    · exact .of_stage rfl
  | _ => exact .of_stage ((exec_keepsBut h).stage (by simp_all [blocksOf, isComposite, isNews]))

/-! ## A record exactly where a strip is held (R1, R51) -/

/-- In the states that hold a record there is one, and no assembly and no OFFER answered. -/
theorem State.RecordInv.held {s : State} (h : s.RecordInv) (hs : HoldsRecord s.stage.state) :
    s.stage.record.isSome = true ∧ s.stage.assembly.isSome = false ∧ s.stage.kept.isSome = false := by
  refine ⟨h.record.2 hs, ?_, ?_⟩
  · exact Bool.eq_false_iff.2 fun ha => hs.2.2 (h.assembly.1 ha)
  · exact Bool.eq_false_iff.2 fun hk => hs.2.2 (h.kept.1 hk)

theorem State.RecordInv.of_held {s : State} (hs : HoldsRecord s.stage.state) (hr : s.stage.record.isSome = true)
    (ha : s.stage.assembly.isSome = false) (hk : s.stage.kept.isSome = false) : s.RecordInv where
  record := by simp [hr, hs]
  assembly := by simp [ha, hs.2.2]
  kept := by simp [hk, hs.2.2]

/-- No move of the strip parts the record from the stage state. -/
theorem State.RecordInv.move {s t : State} (h : s.RecordInv) (m : StripMove s t) : t.RecordInv := by
  cases m with
  | stays m =>
    exact ⟨by rw [m.record, m.state]; exact h.record, by rw [m.assembly, m.state]; exact h.assembly,
      by rw [m.kept, m.state]; exact h.kept⟩
  | emptied h1 h2 h3 h4 => exact ⟨by simp [h1, h2, HoldsRecord], by simp [h1, h3], by simp [h1, h4]⟩
  | taken _ h1 h2 h3 h4 => exact .of_held (by simp [h1, HoldsRecord]) h2 (by simp [h3]) (by simp [h4])
  | steps h1 h2 h3 h4 =>
    have hs : HoldsRecord s.stage.state ∧ HoldsRecord t.stage.state := by
      rcases h1 with ⟨a, b⟩ | ⟨a, b⟩ | ⟨a, b⟩ | ⟨a, b⟩ | ⟨a, b⟩ <;> simp [a, b, HoldsRecord]
    obtain ⟨hr, ha, hk⟩ := h.held hs.1
    exact .of_held hs.2 (by rw [h2, hr]) (by rw [h3, ha]) (by rw [h4, hk])
  | closed h1 h2 h3 h4 h5 =>
    obtain ⟨_, ha, hk⟩ := h.held (by simp [h1, HoldsRecord])
    exact .of_held (by simp [h2, HoldsRecord]) h3 (by rw [h4, ha]) (by rw [h5, hk])
  | feeds h1 h2 h3 h4 h5 =>
    refine ⟨?_, ?_, ?_⟩
    · rw [h3, h.record, h1, h2]; simp [HoldsRecord]
    · rw [h4, h.assembly, h1, h2]; simp
    · rw [h5, h.kept, h1, h2]; simp
  | receives h1 h2 h3 h4 h5 =>
    refine ⟨?_, by simp [h2, h4], by simp [h2, h5]⟩
    rw [h3, h.record, h2]
    rcases h1 with h1 | h1 <;> simp [h1, HoldsRecord]

theorem State.RecordInv.outlastsStop : OutlastsStop State.RecordInv where
  calm h hs := by
    obtain ⟨h1, h2, h3, h4⟩ := h.stage
    exact hs.move (.stays (.of_eq h1 h2 h3 h4))
  stop hs := hs.move (.stays (.enterStopped _))

/-- The warm restart's, the keys' and the frames' own work is made of moves of the strip. -/
theorem State.RecordInv.exec {c : Instr} {s t : State} (hs : s.RecordInv) (h : exec c s = .next t) : t.RecordInv := by
  have hP := State.RecordInv.outlastsStop
  by_cases hn : isNews c = true
  · exact hP.exec_isNews hn h hs
  by_cases hc : isComposite c = false
  · exact hs.move (exec_stripMove hc h)
  cases c with
  | powerOn p r =>
    have hr : State.RecordInv { State.reset with straps := p, pending := s.pending } := ⟨by simp [State.reset, StageUnit.initial, HoldsRecord], by simp [State.reset, StageUnit.initial], by simp [State.reset, StageUnit.initial]⟩
    obtain rfl : _ = t := Host.Outcome.next.inj h
    refine hr.move (StripMove.then (t := State.senseStrip r.strip { State.reset with straps := p, pending := s.pending }) ?_ ?_)
    · unfold State.senseStrip
      split
      · exact .takeUntracked (.inr rfl) _ _ _
      · exact .of_stage rfl
    · (repeat' split) <;> simp
  | ackKey =>
    exact hP.exec_ackKey (fun r hr => hr.move (.spoolConfirm r)) (fun r hr => hr.move (.of_stage r.takeFailure_frame.2.2.2.2.2.1)) h hs
  | resumeKey x =>
    refine hP.exec_resumeKey (fun r hr => ?_) h hs
    have h2 := (hr.move (.resumeSender x r)).move (.resumeReceiver _)
    exact (h2.move (.of_stage (t := (r.resumeSender x).resumeReceiver.releaseInput) (by simp))).move (.releaseOutput x _)
  | warmRestart => exact hP.exec_warmRestart (fun r hr => hr.move (.restartStage r)) h hs
  | pullResultFrame =>
    obtain rfl : _ = t := Host.Outcome.next.inj h
    exact hP.hear _ _ (fun r hr => hr.move (.pullResult ..)) hs
  | offerFrame =>
    obtain rfl : _ = t := Host.Outcome.next.inj h
    exact hP.hear_outsideBoot _ _ (fun r hr => hr.move (.answerOffer ..)) hs
  | takeFrame =>
    obtain rfl : _ = t := Host.Outcome.next.inj h
    exact hP.hear_outsideBoot _ _ (fun r hr => hr.move (.takeFrame ..)) hs
  | refuseFrame =>
    obtain rfl : _ = t := Host.Outcome.next.inj h
    exact hP.hear_outsideBoot _ _ (fun r hr => hr.move (.refuseFrame ..)) hs
  | arrivedFrame =>
    obtain rfl : _ = t := Host.Outcome.next.inj h
    exact hP.hear_outsideBoot _ _ (fun r hr => hr.move (.arrivedFrame ..)) hs
  | recordFrame =>
    obtain rfl : _ = t := Host.Outcome.next.inj h
    exact hP.hear_outsideBoot _ _ (fun r hr => hr.move (.takeRecordPart ..)) hs
  | _ => simp [isComposite, isNews] at hc hn

/-- Settles O57: a step runs one command, and each keeps record, assembly and stage state together. -/
theorem recordExactlyWhileStripHeld : Obligations.RecordExactlyWhileStripHeld := by
  intro s t hs h
  obtain rfl | ⟨c, q, hc⟩ := step_cases h
  · exact hs
  · exact State.RecordInv.exec (s := s.withPending q) (hs.move (.of_stage rfl)) hc

/-! ## A record in HANDING (R13, R17) -/

/-- What a record `r` frozen in HANDING comes to within one command: it is kept, in HANDING or taken back, or discarded. -/
def State.KeptOrGone (r : Option StripRecord) (s : State) : Prop :=
  (s.stage.record = r ∧ (s.stage.state = .handing ∨ s.stage.state = .finished)) ∨
    (s.stage.record = none ∧ s.stage.state = .empty)

/-- R4, R13: a STOP rejects no unit but on a LOADED stage. -/
theorem State.enterStopped_record {s : State} (h : s.stage.state ≠ .loaded) : s.enterStopped.stage.record = s.stage.record := by
  have hr (u : Nat) (c : RejectCause) (r : State) (hs : r.stage = s.stage) : r.requestReject u c = r := by
    unfold State.requestReject
    split
    · rw [if_neg]
      simp [State.workMayChange, hs, h]
    · rfl
  unfold State.enterStopped State.abortWire
  dsimp only
  (repeat' split) <;> simp [hr]

theorem State.KeptOrGone.outlastsStop (r : Option StripRecord) : OutlastsStop (State.KeptOrGone r) where
  calm h hs := by
    obtain ⟨h1, h2, -, -⟩ := h.stage
    simpa [State.KeptOrGone, h1, h2] using hs
  stop {s} hs := by
    have hl : s.stage.state ≠ .loaded := by rcases hs with ⟨-, h | h⟩ | ⟨-, h⟩ <;> simp [h]
    simpa [State.KeptOrGone, State.enterStopped_record hl] using hs

/-- A move that ends in a kept or a discarded record. -/
theorem State.KeptOrGone.move {r : Option StripRecord} {s t : State} (hs : s.stage.record = r) (hh : s.stage.state = .handing)
    (m : StripMove s t) : t.KeptOrGone r := by
  cases m with
  | stays m => exact .inl ⟨(m.frozen (by simp [State.dwellMayChange, State.pullMayChange, hh])).trans hs, .inl (m.state.trans hh)⟩
  | emptied h1 h2 _ _ => exact .inr ⟨h2, h1⟩
  | taken h => rw [hh] at h; simp at h
  | steps h1 h2 _ _ => exact .inl ⟨h2.trans hs, .inr (by simpa [StageStep, hh] using h1)⟩
  | closed h => rw [hh] at h; simp at h
  | feeds h => rw [hh] at h; simp at h
  | receives h => rw [hh] at h; simp at h

theorem State.KeptOrGone.resumeSender {r : Option StripRecord} {s : State} (h : s.KeptOrGone r) (x : StripSensors) :
    (s.resumeSender x).KeptOrGone r := by
  by_cases hh : s.stage.state = .handing
  · have hr : s.stage.record = r := by
      rcases h with ⟨hr, -⟩ | ⟨-, he⟩
      · exact hr
      · simp [hh] at he
    exact .move hr hh (.resumeSender x s)
  · have he : s.resumeSender x = s := by
      unfold State.resumeSender
      rw [if_neg (fun c => hh c.1)]
    rwa [he]

theorem State.KeptOrGone.resumeReceiver {r : Option StripRecord} {s : State} (h : s.KeptOrGone r) :
    s.resumeReceiver.KeptOrGone r := by
  have he : s.resumeReceiver = s := by
    unfold State.resumeReceiver
    rw [if_neg]
    rintro ⟨hc, -⟩
    simp [State.KeptOrGone, hc] at h
  rwa [he]

theorem State.KeptOrGone.releaseOutput {r : Option StripRecord} {s : State} (h : s.KeptOrGone r) (x : StripSensors) :
    (s.releaseOutput x).KeptOrGone r := by
  unfold State.releaseOutput State.finishUnload
  (repeat' (split <;> try dsimp only))
  · exact h
  · exact .inr (by simp)
  · exact h
  · simpa [State.KeptOrGone] using h
  · exact h

theorem State.KeptOrGone.restartStage {r : Option StripRecord} {s : State} (h : s.KeptOrGone r) :
    s.restartStage.KeptOrGone r := by
  unfold State.restartStage
  dsimp only
  split
  · next hc => simp_all [State.KeptOrGone]
  · next hc =>
    have hr : s.stage.record = r := by
      rcases h with ⟨hr, -⟩ | ⟨-, he⟩
      · exact hr
      · simp_all
    split
    · exact .inl (by simp [hr])
    · exact .inl ⟨by simp [hr], .inl (by simpa using hc)⟩
    · exact .inr (by simp)
    · exact .inl ⟨by simp [hr], .inl (by simpa using hc)⟩
  · next hc => simp_all [State.KeptOrGone]
  · simpa [State.KeptOrGone] using h

/-- R171: a frame heard is answered, shows a duplicate station, or is handed on. -/
theorem State.hear_cases (k target : Nat) (handle : State → State) (s : State) :
    (∃ a, s.hear k target handle = s.answer a) ∨ s.hear k target handle = (s.answer true).duplicate ∨
      s.hear k target handle = handle (s.answer true) := by
  unfold State.hear
  split
  · exact .inl ⟨false, rfl⟩
  split
  · exact .inl ⟨true, rfl⟩
  split
  · exact .inr (.inl rfl)
  · exact .inr (.inr rfl)

/-- A frame whose handler moves the strip. -/
theorem State.KeptOrGone.hear {r : Option StripRecord} {s : State} (hs : s.stage.record = r) (hh : s.stage.state = .handing)
    (k target : Nat) {handle : State → State} (hm : ∀ u, StripMove u (handle u)) :
    (s.hear k target (State.outsideBoot handle)).KeptOrGone r := by
  have h0 (a : Bool) : (s.answer a).KeptOrGone r := .inl ⟨hs, .inl hh⟩
  rcases s.hear_cases k target (State.outsideBoot handle) with ⟨a, h⟩ | h | h <;> rw [h]
  · exact h0 a
  · exact (State.KeptOrGone.outlastsStop r).duplicate (h0 true)
  · exact State.outsideBoot_keeps (fun _ => .move (s := s.answer true) hs hh (hm _)) (h0 true)

theorem keptOrGone_of_exec {c : Instr} {s t : State} (h : exec c s = .next t) (hp : ∀ p r, c ≠ .powerOn p r)
    (hh : s.stage.state = .handing) : t.KeptOrGone s.stage.record := by
  have hP := State.KeptOrGone.outlastsStop s.stage.record
  have hs : s.KeptOrGone s.stage.record := .inl ⟨rfl, .inl hh⟩
  by_cases hn : isNews c = true
  · exact hP.exec_isNews hn h hs
  by_cases hc : isComposite c = false
  · exact .move rfl hh (exec_stripMove hc h)
  cases c with
  | powerOn p r => exact absurd rfl (hp p r)
  | ackKey =>
    refine hP.exec_ackKey (fun r hr => ?_) (fun r hr => ?_) h hs
    · unfold State.spoolConfirm State.judgeCover
      (repeat' (split <;> try dsimp only)) <;> simpa [State.KeptOrGone] using hr
    · simpa [State.KeptOrGone] using hr
  | resumeKey x =>
    refine hP.exec_resumeKey (fun r hr => .releaseOutput ?_ x) h hs
    simpa [State.KeptOrGone] using (hr.resumeSender x).resumeReceiver
  | warmRestart => exact hP.exec_warmRestart (fun r hr => hr.restartStage) h hs
  | pullResultFrame =>
    obtain rfl : _ = t := Host.Outcome.next.inj h
    exact hP.hear _ _ (fun r hr => by simpa [State.KeptOrGone] using hr) hs
  | offerFrame =>
    obtain rfl : _ = t := Host.Outcome.next.inj h
    exact .hear rfl hh _ _ (.answerOffer _ _)
  | takeFrame =>
    obtain rfl : _ = t := Host.Outcome.next.inj h
    exact .hear rfl hh _ _ (.takeFrame _ _)
  | refuseFrame =>
    obtain rfl : _ = t := Host.Outcome.next.inj h
    exact .hear rfl hh _ _ (.refuseFrame _ _)
  | arrivedFrame =>
    obtain rfl : _ = t := Host.Outcome.next.inj h
    exact .hear rfl hh _ _ (.arrivedFrame _ _)
  | recordFrame =>
    obtain rfl : _ = t := Host.Outcome.next.inj h
    exact .hear rfl hh _ _ (.takeRecordPart _ _)
  | _ => simp [isComposite, isNews] at hc hn

/-- Settles O5: a record in HANDING is kept or discarded, whatever the command. -/
theorem frozenRecordIsNotChanged : Obligations.FrozenRecordIsNotChanged := fun _ _ _ h hp hh =>
  (keptOrGone_of_exec h hp hh).imp And.left id

end Sys2Proof.Machine
end


section
/-! PROOFS. What each command keeps of the line unit (R131, R171 to R174), and of the head state (R26). -/

namespace Sys2Proof.Machine

/-! ## Sending (R171, R172, R174) -/

/-- A count over the queue that a change does not show in stays as it was. -/
theorem length_filter_changeFirst {p g : TxEntry → Bool} {f : TxEntry → TxEntry} (hf : ∀ e, g (f e) = g e) (q : List TxEntry) :
    ((changeFirst p f q).filter g).length = (q.filter g).length := by
  induction q with
  | nil => rfl
  | cons e es ih =>
    rw [changeFirst]
    split
    · simp only [List.filter_cons, hf]; split <;> rfl
    · simp only [List.filter_cons]; split <;> simp [ih]

theorem length_changeFirst (p : TxEntry → Bool) (f : TxEntry → TxEntry) (q : List TxEntry) :
    (changeFirst p f q).length = q.length := by
  simpa using length_filter_changeFirst (p := p) (f := f) (g := fun _ => true) (fun _ => rfl) q

theorem mem_changeFirst {p : TxEntry → Bool} {f : TxEntry → TxEntry} {q : List TxEntry} {e : TxEntry}
    (h : e ∈ changeFirst p f q) : e ∈ q ∨ ∃ x ∈ q, e = f x := by
  induction q with
  | nil => simp [changeFirst] at h
  | cons y ys ih =>
    rw [changeFirst] at h
    split at h
    · rcases List.mem_cons.1 h with rfl | h
      · exact .inr ⟨y, by simp, rfl⟩
      · exact .inl (by simp [h])
    · rcases List.mem_cons.1 h with rfl | h
      · exact .inl (by simp)
      · rcases ih h with h | ⟨x, hx, rfl⟩
        · exact .inl (by simp [h])
        · exact .inr ⟨x, by simp [hx], rfl⟩

/-- Of a queue with nothing on the line a change puts at most one frame there. -/
theorem length_filter_changeFirst_le {p g : TxEntry → Bool} {f : TxEntry → TxEntry} {q : List TxEntry} (h : q.filter g = []) :
    ((changeFirst p f q).filter g).length ≤ 1 := by
  induction q with
  | nil => simp [changeFirst]
  | cons y ys ih =>
    have hy : ¬g y = true := List.filter_eq_nil_iff.1 h y (by simp)
    have hys : ys.filter g = [] := by simpa [hy] using h
    rw [changeFirst]
    split
    · rw [List.filter_cons, hys]
      split <;> simp
    · rw [List.filter_cons, if_neg hy]
      exact ih hys

/-- R172: the frame selected goes on the line. -/
theorem LineUnit.Keeps.sendStart {l : LineUnit} (hq : l.sending = false) (p : TxEntry → Bool) (c : TxEntry → Payload) :
    l.Keeps { l with queue := changeFirst p (fun e => { e with onLine := some (c e) }) l.queue } where
  bounded h := by
    obtain ⟨hplaces, hbulk, honLine, hwaiting, hgiven, hunheard, hlost⟩ := h
    have hnone : l.queue.filter (fun e => e.onLine.isSome) = [] := by simpa [LineUnit.sending] using hq
    refine ⟨by simpa [length_changeFirst] using hplaces, ?_, length_filter_changeFirst_le hnone, hwaiting, ?_, hunheard, hlost⟩
    · have hcount := length_filter_changeFirst (p := p) (f := fun e => { e with onLine := some (c e) }) (g := TxEntry.isBulk)
        (fun _ => rfl) l.queue
      exact hcount.le.trans hbulk
    · intro e he hg
      rcases List.mem_append.1 he with he | he
      · rcases mem_changeFirst he with he | ⟨x, -, rfl⟩
        · exact hgiven e (by simp [he]) hg
        · rfl
      · exact hgiven e (by simp [he]) hg
  noResult := id
  roster := id

/-- R50, R172: after a lost contest nothing stands on the line, and no part given up is left. -/
theorem LineUnit.Keeps.contestLost (l : LineUnit) :
    l.Keeps { l with queue := (l.queue.filter TxEntry.staysQueued).map fun e => { e with onLine := none } } where
  bounded h := by
    obtain ⟨hplaces, hbulk, honLine, hwaiting, hgiven, hunheard, hlost⟩ := h
    have hsub : (l.queue.filter TxEntry.staysQueued).Sublist l.queue := List.filter_sublist
    refine ⟨by simpa using hsub.length_le.trans hplaces, ?_, by simp [List.filter_map, Function.comp_def], hwaiting, ?_,
      hunheard, hlost⟩
    · have := (hsub.filter TxEntry.isBulk).length_le.trans hbulk
      simpa [LineUnit.bulkCount, List.filter_map, Function.comp_def, TxEntry.isBulk] using this
    · intro e he hg
      rcases List.mem_append.1 he with he | he
      · obtain ⟨x, hx, rfl⟩ := List.mem_map.1 he
        obtain ⟨hmem, hstay⟩ := List.mem_filter.1 hx
        simp [TxEntry.staysQueued, hgiven x (by simp [hmem]) hg, show x.givenUp = true from hg] at hstay
      · exact hgiven e (by simp [he]) hg
  noResult := id
  roster := id

/-- R172: a frame sent leaves the queue. -/
theorem LineUnit.Keeps.sendEnd (l : LineUnit) (p : TxEntry → Bool) : l.Keeps { l with queue := dropFirst p l.queue } where
  bounded h := by
    obtain ⟨hplaces, hbulk, honLine, hwaiting, hgiven, hunheard, hlost⟩ := h
    have hsub := dropFirst_sublist p l.queue
    refine ⟨hsub.length_le.trans hplaces, (hsub.filter _).length_le.trans hbulk, (hsub.filter _).length_le.trans honLine, hwaiting,
      fun e he => ?_, hunheard, hlost⟩
    rcases List.mem_append.1 he with he | he
    · exact hgiven e (by simp [hsub.subset he])
    · exact hgiven e (by simp [he])
  noResult := id
  roster := id

/-- R174: the frame that has waited longest joins. -/
theorem LineUnit.Keeps.joins {l : LineUnit} {e : TxEntry} {rest : List TxEntry} (hw : l.waiting = e :: rest)
    (hroom : l.bulkRoom = true) : l.Keeps { l with queue := l.queue ++ [e], waiting := rest } where
  bounded h := by
    obtain ⟨hplaces, hbulk, honLine, hwaiting, hgiven, hunheard, hlost⟩ := h
    obtain ⟨hbulkLt, hplacesLt⟩ : l.bulkCount < 8 ∧ l.queue.length < 16 := by
      exact of_decide_eq_true hroom
    rw [hw] at hwaiting hgiven
    refine ⟨by simp; omega, ?_, ?_, fun x hx => hwaiting x (by simp [hx]), ?_, hunheard, hlost⟩
    · have hcount : l.bulkCount = (l.queue.filter TxEntry.isBulk).length := rfl
      simp only [LineUnit.bulkCount, List.filter_append, List.length_append, List.filter_cons, List.filter_nil]
      split <;> simp <;> omega
    · simpa [hwaiting e (by simp)] using honLine
    · intro x hx
      refine hgiven x ?_
      simp only [List.mem_append, List.mem_cons, List.not_mem_nil, or_false] at hx ⊢
      tauto
  noResult h x hx := h x (by rw [hw]; simp [hx])
  roster := id

/-! ## Handing and receiving -/

/-- R48: frames asked for in order. -/
theorem State.sendAll_keeps {l : LineUnit} (target : Nat) {bs : List TxBody} (hb : ∀ b ∈ bs, ∀ x, b ≠ .pullResult x) {s : State}
    (h : l.Keeps s.line) : l.Keeps (s.sendAll target bs).line := by
  induction bs generalizing s with
  | nil => exact h
  | cons b bs ih => exact ih (fun c hc => hb c (by simp [hc])) (h.request target (hb b (by simp)))

theorem State.beginHanding_keeps {l : LineUnit} (r : StripRecord) {s : State} (h : l.Keeps s.line) :
    l.Keeps (s.beginHanding r).line := by
  refine State.sendAll_keeps _ ?_ (by simp [h])
  intro b hb
  obtain ⟨p, -, rfl⟩ := List.mem_map.1 hb
  simp

theorem State.spoolConfirm_keeps {l : LineUnit} {s : State} (h : l.Keeps s.line) : l.Keeps s.spoolConfirm.line := by
  unfold State.spoolConfirm
  split
  · exact h
  · refine State.judgeCover_keeps ?_
    simp only [State.waiveDebit_frame]
    exact State.endCondition_keeps _ (State.endCondition_keeps _ (State.setHead_keeps _ h))

theorem State.notePartLeft_keeps {l : LineUnit} (e : TxEntry) {s : State} (h : l.Keeps s.line) :
    l.Keeps (s.notePartLeft e).line := by
  unfold State.notePartLeft
  split
  · simpa using h
  · exact h

theorem keeps_outlastsStop (l : LineUnit) : OutlastsStop fun s => l.Keeps s.line where
  calm h hs := hs.trans h.line
  stop hs := by simp [hs]

/-- R162: a walk leaves all but the screen. -/
theorem exec_fieldEngineWalk_eq {s t : State} (h : exec .fieldEngineWalk s = .next t) : t = { s with screen := t.screen } := by
  obtain rfl : _ = t := Host.Outcome.next.inj h
  split
  · rfl
  · split
    · split
      · rw [State.walk_eq]
      · rfl
    · rfl

/-- The commands by which a result is made, and power-on. -/
def makesResult : Instr → Bool
  | .powerOn .. | .loadCellSample .. | .holdTimerExpiry | .liftTravelLimit => true
  | _ => false

/-- Every other command keeps the bounds of the line unit, and brings no result that waits. -/
theorem exec_lineKeeps {c : Instr} {s t : State} (h : exec c s = .next t) (hc : makesResult c = false) :
    s.line.Keeps t.line := by
  have hP := keeps_outlastsStop s.line
  have hs : s.line.Keeps s.line := .refl _
  cases c with
  | powerOn | loadCellSample | holdTimerExpiry | liftTravelLimit => simp [makesResult] at hc
  | loadEnd | stopButton | stopFrame | restartFrame | presentFrame | alarmFrame | stateFrame | lineStartFrame | frameDiscard =>
    exact hP.exec_isNews rfl h hs
  | ackKey => exact hP.exec_ackKey (fun r hr => State.spoolConfirm_keeps hr) (fun r hr => by simpa using hr) h hs
  | resumeKey => exact hP.exec_resumeKey (fun r hr => State.releaseWaiting_keeps _ hr) h hs
  | warmRestart => exact hP.exec_warmRestart (fun r hr => State.restartStage_keeps hr) h hs
  | offerFrame | refuseFrame | arrivedFrame | recordFrame =>
    obtain rfl : _ = t := Host.Outcome.next.inj h
    refine hP.hear_outsideBoot _ _ (fun r hr => ?_) hs
    clear h
    (repeat' split) <;> simp [hr]
  | takeFrame =>
    obtain rfl : _ = t := Host.Outcome.next.inj h
    refine hP.hear_outsideBoot _ _ (fun r hr => ?_) hs
    split
    · split
      · exact State.beginHanding_keeps _ hr
      · exact hr
    · exact hr
  | pullResultFrame =>
    obtain rfl : _ = t := Host.Outcome.next.inj h
    exact hP.hear _ _ (fun r hr => by simp [hr]) hs
  | frameSendStart =>
    obtain rfl : _ = t := Host.Outcome.next.inj h
    clear h
    split
    · exact hs
    · next hq =>
      split
      · exact .sendStart (by simpa using hq) _ _
      · exact hs
  | arbitrationLost =>
    obtain rfl : _ = t := Host.Outcome.next.inj h
    exact .contestLost _
  | frameSendEnd =>
    obtain rfl : _ = t := Host.Outcome.next.inj h
    clear h
    split
    · have hk := LineUnit.Keeps.sendEnd s.line fun e => e.onLine.isSome
      refine State.notePartLeft_keeps _ ?_
      split
      · exact State.heardBy_keeps hk
      · exact State.unheardBy_keeps hk
    · exact hs
  | waitingFrameJoins =>
    obtain rfl : _ = t := Host.Outcome.next.inj h
    clear h
    split
    · next e rest hw =>
      split
      · next hroom => exact State.noteJoined_keeps e (.joins hw hroom)
      · exact hs
    · exact hs
  | rollCallTimerExpiry =>
    obtain rfl : _ = t := Host.Outcome.next.inj h
    clear h
    have hk : s.line.Keeps { s.sendPresent.line with rollCallTimer := .running Config.rollCallTime } :=
      (State.sendPresent_keeps hs).timer _
    (repeat' (split <;> try dsimp only))
    · exact hk
    · exact State.raiseAlarm_keeps _ _ hk
    · exact hs
    · exact hs
  | fieldEngineWalk =>
    rw [exec_fieldEngineWalk_eq h]
    exact hs
  | _ =>
    obtain rfl : _ = t := Host.Outcome.next.inj h
    clear h
    (repeat' (split <;> try dsimp only)) <;> simp

/-! ## Power-on (R36) -/

/-- R36: the station just powered on, its stage port not yet read. -/
def State.poweredOn (p : Straps) (q : List Instr) : State := { State.reset with straps := p, pending := q }

/-- R36, R38, R147: power-on gives what holds of the power-on values and is kept by the first readings. -/
theorem exec_powerOn_keeps {P : State → Prop} {p : Straps} {r : FirstReading} {s t : State} (h : exec (.powerOn p r) s = .next t)
    (hreset : P (.poweredOn p s.pending)) (hstrip : ∀ u, P u → P (u.takeUntracked unknownSerial 0 0))
    (hinput : ∀ u, P u → P u.senseInput) (houtput : ∀ u, P u → P u.senseOutput) : P t := by
  obtain rfl : _ = t := Host.Outcome.next.inj h
  have h2 : P (State.senseStrip r.strip (.poweredOn p s.pending)) := by
    unfold State.senseStrip
    split
    · exact hstrip _ hreset
    · exact hreset
  have h3 : P (if r.inputMagazine then State.senseInput (State.senseStrip r.strip (.poweredOn p s.pending))
      else State.senseStrip r.strip (.poweredOn p s.pending)) := by
    split
    · exact hinput _ h2
    · exact h2
  dsimp only
  split
  · exact houtput _ h3
  · exact h3

end Sys2Proof.Machine
end


section
/-! PROOFS. The blocks of the other role (R26, R63, R84, R113): a PULL station's wire sequencer and energy unit and a HEAD station's
pull unit stay at their power-on values. -/

namespace Sys2Proof.Machine

/-! ## The head state (R26) -/

theorem head_outlastsStop (h : HeadState) : OutlastsStop fun s => s.control.head = h where
  calm k hs := k.head.trans hs
  stop hs := by simpa using hs

/-- R26: only the start of a wire, the spool confirm and power-on change the head state. -/
theorem head_of_exec {c : Instr} {s t : State} (h : exec c s = .next t) (hp : ∀ p r, c ≠ .powerOn p r)
    (hw : c ≠ .wireCycleStart) (hk : c ≠ .ackKey) : t.control.head = s.control.head := by
  have hP := head_outlastsStop s.control.head
  cases c with
  | powerOn p r => exact absurd rfl (hp p r)
  | wireCycleStart => exact absurd rfl hw
  | ackKey => exact absurd rfl hk
  | loadEnd | stopButton | stopFrame | restartFrame | presentFrame | alarmFrame | stateFrame | lineStartFrame | frameDiscard =>
    exact hP.exec_isNews rfl h rfl
  | resumeKey => exact hP.exec_resumeKey (fun r hr => by simpa using hr) h rfl
  | warmRestart => exact hP.exec_warmRestart (fun r hr => by simpa using hr) h rfl
  | offerFrame | refuseFrame | arrivedFrame | recordFrame | takeFrame =>
    obtain rfl : _ = t := Host.Outcome.next.inj h
    refine hP.hear_outsideBoot _ _ (fun r hr => ?_) rfl
    clear h
    (repeat' split) <;> simpa using hr
  | pullResultFrame =>
    obtain rfl : _ = t := Host.Outcome.next.inj h
    exact hP.hear _ _ (fun r hr => by simpa using hr) rfl
  | fieldEngineWalk => rw [exec_fieldEngineWalk_eq h]
  | _ =>
    obtain rfl : _ = t := Host.Outcome.next.inj h
    clear h
    (repeat' (split <;> try dsimp only)) <;> simp

/-! ## A PULL station (R26, R63, R84) -/

/-- Of the blocks of a HEAD a PULL station's stop changes nothing. -/
theorem EnergyUnit.abortBond_of_none {u : EnergyUnit} (h : u.bond = none) : u.abortBond = u := by
  unfold EnergyUnit.abortBond
  rw [h]

/-- R82: with no wire in flight a STOP leaves the counts and the stock of the wire sequencer. -/
theorem State.enterStopped_wire_of_none {s : State} (h : s.wire.inFlight = none) :
    s.enterStopped.wire = { s.wire with cycle := .idle, awaits := .none, inFlight := none, ballReady := false } := by
  have hw := (State.abortWire_of_none (s := s.stopRollCall) (by simpa using h)).1
  unfold State.enterStopped
  simp [hw]

/-- The head, the wire sequencer and the energy unit alone are asked for. -/
theorem State.PullStationAtRest.of_eq {s t : State} (h : s.PullStationAtRest) (hh : t.control.head = s.control.head)
    (hw : t.wire = s.wire) (he : t.energy = s.energy) : t.PullStationAtRest where
  head := hh.trans h.head
  cycle := by rw [hw, h.cycle]
  awaits := by rw [hw, h.awaits]
  ballReady := by rw [hw, h.ballReady]
  stock := by rw [hw, h.stock]
  inFlight := by rw [hw, h.inFlight]
  wiresBonded := by rw [hw, h.wiresBonded]
  unitsDone := by rw [hw, h.unitsDone]
  unitsRejected := by rw [hw, h.unitsRejected]
  bond := by rw [he, h.bond]
  lastBond := by rw [he, h.lastBond]
  fastCount := by rw [he, h.fastCount]
  trims := by rw [he]; exact h.trims

theorem State.PullStationAtRest.outlastsStop :
    OutlastsStop fun s => s.straps.role = .pull ∧ s.PullStationAtRest where
  calm h hs := ⟨by rw [h.straps]; exact hs.1, hs.2.of_eq h.head h.wire h.energy⟩
  stop {s} hs := by
    have hw : s.enterStopped.wire = s.wire := by
      rw [State.enterStopped_wire_of_none hs.2.inFlight]
      ext <;> simp [hs.2.cycle, hs.2.awaits, hs.2.inFlight, hs.2.ballReady]
    exact ⟨by simpa using hs.1, hs.2.of_eq (by simp) hw (by simp [EnergyUnit.abortBond_of_none hs.2.bond])⟩

/-- No command gives a PULL station a wire cycle, a bond or a trim. -/
theorem State.PullStationAtRest.exec {c : Instr} {s t : State} (hrole : s.straps.role = .pull) (hs : s.PullStationAtRest)
    (hp : ∀ p r, c ≠ .powerOn p r) (h : exec c s = .next t) : t.PullStationAtRest := by
  have hP := State.PullStationAtRest.outlastsStop
  have same {u : State} (hh : u.control.head = s.control.head) (hw : u.wire = s.wire) (he : u.energy = s.energy) :
      u.PullStationAtRest := hs.of_eq hh hw he
  have hflight := hs.inFlight
  have hcycle := hs.cycle
  have hbond := hs.bond
  cases c with
  | powerOn p r => exact absurd rfl (hp p r)
  | loadEnd | stopButton | stopFrame | restartFrame | presentFrame | alarmFrame | stateFrame | lineStartFrame | frameDiscard =>
    exact (hP.exec_isNews rfl h ⟨hrole, hs⟩).2
  | ackKey =>
    refine (hP.exec_ackKey (fun r hr => ?_) (fun r hr => ?_) h ⟨hrole, hs⟩).2
    · unfold State.spoolConfirm
      rw [if_pos hr.1]
      exact hr
    · exact ⟨by simpa using hr.1, hr.2.of_eq (by simp) (by simp) (by simp)⟩
  | resumeKey =>
    exact (hP.exec_resumeKey (fun r hr => ⟨by simpa using hr.1, hr.2.of_eq (by simp) (by simp) (by simp)⟩) h ⟨hrole, hs⟩).2
  | warmRestart =>
    exact (hP.exec_warmRestart (fun r hr => ⟨by simpa using hr.1, hr.2.of_eq (by simp) (by simp) (by simp)⟩) h ⟨hrole, hs⟩).2
  | offerFrame | refuseFrame | arrivedFrame | recordFrame | takeFrame =>
    obtain rfl : _ = t := Host.Outcome.next.inj h
    refine (hP.hear_outsideBoot _ _ (fun r hr => ?_) ⟨hrole, hs⟩).2
    clear h
    (repeat' split) <;> exact ⟨by simpa using hr.1, hr.2.of_eq (by simp) (by simp) (by simp)⟩
  | pullResultFrame k p =>
    obtain rfl : _ = t := Host.Outcome.next.inj h
    refine (hP.hear _ _ (fun r hr => ?_) ⟨hrole, hs⟩).2
    have hl : r.learnResult p = r := by
      unfold State.learnResult
      rw [if_neg]
      simp [State.takesResult, hr.1]
    rw [hl]
    exact ⟨by simpa using hr.1, hr.2.of_eq (by simp) (by simp) (by simp)⟩
  | wireCycleStart =>
    obtain rfl : _ = t := Host.Outcome.next.inj h
    rw [if_neg (by simp [State.wireMayStart, hs.head])]
    exact hs
  | searchFirstContact | searchSecondContact | searchFirstLimit | searchSecondLimit | loopLiftInPosition | tailRiseInPosition
  | flameOffEnd | toFirstInPosition | loopMotionInPosition | tailingEnd =>
    obtain rfl : _ = t := Host.Outcome.next.inj h
    split
    · next hf => rw [hflight] at hf; simp at hf
    · exact hs
  | leadFlameHeadReady | missingDieReturnEnd | cutEnd =>
    obtain rfl : _ = t := Host.Outcome.next.inj h
    rw [if_neg (by simp [hcycle])]
    exact hs
  | bondSample =>
    obtain rfl : _ = t := Host.Outcome.next.inj h
    split
    · next hb _ => rw [hbond] at hb; simp at hb
    · exact hs
  | _ =>
    have hk := exec_keepsBut h
    exact same (head_of_exec h (by simp) (by simp) (by simp)) (hk.wire (by simp [blocksOf])) (hk.energy (by simp [blocksOf]))

/-! ## A HEAD station (R113) -/

theorem State.HeadStationPullsNothing.noResult {s : State} (h : s.HeadStationPullsNothing) : s.line.NoResult :=
  s.resultWaiting_eq_false_iff.1 h.result

/-- The pull unit but for its plan state, and the frames that wait, alone are asked for. -/
theorem State.HeadStationPullsNothing.of_eq {s t : State} (h : s.HeadStationPullsNothing)
    (hp : t.pull = { s.pull with planOn := t.pull.planOn }) (hl : t.line.NoResult) : t.HeadStationPullsNothing where
  cycle := by rw [hp, ← h.cycle]
  inFlight := by rw [hp, ← h.inFlight]
  pairs := by rw [hp, ← h.pairs]
  auditCount := by rw [hp, ← h.auditCount]
  confirmTried := by rw [hp, ← h.confirmTried]
  pending := by rw [hp, ← h.pending]
  cursor := by rw [hp, ← h.cursor]
  spacing := by rw [hp, ← h.spacing]
  hookMiss := by rw [hp, ← h.hookMiss]
  log := by rw [hp, ← h.log]
  failures := by rw [hp, ← h.failures]
  discards := by rw [hp, ← h.discards]
  holdTimer := by rw [hp, ← h.holdTimer]
  result := t.resultWaiting_eq_false_iff.2 hl

theorem State.HeadStationPullsNothing.outlastsStop : OutlastsStop State.HeadStationPullsNothing where
  calm h hs := hs.of_eq h.pull (h.line.noResult hs.noResult)
  stop {s} hs := by
    refine hs.of_eq ?_ ((State.enterStopped_keeps (.refl s.line)).noResult hs.noResult)
    ext <;> simp [hs.cycle, hs.inFlight, hs.holdTimer]

/-- R113: a new strip changes none of the items a HEAD station holds. -/
theorem State.HeadStationPullsNothing.freshStrip {s : State} (h : s.HeadStationPullsNothing) :
    { s.pull with pairs := [], auditCount := 0, confirmTried := false } = s.pull := by
  ext <;> simp [h.pairs, h.auditCount, h.confirmTried]

/-- No command gives a HEAD station a pull, a result or an audit. -/
theorem State.HeadStationPullsNothing.exec {c : Instr} {s t : State} (hrole : s.straps.role = .head)
    (hs : s.HeadStationPullsNothing) (hp : ∀ p r, c ≠ .powerOn p r) (h : exec c s = .next t) : t.HeadStationPullsNothing := by
  have hP := State.HeadStationPullsNothing.outlastsStop
  have hflight := hs.inFlight
  have same {r u : State} (hr : r.HeadStationPullsNothing) (hpull : u.pull = r.pull) (hl : r.line.Keeps u.line) :
      u.HeadStationPullsNothing := hr.of_eq (by rw [hpull]) (hl.noResult hr.noResult)
  cases c with
  | powerOn p r => exact absurd rfl (hp p r)
  | loadEnd | stopButton | stopFrame | restartFrame | presentFrame | alarmFrame | stateFrame | lineStartFrame | frameDiscard =>
    exact hP.exec_isNews rfl h hs
  | ackKey =>
    refine hP.exec_ackKey (fun r hr => same hr (by simp) (State.spoolConfirm_keeps (.refl _))) (fun r hr => ?_) h hs
    have ht : r.takeFailure = r := by
      unfold State.takeFailure
      rw [hr.failures]
    rwa [ht]
  | resumeKey => exact hP.exec_resumeKey (fun r hr => same hr (by simp) (State.releaseWaiting_keeps _ (.refl _))) h hs
  | warmRestart => exact hP.exec_warmRestart (fun r hr => same hr (by simp) (State.restartStage_keeps (.refl _))) h hs
  | offerFrame | refuseFrame | arrivedFrame | recordFrame =>
    obtain rfl : _ = t := Host.Outcome.next.inj h
    refine hP.hear_outsideBoot _ _ (fun r hr => ?_) hs
    clear h
    (repeat' split) <;> exact same hr (by simp) (by simp)
  | takeFrame =>
    obtain rfl : _ = t := Host.Outcome.next.inj h
    refine hP.hear_outsideBoot _ _ (fun r hr => ?_) hs
    clear h
    (repeat' split)
    · exact same hr (by simp) (State.beginHanding_keeps _ (.refl _))
    · exact hr
    · exact hr
  | pullResultFrame =>
    obtain rfl : _ = t := Host.Outcome.next.inj h
    exact hP.hear _ _ (fun r hr => same hr (by simp) (by simp)) hs
  | arrival =>
    have hl := (exec_lineKeeps h rfl).noResult hs.noResult
    refine hs.of_eq ?_ hl
    clear hl
    obtain rfl : _ = t := Host.Outcome.next.inj h
    clear h
    unfold State.arriveReceiving State.arriveEmpty State.takeUntracked State.feedingEnd
    (repeat' (split <;> try dsimp only)) <;> simp [hs.freshStrip]
  | auditSpacingExpiry =>
    have hl := (exec_lineKeeps h rfl).noResult hs.noResult
    refine hs.of_eq ?_ hl
    clear hl
    obtain rfl : _ = t := Host.Outcome.next.inj h
    ext <;> simp [hs.spacing]
  | pullCycleStart =>
    obtain rfl : _ = t := Host.Outcome.next.inj h
    rw [if_neg (by simp [hrole])]
    exact hs
  | toWireInPosition | hookEngagement | loadCellSample | holdTimerExpiry | liftTravelLimit =>
    obtain rfl : _ = t := Host.Outcome.next.inj h
    split
    · next hf => rw [hflight] at hf; simp at hf
    · exact hs
  | releaseEnd =>
    obtain rfl : _ = t := Host.Outcome.next.inj h
    rw [if_neg (by simp [hs.cycle])]
    exact hs
  | _ => exact same hs ((exec_keepsBut h).pull (by simp [blocksOf])) (exec_lineKeeps h rfl)

/-! ## The invariant -/

/-- R36: a station just powered on holds nothing of the other role's blocks, whatever its role. -/
theorem roleInv_of_exec_powerOn {s t : State} {p : Straps} {r : FirstReading} (h : exec (.powerOn p r) s = .next t) :
    t.RoleInv := by
  refine ⟨fun _ => ?_, fun _ => ?_⟩
  · refine exec_powerOn_keeps (P := State.PullStationAtRest) h ?_ (fun u hu => ?_) (fun u hu => ?_) (fun u hu => ?_)
    · constructor <;> simp [State.poweredOn, State.reset, Control.initial, WireSequencer.initial, EnergyUnit.initial]
    all_goals exact hu.of_eq (by simp) (by simp) (by simp)
  · refine exec_powerOn_keeps (P := State.HeadStationPullsNothing) h ?_ (fun u hu => ?_) (fun u hu => ?_) (fun u hu => ?_)
    · constructor <;> simp [State.poweredOn, State.reset, PullUnit.initial, State.resultWaiting, LineUnit.initial]
    · exact hu.of_eq (by simp [State.takeUntracked, hu.freshStrip])
        ((State.takeUntracked_keeps _ _ _ (.refl u.line)).noResult hu.noResult)
    · exact hu.of_eq (by simp) ((State.senseInput_keeps (.refl u.line)).noResult hu.noResult)
    · exact hu.of_eq (by simp) ((State.senseOutput_keeps (.refl u.line)).noResult hu.noResult)

/-- Settles O59: a step runs one command, and each leaves the blocks of the other role at rest. -/
theorem blocksOfOtherRoleRest : Obligations.BlocksOfOtherRoleRest := by
  intro s t hs h
  obtain rfl | ⟨c, q, hc⟩ := step_cases h
  · exact hs
  · by_cases hp : ∀ p r, c ≠ .powerOn p r
    · have hstraps : t.straps = s.straps := (exec_keepsBut hc).straps (straps_loader_notMem_blocksOf c hp).1
      refine ⟨fun hr => ?_, fun hr => ?_⟩
      · rw [hstraps] at hr
        exact State.PullStationAtRest.exec (s := s.withPending q) hr ((hs.1 hr).of_eq rfl rfl rfl) hp hc
      · rw [hstraps] at hr
        exact State.HeadStationPullsNothing.exec (s := s.withPending q) hr ((hs.2 hr).of_eq rfl (hs.2 hr).noResult) hp hc
    · push Not at hp
      obtain ⟨p, r, rfl⟩ := hp
      exact roleInv_of_exec_powerOn hc

end Sys2Proof.Machine
end


section
/-! PROOFS. The bounds of tables and queues (R113, R132, R133, R148, R149, R153, R173, R174): what each operation does to the report
unit and to the strip being unloaded, and that every command keeps the bounds. -/

namespace Sys2Proof.Machine

/-! ## The line unit (R131, R173, R174) -/

theorem State.sendResult_bounded (x : PullResult) {s : State} (h : s.line.Bounded) : (s.sendResult x).line.Bounded := by
  have hr := h.request 0 (.pullResult x)
  unfold State.sendResult
  dsimp only
  split
  · exact (State.fileResult_keeps x (.refl (s.send 0 (.pullResult x)).line)).bounded hr
  · exact hr

theorem State.decidePull_bounded (f : PullInFlight) (o : PullOutcome) (b : BreakCode) {s : State} (h : s.line.Bounded) :
    (s.decidePull f o b).line.Bounded := by
  unfold State.decidePull
  split
  · next r _ =>
    rw [(State.enterReleasing_frame _ _).2.2.2.1]
    refine State.sendResult_bounded _ ?_
    have hk : s.line.Keeps (((s.enterPair (resultOf r f o b)).markUnit (resultOf r f o b)).settleConfirm (resultOf r f o b)).line :=
      State.settleConfirm_keeps _ (by simp)
    exact (State.countHookMiss_keeps _ hk).bounded h
  · exact h

theorem State.judgePullSample_bounded (f : PullInFlight) (l : LocatorCode) {s : State} (h : s.line.Bounded) :
    (s.judgePullSample f l).line.Bounded := by
  unfold State.judgePullSample
  dsimp only
  split
  · exact State.decidePull_bounded _ _ _ h
  · split <;> exact h

/-- R173, R174: every command keeps the bounds of the line unit. -/
theorem lineBounded_of_exec {c : Instr} {s t : State} (h : exec c s = .next t) (hs : s.line.Bounded) : t.line.Bounded := by
  by_cases hc : makesResult c = false
  · exact (exec_lineKeeps h hc).bounded hs
  cases c with
  | powerOn =>
    refine exec_powerOn_keeps (P := fun u => u.line.Bounded) h ?_ (fun u hu => ?_) (fun u hu => ?_) (fun u hu => ?_)
    · constructor <;> simp [State.poweredOn, State.reset, LineUnit.initial, LineUnit.bulkCount]
    · exact (State.takeUntracked_keeps _ _ _ (.refl u.line)).bounded hu
    · exact (State.senseInput_keeps (.refl u.line)).bounded hu
    · exact (State.senseOutput_keeps (.refl u.line)).bounded hu
  | loadCellSample =>
    obtain rfl : _ = t := Host.Outcome.next.inj h
    clear h
    split
    · split
      · split
        · exact hs
        · exact State.judgePullSample_bounded _ _ hs
      · exact hs
    · exact hs
  | holdTimerExpiry | liftTravelLimit =>
    obtain rfl : _ = t := Host.Outcome.next.inj h
    clear h
    split
    · split
      · exact State.decidePull_bounded _ _ _ hs
      · exact hs
    · exact hs
  | _ => simp [makesResult] at hc

/-! ## The pull unit (R113, R132, R133) -/

theorem PullUnit.Bounded.of_eq {u v : PullUnit} (h : u.Bounded) (h1 : v.hookMiss = u.hookMiss) (h2 : v.log = u.log)
    (h3 : v.failures = u.failures) (h4 : v.discards = u.discards) : v.Bounded :=
  ⟨h1 ▸ h.hookMiss, h2 ▸ h.log, h3 ▸ h.failures, h4 ▸ h.discards⟩

theorem length_logResult_le {x : PullResult} {l : List PullResult} (h : l.length ≤ 64) : (logResult x l).length ≤ 64 := by
  unfold logResult Config.pullLogPlaces
  split <;> simp <;> omega

/-- R132, R133: the logs take a result within their places. -/
theorem PullUnit.Bounded.enterLogs {u : PullUnit} (h : u.Bounded) (x : PullResult) :
    (PullUnit.logFailure x { u with log := logResult x u.log }).Bounded := by
  obtain ⟨hmiss, hlog, hfail, hdisc⟩ := h
  have hl := length_logResult_le (x := x) hlog
  unfold PullUnit.logFailure
  split
  · split
    · next hroom => exact ⟨hmiss, hl, by simpa [Config.failureLogPlaces] using hroom, hdisc⟩
    · exact ⟨hmiss, hl, hfail, bump_le hdisc⟩
  · exact ⟨hmiss, hl, hfail, hdisc⟩

theorem PullUnit.Bounded.countHookMiss {s : State} (h : s.pull.Bounded) (x : PullResult) : (s.countHookMiss x).pull.Bounded := by
  obtain ⟨hmiss, hlog, hfail, hdisc⟩ := h
  unfold State.countHookMiss
  split
  · split
    · next hlt => exact ⟨Nat.le_of_lt_succ hlt, hlog, hfail, hdisc⟩
    · exact ⟨by simp, by simpa using hlog, by simpa using hfail, by simpa using hdisc⟩
  · exact ⟨by simp, hlog, hfail, hdisc⟩

theorem PullUnit.Bounded.settleConfirm {s : State} (h : s.pull.Bounded) (x : PullResult) : (s.settleConfirm x).pull.Bounded := by
  unfold State.settleConfirm
  dsimp only
  (repeat' split) <;> exact h.of_eq (by simp) (by simp) (by simp) (by simp)

theorem PullUnit.Bounded.makeResult {s : State} (h : s.pull.Bounded) (x : PullResult) : (s.makeResult x).pull.Bounded := by
  have h1 : ((s.enterPair x).markUnit x).pull.Bounded := h.of_eq (by simp) (by simp) (by simp) (by simp)
  have h2 := ((h1.settleConfirm x).countHookMiss x).enterLogs x
  simpa [State.makeResult] using h2

theorem PullUnit.Bounded.decidePull {s : State} (h : s.pull.Bounded) (f : PullInFlight) (o : PullOutcome) (b : BreakCode) :
    (s.decidePull f o b).pull.Bounded := by
  unfold State.decidePull
  split
  · next r _ => exact (h.makeResult (resultOf r f o b)).of_eq rfl rfl rfl rfl
  · exact h.of_eq rfl rfl rfl rfl

theorem PullUnit.Bounded.judgePullSample {s : State} (h : s.pull.Bounded) (f : PullInFlight) (l : LocatorCode) :
    (s.judgePullSample f l).pull.Bounded := by
  unfold State.judgePullSample
  dsimp only
  split
  · refine PullUnit.Bounded.decidePull ?_ _ _ _
    exact h.of_eq rfl rfl rfl rfl
  · split <;> exact h.of_eq rfl rfl rfl rfl

theorem PullUnit.Bounded.takeFailure {s : State} (h : s.pull.Bounded) : s.takeFailure.pull.Bounded := by
  unfold State.takeFailure
  split
  · exact h
  · next x rest hf =>
    have hlen := h.failures
    rw [hf] at hlen
    refine ⟨h.hookMiss, h.log, Nat.le_of_succ_le hlen, ?_⟩
    simp only [State.event_frame]
    split
    · exact Nat.zero_le _
    · exact h.discards

theorem pullBounded_outlastsStop : OutlastsStop fun s => s.pull.Bounded where
  calm h hs := by
    refine hs.of_eq ?_ ?_ ?_ ?_ <;> rw [h.pull]
  stop hs := hs.of_eq (by simp) (by simp) (by simp) (by simp)

/-- R113, R132, R133: every command keeps the bounds of the pull unit. -/
theorem pullBounded_of_exec {c : Instr} {s t : State} (h : exec c s = .next t) (hs : s.pull.Bounded) : t.pull.Bounded := by
  have hP := pullBounded_outlastsStop
  have same {r u : State} (hr : r.pull.Bounded) (hu : u.pull = r.pull) : u.pull.Bounded := hu ▸ hr
  cases c with
  | powerOn =>
    refine exec_powerOn_keeps (P := fun u => u.pull.Bounded) h ?_ (fun u hu => ?_) (fun u hu => ?_) (fun u hu => ?_)
    · constructor <;> simp [State.poweredOn, State.reset, PullUnit.initial]
    · exact hu.of_eq (by simp [State.takeUntracked]) (by simp [State.takeUntracked]) (by simp [State.takeUntracked])
        (by simp [State.takeUntracked])
    · exact same hu (by simp)
    · exact same hu (by simp)
  | loadEnd | stopButton | stopFrame | restartFrame | presentFrame | alarmFrame | stateFrame | lineStartFrame | frameDiscard =>
    exact hP.exec_isNews rfl h hs
  | ackKey => exact hP.exec_ackKey (fun r hr => same hr (by simp)) (fun r hr => hr.takeFailure) h hs
  | resumeKey => exact hP.exec_resumeKey (fun r hr => same hr (by simp)) h hs
  | warmRestart => exact hP.exec_warmRestart (fun r hr => same hr (by simp)) h hs
  | offerFrame | refuseFrame | arrivedFrame | recordFrame | takeFrame =>
    obtain rfl : _ = t := Host.Outcome.next.inj h
    refine hP.hear_outsideBoot _ _ (fun r hr => ?_) hs
    clear h
    (repeat' split) <;> exact same hr (by simp)
  | pullResultFrame =>
    obtain rfl : _ = t := Host.Outcome.next.inj h
    exact hP.hear _ _ (fun r hr => same hr (by simp)) hs
  | arrival =>
    obtain rfl : _ = t := Host.Outcome.next.inj h
    clear h
    unfold State.arriveReceiving State.arriveEmpty State.takeUntracked State.feedingEnd
    (repeat' (split <;> try dsimp only)) <;> exact hs.of_eq (by simp) (by simp) (by simp) (by simp)
  | auditSpacingExpiry =>
    obtain rfl : _ = t := Host.Outcome.next.inj h
    exact hs.of_eq rfl rfl rfl rfl
  | pullCycleStart | toWireInPosition | hookEngagement | releaseEnd =>
    obtain rfl : _ = t := Host.Outcome.next.inj h
    clear h
    (repeat' split) <;> exact hs.of_eq rfl rfl rfl rfl
  | loadCellSample =>
    obtain rfl : _ = t := Host.Outcome.next.inj h
    clear h
    split
    · split
      · split
        · exact hs.of_eq rfl rfl rfl rfl
        · exact hs.judgePullSample _ _
      · exact hs
    · exact hs
  | holdTimerExpiry | liftTravelLimit =>
    obtain rfl : _ = t := Host.Outcome.next.inj h
    clear h
    split
    · split
      · exact hs.decidePull _ _ _
      · exact hs
    · exact hs
  | _ => exact same hs ((exec_keepsBut h).pull (by simp [blocksOf]))

/-! ## The report unit (R148 to R153) -/

/-- R148, R149: the bounds of the assembly table and of the lost count. -/
structure ReportUnit.Filed (u : ReportUnit) : Prop where
  entries : u.table.length ≤ 4
  lines : ∀ e ∈ u.table, e.lines.length ≤ 24 ∧ e.dropped ≤ 255
  apart : (u.table.map (·.lineSeq)).Nodup
  lost : u.lost ≤ 255

/-- R153: the places in use. -/
def ReportUnit.used (u : ReportUnit) : Nat :=
  u.ready.length + (if u.sending.isSome then 1 else 0) + (if u.reserved then 1 else 0)

theorem State.reportInv_iff (s : State) :
    s.ReportInv ↔ s.report.Filed ∧ s.report.used ≤ 4 ∧ (s.elevator.unloading.isSome = true → s.report.reserved = true) :=
  ⟨fun ⟨a, b, c, d, e, f⟩ => ⟨⟨a, b, c, f⟩, d, e⟩, fun ⟨⟨a, b, c, f⟩, d, e⟩ => ⟨a, b, c, d, e, f⟩⟩

theorem State.ReportInv.of_eq {s t : State} (h : s.ReportInv) (hr : t.report = s.report)
    (he : t.elevator.unloading.isSome = s.elevator.unloading.isSome) : t.ReportInv := by
  rw [State.reportInv_iff] at h ⊢
  rwa [hr, he]

/-! ### Filing (R149) -/

theorem lineSeq_fileInto (r : PullResult) (l : List ReportEntry) : (fileInto r l).map (·.lineSeq) = l.map (·.lineSeq) := by
  induction l with
  | nil => rfl
  | cons e es ih =>
    rw [fileInto]
    split
    · split <;> rfl
    · simp [ih]

theorem lines_fileInto {r : PullResult} {l : List ReportEntry} (h : ∀ e ∈ l, e.lines.length ≤ 24 ∧ e.dropped ≤ 255) :
    ∀ e ∈ fileInto r l, e.lines.length ≤ 24 ∧ e.dropped ≤ 255 := by
  induction l with
  | nil => simp [fileInto]
  | cons x xs ih =>
    obtain ⟨hx, hxs⟩ := List.forall_mem_cons.1 h
    rw [fileInto]
    split
    · refine List.forall_mem_cons.2 ⟨?_, hxs⟩
      split
      · next hroom => exact ⟨by simpa [Config.pullLinePlaces] using hroom, hx.2⟩
      · exact ⟨hx.1, bump_le hx.2⟩
    · exact List.forall_mem_cons.2 ⟨hx, ih hxs⟩

/-- R149: filing keeps the bounds of the table, and takes no place. -/
theorem ReportUnit.Filed.fileResult {s : State} (h : s.report.Filed) (r : PullResult) : (s.fileResult r).report.Filed := by
  obtain ⟨hentries, hlines, hapart, hlost⟩ := h
  rcases s.fileResult_cases r with ⟨-, he⟩ | ⟨-, he⟩ | ⟨hnew, hroom, he⟩ | ⟨-, -, he⟩ <;> rw [he]
  · exact ⟨hentries, hlines, hapart, hlost⟩
  · refine ⟨?_, lines_fileInto hlines, by simpa [lineSeq_fileInto] using hapart, hlost⟩
    have := congrArg List.length (lineSeq_fileInto r s.report.table)
    simp only [List.length_map] at this
    simpa [this] using hentries
  · refine ⟨by simpa using Nat.succ_le_of_lt hroom, ?_, ?_, hlost⟩
    · intro e hmem
      rcases List.mem_append.1 hmem with hmem | hmem
      · exact hlines e hmem
      · rw [List.mem_singleton.1 hmem]
        exact ⟨by simp, by simp⟩
    · simp only [List.map_append, List.map_cons, List.map_nil]
      rw [List.nodup_append]
      refine ⟨hapart, by simp, ?_⟩
      intro a ha b hb
      obtain ⟨e, hmem, rfl⟩ := List.mem_map.1 ha
      rw [List.mem_singleton.1 hb]
      exact hnew e hmem
  · exact ⟨by simpa using hentries, by simpa using hlines, by simpa using hapart, by simpa using bump_le hlost⟩

@[simp] theorem State.fileResult_places (r : PullResult) (s : State) :
    (s.fileResult r).report.ready = s.report.ready ∧ (s.fileResult r).report.sending = s.report.sending ∧
      (s.fileResult r).report.reserved = s.report.reserved := by
  rcases s.fileResult_cases r with ⟨-, he⟩ | ⟨-, he⟩ | ⟨-, -, he⟩ | ⟨-, -, he⟩ <;> rw [he] <;> simp

theorem State.ReportInv.fileResult {s : State} (h : s.ReportInv) (r : PullResult) : (s.fileResult r).ReportInv := by
  rw [State.reportInv_iff] at h ⊢
  obtain ⟨hf, hu, hp⟩ := h
  exact ⟨hf.fileResult r, by simpa [ReportUnit.used] using hu, by simpa using hp⟩

/-! ### Closing (R150 to R152) -/

/-- R150: losing entries changes the lost count alone, within its bound. -/
theorem State.loseEntries_report (l : List ReportEntry) (s : State) :
    ∃ n, (s.loseEntries l).report = { s.report with lost := n } ∧ (s.report.lost ≤ 255 → n ≤ 255) := by
  induction l generalizing s with
  | nil => exact ⟨s.report.lost, rfl, id⟩
  | cons e es ih =>
    obtain ⟨n, hn, hle⟩ := ih (s.loseEntry e)
    have he : (s.loseEntry e).report = { s.report with lost := bumpBy Config.byteCap s.report.lost e.size } := by
      simp [State.loseEntry]
    refine ⟨n, by rw [State.loseEntries, hn, he], fun _ => hle ?_⟩
    rw [he]
    exact bumpBy_le ..

/-- A table with entries taken out, and another lost count. -/
theorem ReportUnit.Filed.sublist {u v : ReportUnit} (h : u.Filed) (ht : v.table.Sublist u.table) (hl : v.lost ≤ 255) : v.Filed where
  entries := ht.length_le.trans h.entries
  lines e he := h.lines e (ht.subset he)
  apart := h.apart.sublist (ht.map _)
  lost := hl

/-- R150: what the first step of a closing leaves. -/
theorem State.freeOrphans_report (q : Nat) (s : State) :
    ∃ l n, (s.freeOrphans q).report = { s.report with table := l, lost := n } ∧ l.Sublist s.report.table := by
  unfold State.freeOrphans
  split
  · exact ⟨_, _, rfl, List.Sublist.refl _⟩
  · obtain ⟨n, hn, -⟩ := State.loseEntries_report (s.report.table.filter fun e => seqBefore e.lineSeq q)
      { s with report := { s.report with table := s.report.table.filter fun e => !seqBefore e.lineSeq q } }
    exact ⟨_, n, hn, List.filter_sublist⟩

/-- R151, R152: a closed strip's report takes the reserved place, and the table loses what the closing takes out. -/
theorem State.composeReport_report (r : StripRecord) (u : Unloading) (s : State) :
    ∃ l lines, (s.composeReport r u).report =
      { s.report with table := l, ready := s.report.ready ++ [lines], reserved := false, lost := 0 } ∧
      l.Sublist s.report.table := by
  obtain ⟨l, n, hl, hsub⟩ := State.freeOrphans_report r.lineSeq s
  have hfilter (p : ReportEntry → Bool) : (l.filter p).Sublist s.report.table := List.filter_sublist.trans hsub
  unfold State.composeReport
  dsimp only
  split
  · rw [hl]
    exact ⟨_, _, rfl, hfilter _⟩
  · split
    · simp only [State.loseEntry, State.raiseAlarm_frame, hl]
      exact ⟨_, _, rfl, hfilter _⟩
    · rw [hl]
      exact ⟨_, _, rfl, hfilter _⟩

/-! ### The strip being unloaded (R143 to R146) -/

@[simp] theorem State.nextInput_unloading (n : Nat) (s : State) :
    (s.nextInput n).elevator.unloading = s.elevator.unloading := by
  unfold State.nextInput
  split <;> simp

@[simp] theorem State.nextOutput_unloading (n : Nat) (s : State) :
    (s.nextOutput n).elevator.unloading = s.elevator.unloading := by
  unfold State.nextOutput
  split <;> simp

@[simp] theorem State.newInputMagazine_unloading (s : State) :
    s.newInputMagazine.elevator.unloading = s.elevator.unloading := by
  simp [State.newInputMagazine]

@[simp] theorem State.newOutputMagazine_unloading (s : State) :
    s.newOutputMagazine.elevator.unloading = s.elevator.unloading := by
  simp [State.newOutputMagazine]

@[simp] theorem State.inputIdle_unloading (s : State) : s.inputIdle.elevator.unloading = s.elevator.unloading :=
  repeatStep_eq (·.elevator.unloading) State.newInputMagazine_unloading _ _

@[simp] theorem State.outputIdle_unloading (s : State) : s.outputIdle.elevator.unloading = s.elevator.unloading :=
  repeatStep_eq (·.elevator.unloading) State.newOutputMagazine_unloading _ _

@[simp] theorem State.senseInput_unloading (s : State) : s.senseInput.elevator.unloading = s.elevator.unloading := by
  unfold State.senseInput
  dsimp only
  (repeat' split) <;> simp

@[simp] theorem State.senseOutput_unloading (s : State) : s.senseOutput.elevator.unloading = s.elevator.unloading := by
  unfold State.senseOutput
  dsimp only
  (repeat' split) <;> simp

@[simp] theorem State.judgeInputSlot_unloading (b : Bool) (s : State) :
    (s.judgeInputSlot b).elevator.unloading = s.elevator.unloading := by
  unfold State.judgeInputSlot
  (repeat' split) <;> simp

@[simp] theorem State.judgeOutputSlot_unloading (s : State) :
    s.judgeOutputSlot.elevator.unloading = s.elevator.unloading := by
  unfold State.judgeOutputSlot
  (repeat' split) <;> simp

@[simp] theorem State.feedingEnd_unloading (s : State) : s.feedingEnd.elevator.unloading = s.elevator.unloading := by
  unfold State.feedingEnd
  split <;> simp

@[simp] theorem State.releaseInput_unloading (s : State) : s.releaseInput.elevator.unloading = s.elevator.unloading := by
  unfold State.releaseInput
  (repeat' split) <;> simp

/-- R144: the report goes to the place that was reserved for it. -/
theorem State.ReportInv.finishUnload {s : State} (h : s.ReportInv) (p : Pusher) : (s.finishUnload p).ReportInv := by
  unfold State.finishUnload
  split
  · next u r hu hr =>
    rw [State.reportInv_iff] at h ⊢
    obtain ⟨hf, hused, hp⟩ := h
    have hres : s.report.reserved = true := hp (by rw [hu]; rfl)
    obtain ⟨l, lines, hl, hsub⟩ := State.composeReport_report r u (s.setOutputSlot u.slot (.filled r.serial u.good u.reject))
    simp only [State.setOutputSlot_frame] at hl hsub
    simp only [State.outputIdle_frame, State.nextOutput_frame, State.emptyStage_frame, State.outputIdle_unloading,
      State.nextOutput_unloading, Option.isSome_none, hl]
    refine ⟨hf.sublist hsub (Nat.zero_le _), ?_, by simp⟩
    simpa [ReportUnit.used, hres, Nat.add_assoc, Nat.add_comm 1] using hused
  · exact h

theorem State.ReportInv.releaseWaiting {s : State} (h : s.ReportInv) (x : StripSensors) : (s.releaseWaiting x).ReportInv := by
  have h1 : ((s.resumeSender x).resumeReceiver.releaseInput).ReportInv := h.of_eq (by simp) (by simp)
  unfold State.releaseWaiting State.releaseOutput
  (repeat' split)
  · exact h1
  · exact h1.finishUnload _
  · exact h1.of_eq (by simp) (by simp)
  · exact h1

theorem State.ReportInv.outlastsStop : OutlastsStop State.ReportInv where
  calm h hs := hs.of_eq h.report (by rw [h.elevator])
  stop hs := hs.of_eq (by simp) (by simp)

theorem State.ReportInv.decidePull {s : State} (h : s.ReportInv) (f : PullInFlight) (o : PullOutcome) (b : BreakCode) :
    (s.decidePull f o b).ReportInv := by
  unfold State.decidePull State.makeResult
  split
  · refine State.ReportInv.of_eq (s := State.sendResult _ (State.enterLogs _ _)) ?_ rfl rfl
    unfold State.sendResult
    dsimp only
    split
    · exact .fileResult (h.of_eq (by simp) (by simp)) _
    · exact h.of_eq (by simp) (by simp)
  · exact h.of_eq rfl rfl

theorem State.ReportInv.judgePullSample {s : State} (h : s.ReportInv) (f : PullInFlight) (l : LocatorCode) :
    (s.judgePullSample f l).ReportInv := by
  unfold State.judgePullSample
  dsimp only
  split
  · refine State.ReportInv.decidePull ?_ _ _ _
    exact h.of_eq rfl rfl
  · split <;> exact h.of_eq rfl rfl

/-- R143, R148, R153: a place is reserved only where one is FREE. -/
theorem State.ReportInv.unloadStart {s t : State} {b : Bool} (hs : s.ReportInv) (h : exec (.unloadStart b) s = .next t) :
    t.ReportInv := by
  obtain rfl : _ = t := Host.Outcome.next.inj h
  clear h
  split
  · next n r hslot hr =>
    split
    · exact hs.of_eq (by simp) (by simp)
    · have hready : s.unloadReady = true := by
        unfold State.unloadSlot? at hslot
        split at hslot
        · next hc => exact hc.2.2.1
        · simp at hslot
      obtain ⟨-, -, hplace, -⟩ := s.unloadReady_iff.1 hready
      have hfree : s.report.ready.length + (if s.report.sending.isSome then 1 else 0) +
          (if s.report.reserved then 1 else 0) < 4 := by
        simp [State.reportPlace, ReportUnit.free, Config.reportPlaces] at hplace
        omega
      rw [State.reportInv_iff] at hs ⊢
      obtain ⟨hf, -, -⟩ := hs
      simp only [State.startUnloadPush, State.setStage_frame]
      refine ⟨⟨hf.entries, hf.lines, hf.apart, hf.lost⟩, ?_, by simp⟩
      simp only [ReportUnit.used]
      split at hfree <;> simp_all <;> omega
  · exact hs

theorem State.ReportInv.exec {c : Instr} {s t : State} (hs : s.ReportInv) (h : exec c s = .next t) : t.ReportInv := by
  have hP := State.ReportInv.outlastsStop
  have same {r u : State} (hr : r.ReportInv) (h1 : u.report = r.report) (h2 : u.elevator.unloading = r.elevator.unloading) :
      u.ReportInv := hr.of_eq h1 (by rw [h2])
  cases c with
  | powerOn =>
    refine exec_powerOn_keeps (P := State.ReportInv) h ?_ (fun u hu => ?_) (fun u hu => ?_) (fun u hu => ?_)
    · constructor <;> simp [State.poweredOn, State.reset, ReportUnit.initial, ElevatorUnit.initial]
    all_goals exact same hu (by simp) (by simp)
  | loadEnd | stopButton | stopFrame | restartFrame | presentFrame | alarmFrame | stateFrame | lineStartFrame | frameDiscard =>
    exact hP.exec_isNews rfl h hs
  | ackKey => exact hP.exec_ackKey (fun r hr => same hr (by simp) (by simp)) (fun r hr => same hr (by simp) (by simp)) h hs
  | resumeKey => exact hP.exec_resumeKey (fun r hr => hr.releaseWaiting _) h hs
  | warmRestart => exact hP.exec_warmRestart (fun r hr => same hr (by simp) (by simp)) h hs
  | offerFrame | refuseFrame | arrivedFrame | recordFrame | takeFrame =>
    obtain rfl : _ = t := Host.Outcome.next.inj h
    refine hP.hear_outsideBoot _ _ (fun r hr => ?_) hs
    clear h
    (repeat' split) <;> exact same hr (by simp) (by simp)
  | pullResultFrame k p =>
    obtain rfl : _ = t := Host.Outcome.next.inj h
    exact hP.hear _ _ (fun r hr => .fileResult (same hr (by simp) (by simp)) p) hs
  | waitingFrameJoins =>
    obtain rfl : _ = t := Host.Outcome.next.inj h
    clear h
    unfold State.noteJoined
    (repeat' split)
    · refine State.ReportInv.fileResult ?_ _
      exact same hs rfl rfl
    · exact same hs rfl rfl
    · exact hs
    · exact hs
  | reportSendStart =>
    obtain rfl : _ = t := Host.Outcome.next.inj h
    clear h
    split
    · next r rest hsend hready =>
      rw [State.reportInv_iff] at hs ⊢
      obtain ⟨hf, hu, hp⟩ := hs
      refine ⟨⟨hf.entries, hf.lines, hf.apart, hf.lost⟩, ?_, hp⟩
      simpa [ReportUnit.used, hsend, hready] using hu
    · exact hs
  | reportSendEnd =>
    obtain rfl : _ = t := Host.Outcome.next.inj h
    rw [State.reportInv_iff] at hs ⊢
    obtain ⟨hf, hu, hp⟩ := hs
    refine ⟨⟨hf.entries, hf.lines, hf.apart, hf.lost⟩, le_trans ?_ hu, hp⟩
    simp [ReportUnit.used]
  | stripLeft =>
    obtain rfl : _ = t := Host.Outcome.next.inj h
    clear h
    (repeat' split)
    · exact same hs (by simp) (by simp)
    · exact same hs (by simp) (by simp)
    · exact hs
    · exact hs.finishUnload _
    · exact same hs (by simp) (by simp)
    · exact hs
  | unloadStart => exact hs.unloadStart h
  | loadCellSample =>
    obtain rfl : _ = t := Host.Outcome.next.inj h
    clear h
    (repeat' split)
    · exact same hs rfl rfl
    · exact hs.judgePullSample _ _
    · exact hs
    · exact hs
  | holdTimerExpiry | liftTravelLimit =>
    obtain rfl : _ = t := Host.Outcome.next.inj h
    clear h
    (repeat' split)
    · exact hs.decidePull _ _ _
    · exact hs
    · exact hs
  | arrival | unloadingPushTimeout | feedingPushStart | feedingPushTimeout | pusherReturnToRest
  | elevatorMoveStart | elevatorMoveEnd | newMagazine | magazineRemoved | inkMark =>
    have hr := (exec_keepsBut h).report (by simp [blocksOf])
    refine hs.of_eq hr ?_
    clear hr
    obtain rfl : _ = t := Host.Outcome.next.inj h
    clear h
    (repeat' (split <;> try dsimp only)) <;> simp
  | unloadingPushRetry =>
    obtain rfl : _ = t := Host.Outcome.next.inj h
    clear h
    split
    · next hu => exact hs.of_eq rfl (by simp [State.startUnloadPush, hu])
    · exact hs
  | _ =>
    have hk := exec_keepsBut h
    exact same hs (hk.report (by simp [blocksOf])) (by rw [hk.elevator (by simp [blocksOf])])

/-- Settles O58: a step runs one command, and each keeps the bounds of the three units. -/
theorem tablesAndQueuesStayBounded : Obligations.TablesAndQueuesStayBounded := by
  intro s t hs h
  obtain rfl | ⟨c, q, hc⟩ := step_cases h
  · exact hs
  · exact ⟨lineBounded_of_exec hc hs.line, pullBounded_of_exec hc hs.pull,
      State.ReportInv.exec (s := s.withPending q) (hs.report.of_eq rfl rfl) hc⟩

end Sys2Proof.Machine
end


section
/-! PROOFS. The station state and the STOP-class entries (R24, R25), the lengths of the tables, and the reset state. -/

namespace Sys2Proof.Machine

/-! ## Settling (R24, R25) -/

@[simp] theorem State.judgeFinding_station (i : Nat) (x : Option Nat) (s : State) :
    (s.judgeFinding i x).control.station = s.control.station := by
  unfold State.judgeFinding
  split <;> simp

@[simp] theorem State.judgeRoster_station (s : State) : s.judgeRoster.control.station = s.control.station := by
  unfold State.judgeRoster
  split <;> simp

/-- R20, R179: a station that enters ROLLCALL is in ROLLCALL, or in READY at once. -/
theorem State.enterRollCall_station (s : State) :
    s.enterRollCall.control.station = .rollcall ∨ s.enterRollCall.control.station = .ready := by
  unfold State.enterRollCall State.tryReady
  dsimp only
  split
  · exact .inr (by simp)
  · exact .inl (by simp)

/-- R25: the states a station may enter when it leaves STOPPED. -/
theorem State.leaveStopped_station (s : State) :
    s.leaveStopped.control.station ≠ .stopped ∧ s.leaveStopped.control.station ≠ .boot := by
  unfold State.leaveStopped
  split
  · simp
  split
  · simp
  · rcases s.enterRollCall_station with h | h <;> simp [h]

/-- R24: out of BOOT and STOPPED, what acts on the STOP-class entries leaves the station STOPPED exactly while one stands. -/
theorem State.settleStop_stopInv {s : State} (h : s.control.station = .stopped → s.alarms.stopStands = true) :
    s.settleStop.StopInv := by
  unfold State.settleStop
  split
  · next hc => simp [State.StopInv, hc.2.2]
  · next hc =>
    intro hb
    refine ⟨h, fun hstands => ?_⟩
    by_contra hn
    exact hc ⟨hb, hn, hstands⟩

/-- R24, R25: what settles the station state does so from every state. -/
theorem State.settle_stopInv (s : State) : s.settle.StopInv := by
  unfold State.settle
  split
  · exact State.settleStop_stopInv fun h => absurd h s.leaveStopped_station.1
  · next hc =>
    refine State.settleStop_stopInv fun hs => ?_
    by_contra hn
    exact hc ⟨hs, by simpa using hn⟩

theorem State.StopInv.of_eq {s t : State} (h : s.StopInv) (hc : t.control.station = s.control.station)
    (ha : t.alarms.stopStands = s.alarms.stopStands) : t.StopInv := by
  unfold State.StopInv at h ⊢
  rwa [hc, ha]

/-- Neither BOOT nor STOPPED is left or entered. -/
theorem State.StopInv.of_work {s t : State} (h : s.StopInv) (h1 : s.control.station ≠ .boot) (h2 : s.control.station ≠ .stopped)
    (h3 : t.control.station ≠ .stopped) (ha : t.alarms.stopStands = s.alarms.stopStands) : t.StopInv := by
  intro _
  have hs := h h1
  simp only [h2, false_iff] at hs
  rw [ha]
  simp [h3, hs]

theorem State.duplicate_stopInv {s : State} (h : s.StopInv) : s.duplicate.StopInv := by
  unfold State.duplicate
  split
  · exact h
  · exact State.settle_stopInv _

/-- R171: hearing a frame keeps STOPPED and the STOP-class entries together where its handler does. -/
theorem State.StopInv.hear {s : State} (h : s.StopInv) (k target : Nat) {handle : State → State}
    (hhandle : ∀ r, r.StopInv → (handle r).StopInv) : (s.hear k target handle).StopInv := by
  have ha (a : Bool) : (s.answer a).StopInv := h.of_eq rfl rfl
  rcases s.hear_cases k target handle with ⟨a, he⟩ | he | he <;> rw [he]
  · exact ha a
  · exact State.duplicate_stopInv (ha true)
  · exact hhandle _ (ha true)

theorem State.StopInv.hear_outsideBoot {s : State} (h : s.StopInv) (k target : Nat) {handle : State → State}
    (hhandle : ∀ r, r.StopInv → (handle r).StopInv) : (s.hear k target (State.outsideBoot handle)).StopInv :=
  h.hear k target fun r hr => State.outsideBoot_keeps (hhandle r) hr

@[simp] theorem State.endCondition_stands {i : Nat} (s : State) (h4 : 4 < i) (h32 : i < 32) :
    (s.endCondition i).alarms.stopStands = s.alarms.stopStands := by
  unfold State.endCondition
  split
  · exact s.conditionGone_stands h4 h32
  · rfl

@[simp] theorem State.sendAll_stays (target : Nat) (bs : List TxBody) (s : State) :
    (s.sendAll target bs).control = s.control ∧ (s.sendAll target bs).alarms = s.alarms := by simp

/-- R25: every command leaves the station STOPPED exactly while a STOP-class entry stands. -/
theorem State.StopInv.exec {c : Instr} {s t : State} (hs : s.StopInv) (h : exec c s = .next t) : t.StopInv := by
  have same {r u : State} (hr : r.StopInv) (hc : u.control.station = r.control.station)
      (ha : u.alarms.stopStands = r.alarms.stopStands) : u.StopInv := hr.of_eq hc ha
  cases c with
  | powerOn =>
    refine exec_powerOn_keeps (P := State.StopInv) h (fun hb => absurd rfl hb) (fun u hu => ?_) (fun u hu => ?_) (fun u hu => ?_)
    all_goals exact same hu (by simp) (by simp)
  | loadEnd =>
    obtain rfl : _ = t := Host.Outcome.next.inj h
    clear h
    unfold State.loadValid State.loadInvalid State.leaveBoot
    (repeat' (split <;> try dsimp only))
    · exact State.settle_stopInv _
    · exact State.settle_stopInv _
    · exact State.settle_stopInv _
    · exact State.settle_stopInv _
    · exact hs
  | stopButton =>
    obtain rfl : _ = t := Host.Outcome.next.inj h
    exact State.settle_stopInv _
  | stopFrame | alarmFrame =>
    obtain rfl : _ = t := Host.Outcome.next.inj h
    exact hs.hear _ _ fun r _ => State.settle_stopInv _
  | presentFrame | stateFrame =>
    obtain rfl : _ = t := Host.Outcome.next.inj h
    refine hs.hear _ _ fun r hr => State.outsideBoot_keeps (fun _ => State.settle_stopInv _) (same hr (by simp) (by simp))
  | restartFrame =>
    obtain rfl : _ = t := Host.Outcome.next.inj h
    exact hs.hear_outsideBoot _ _ fun r hr => hr.of_eq rfl rfl
  | frameDiscard =>
    obtain rfl : _ = t := Host.Outcome.next.inj h
    split
    · exact hs.hear _ _ fun r hr => hr
    · exact hs.of_eq rfl rfl
  | lineStartFrame =>
    obtain rfl : _ = t := Host.Outcome.next.inj h
    refine hs.hear _ _ fun r hr => ?_
    split
    · next hc => exact hr.of_work (by simp [hc]) (by simp [hc]) (by simp) (by simp)
    · exact hr
  | ackKey =>
    obtain rfl : _ = t := Host.Outcome.next.inj h
    refine State.outsideBoot_keeps (fun hr => ?_) (hs.of_eq rfl rfl)
    unfold State.ackPress
    (repeat' split)
    · exact State.settle_stopInv _
    · unfold State.spoolConfirm
      split
      · exact hr
      · exact same hr (by simp) (by simp (disch := decide))
    · exact same hr (by simp) (by simp)
    · exact hr
  | resumeKey =>
    obtain rfl : _ = t := Host.Outcome.next.inj h
    exact State.outsideBoot_keeps (fun _ => State.settle_stopInv _) (hs.of_eq rfl rfl)
  | warmRestart =>
    obtain rfl : _ = t := Host.Outcome.next.inj h
    split
    · unfold State.restart State.restartState
      dsimp only
      split <;> exact State.settle_stopInv _
    · exact hs
  | offerFrame | refuseFrame | arrivedFrame | recordFrame | takeFrame =>
    obtain rfl : _ = t := Host.Outcome.next.inj h
    refine hs.hear_outsideBoot _ _ fun r hr => ?_
    clear h
    (repeat' split) <;> exact same hr (by simp) (by simp)
  | pullResultFrame =>
    obtain rfl : _ = t := Host.Outcome.next.inj h
    exact hs.hear _ _ fun r hr => same hr (by simp) (by simp)
  | boundaryTaken =>
    obtain rfl : _ = t := Host.Outcome.next.inj h
    clear h
    split
    · exact hs
    split
    case h_5 => exact hs
    all_goals exact hs.of_work (by simp [*]) (by simp [*]) (by simp) (by simp)
  | fieldEngineWalk =>
    rw [exec_fieldEngineWalk_eq h]
    exact hs
  | _ =>
    obtain rfl : _ = t := Host.Outcome.next.inj h
    clear h
    refine same hs ?_ ?_ <;> (repeat' (split <;> try dsimp only)) <;> simp (disch := decide)

/-! ## The shape of the tables -/

theorem entries_outlastsStop (n : Nat) : OutlastsStop fun s => s.alarms.entries.length = n where
  calm h hs := h.entries.trans hs
  stop hs := by simpa using hs

/-- R27: no command changes the length of the alarm table, but that power-on gives it its 40 entries. -/
theorem entries_of_exec {c : Instr} {s t : State} (h : exec c s = .next t) (hs : s.alarms.entries.length = 40) :
    t.alarms.entries.length = 40 := by
  have hP := entries_outlastsStop 40
  cases c with
  | powerOn =>
    refine exec_powerOn_keeps (P := fun u => u.alarms.entries.length = 40) h rfl ?_ ?_ ?_ <;>
      (intro u hu; simpa using hu)
  | loadEnd | stopButton | stopFrame | restartFrame | presentFrame | alarmFrame | stateFrame | lineStartFrame | frameDiscard =>
    exact hP.exec_isNews rfl h hs
  | ackKey =>
    refine hP.exec_ackKey (fun r hr => ?_) (fun r hr => by simpa using hr) h hs
    unfold State.spoolConfirm
    split
    · exact hr
    · simpa using hr
  | resumeKey => exact hP.exec_resumeKey (fun r hr => by simpa using hr) h hs
  | warmRestart => exact hP.exec_warmRestart (fun r hr => by simpa using hr) h hs
  | offerFrame | refuseFrame | arrivedFrame | recordFrame | takeFrame =>
    obtain rfl : _ = t := Host.Outcome.next.inj h
    refine hP.hear_outsideBoot _ _ (fun r hr => ?_) hs
    clear h
    (repeat' split) <;> simpa using hr
  | pullResultFrame =>
    obtain rfl : _ = t := Host.Outcome.next.inj h
    exact hP.hear _ _ (fun r hr => by simpa using hr) hs
  | fieldEngineWalk =>
    rw [exec_fieldEngineWalk_eq h]
    exact hs
  | _ =>
    obtain rfl : _ = t := Host.Outcome.next.inj h
    clear h
    (repeat' (split <;> try dsimp only)) <;> simpa using hs

@[simp] theorem LineUnit.afterAlarm_roster (old new : AlarmUnit) (news : Option TxBody) (l : LineUnit) :
    (l.afterAlarm old new news).roster = l.roster := by
  unfold LineUnit.afterAlarm
  (repeat' (split <;> try dsimp only)) <;> simp

@[simp] theorem State.raiseAlarm_roster (i : Nat) (d : Detail) (s : State) : (s.raiseAlarm i d).line.roster = s.line.roster := by
  unfold State.raiseAlarm State.putEntry
  split <;> simp

theorem State.sendResult_roster (x : PullResult) (s : State) : (s.sendResult x).line.roster = s.line.roster := by
  unfold State.sendResult State.fileResult
  (repeat' (split <;> try dsimp only)) <;> simp

theorem State.decidePull_roster (f : PullInFlight) (o : PullOutcome) (b : BreakCode) (s : State) :
    (s.decidePull f o b).line.roster = s.line.roster := by
  unfold State.decidePull State.makeResult State.countHookMiss State.settleConfirm
  (repeat' (split <;> try dsimp only)) <;> simp [State.sendResult_roster]

/-- R178: the roster has an entry for each station after every command. -/
theorem roster_of_exec {c : Instr} {s t : State} (h : exec c s = .next t) (hs : s.line.roster.length = 8) :
    t.line.roster.length = 8 := by
  by_cases hc : makesResult c = false
  · exact (exec_lineKeeps h hc).roster hs
  cases c with
  | powerOn =>
    refine exec_powerOn_keeps (P := fun u => u.line.roster.length = 8) h rfl ?_ ?_ ?_
    · exact fun u hu => (State.takeUntracked_keeps _ _ _ (.refl u.line)).roster hu
    · exact fun u hu => (State.senseInput_keeps (.refl u.line)).roster hu
    · exact fun u hu => (State.senseOutput_keeps (.refl u.line)).roster hu
  | loadCellSample =>
    obtain rfl : _ = t := Host.Outcome.next.inj h
    clear h
    unfold State.judgePullSample
    (repeat' (split <;> try dsimp only)) <;> simpa [State.decidePull_roster] using hs
  | holdTimerExpiry | liftTravelLimit =>
    obtain rfl : _ = t := Host.Outcome.next.inj h
    clear h
    (repeat' split) <;> simpa [State.decidePull_roster] using hs
  | _ => simp [makesResult] at hc

theorem zones_outlastsStop : OutlastsStop fun s => s.heat.zones.length = 6 where
  calm h hs := h.zones hs
  stop hs := by simpa using hs

theorem length_modifyAt {α : Type} (f : α → α) (i : Nat) (l : List α) : (modifyAt f i l).length = l.length := by
  induction l generalizing i with
  | nil => simp [modifyAt]
  | cons x xs ih => cases i <;> simp [modifyAt, ih]

/-- R59: every command leaves the heat monitor six zones. -/
theorem zones_of_exec {c : Instr} {s t : State} (h : exec c s = .next t) (hs : s.heat.zones.length = 6) :
    t.heat.zones.length = 6 := by
  cases c with
  | powerOn =>
    refine exec_powerOn_keeps (P := fun u => u.heat.zones.length = 6) h rfl ?_ ?_ ?_ <;> (intro u hu; simpa using hu)
  | loadEnd => exact zones_outlastsStop.exec_isNews rfl h hs
  | zoneVisit =>
    obtain rfl : _ = t := Host.Outcome.next.inj h
    clear h
    unfold State.judgeZone State.judgeSensor
    (repeat' (split <;> try dsimp only)) <;> simpa [length_modifyAt] using hs
  | _ => rw [(exec_keepsBut h).heat (by simp [blocksOf, stopBlocks])]; exact hs

/-- R84: every command leaves a trim entry for each class. -/
theorem trims_length_of_exec {c : Instr} {s t : State} (h : exec c s = .next t) (hs : s.energy.trims.length = 16) :
    t.energy.trims.length = 16 := by
  have hP : OutlastsStop fun s => s.energy.trims.length = 16 :=
    ⟨fun h hs => by rw [h.energy]; exact hs, fun hs => by simpa using hs⟩
  cases c with
  | powerOn => rw [energy_of_exec_powerOn h]; rfl
  | pullResultFrame =>
    obtain rfl : _ = t := Host.Outcome.next.inj h
    refine hP.hear _ _ (fun r hr => ?_) hs
    unfold State.learnResult
    (repeat' (split <;> try dsimp only)) <;> simpa [State.updateTrims_trims] using hr
  | _ => rw [trims_of_exec h (by simp) (by simp)]; exact hs

/-! ### The slot tables (R135) -/

/-- R135: each elevator's slot table has its 50 entries. -/
def ElevatorUnit.Whole (u : ElevatorUnit) : Prop := u.inputSlots.length = 50 ∧ u.outputSlots.length = 50

@[simp] theorem State.nextInput_slots (n : Nat) (s : State) :
    (s.nextInput n).elevator.inputSlots = s.elevator.inputSlots ∧
      (s.nextInput n).elevator.outputSlots = s.elevator.outputSlots := by
  unfold State.nextInput
  split <;> simp

@[simp] theorem State.nextOutput_slots (n : Nat) (s : State) :
    (s.nextOutput n).elevator.inputSlots = s.elevator.inputSlots ∧
      (s.nextOutput n).elevator.outputSlots = s.elevator.outputSlots := by
  unfold State.nextOutput
  split <;> simp

@[simp] theorem State.newInputMagazine_slots (s : State) :
    s.newInputMagazine.elevator.inputSlots = List.replicate 50 .unknown ∧
      s.newInputMagazine.elevator.outputSlots = s.elevator.outputSlots := by
  simp [State.newInputMagazine, Config.slotPlaces]

@[simp] theorem State.newOutputMagazine_slots (s : State) :
    s.newOutputMagazine.elevator.inputSlots = s.elevator.inputSlots ∧
      s.newOutputMagazine.elevator.outputSlots = List.replicate 50 .empty := by
  simp [State.newOutputMagazine, Config.slotPlaces]

theorem repeatStep_keeps_prop {P : State → Prop} {f : State → State} (hf : ∀ r, P r → P (f r)) (n : Nat) {s : State} (h : P s) :
    P (repeatStep f n s) := by
  induction n generalizing s with
  | zero => exact h
  | succ n ih => exact ih (hf s h)

theorem State.inputIdle_whole {s : State} (h : s.elevator.Whole) : s.inputIdle.elevator.Whole :=
  repeatStep_keeps_prop (P := fun r => r.elevator.Whole) (fun r hr => by simpa [ElevatorUnit.Whole] using hr.2) _ h

theorem State.outputIdle_whole {s : State} (h : s.elevator.Whole) : s.outputIdle.elevator.Whole :=
  repeatStep_keeps_prop (P := fun r => r.elevator.Whole) (fun r hr => by simpa [ElevatorUnit.Whole] using hr.1) _ h

theorem State.senseInput_whole {s : State} (h : s.elevator.Whole) : s.senseInput.elevator.Whole := by
  unfold State.senseInput
  dsimp only
  (repeat' split)
  · exact h
  · exact h
  · simpa [ElevatorUnit.Whole] using h.2

theorem State.senseOutput_whole {s : State} (h : s.elevator.Whole) : s.senseOutput.elevator.Whole := by
  unfold State.senseOutput
  dsimp only
  (repeat' split)
  · exact h
  · exact h
  · simpa [ElevatorUnit.Whole] using h.1

theorem State.feedingEnd_whole {s : State} (h : s.elevator.Whole) : s.feedingEnd.elevator.Whole := by
  unfold State.feedingEnd
  split
  · refine State.inputIdle_whole ?_
    simpa [ElevatorUnit.Whole] using h
  · exact h

theorem State.finishUnload_whole (p : Pusher) {s : State} (h : s.elevator.Whole) : (s.finishUnload p).elevator.Whole := by
  unfold State.finishUnload
  split
  · refine State.outputIdle_whole ?_
    simpa [ElevatorUnit.Whole] using h
  · exact h

theorem State.releaseWaiting_whole (x : StripSensors) {s : State} (h : s.elevator.Whole) :
    (s.releaseWaiting x).elevator.Whole := by
  have h1 : ((s.resumeSender x).resumeReceiver).elevator.Whole := by simpa using h
  have h2 : ((s.resumeSender x).resumeReceiver.releaseInput).elevator.Whole := by
    unfold State.releaseInput
    (repeat' split)
    · refine State.inputIdle_whole ?_
      simpa [ElevatorUnit.Whole] using h1
    · exact State.inputIdle_whole h1
    · exact h1
  unfold State.releaseWaiting State.releaseOutput
  (repeat' split)
  · exact h2
  · exact State.finishUnload_whole _ h2
  · exact State.outputIdle_whole h2
  · exact h2

theorem whole_outlastsStop : OutlastsStop fun s => s.elevator.Whole where
  calm h hs := by rw [h.elevator]; exact hs
  stop hs := by simpa [ElevatorUnit.Whole] using hs

theorem whole_of_exec {c : Instr} {s t : State} (h : exec c s = .next t) (hs : s.elevator.Whole) : t.elevator.Whole := by
  have hP := whole_outlastsStop
  cases c with
  | powerOn =>
    refine exec_powerOn_keeps (P := fun u => u.elevator.Whole) h ⟨rfl, rfl⟩ ?_ ?_ ?_
    · exact fun u hu => by simpa using hu
    · exact fun u hu => State.senseInput_whole hu
    · exact fun u hu => State.senseOutput_whole hu
  | loadEnd | stopButton | stopFrame | restartFrame | presentFrame | alarmFrame | stateFrame | lineStartFrame | frameDiscard =>
    exact hP.exec_isNews rfl h hs
  | ackKey => exact hP.exec_ackKey (fun r hr => by simpa using hr) (fun r hr => by simpa using hr) h hs
  | resumeKey => exact hP.exec_resumeKey (fun r hr => State.releaseWaiting_whole _ hr) h hs
  | warmRestart => exact hP.exec_warmRestart (fun r hr => by simpa using hr) h hs
  | offerFrame | refuseFrame | arrivedFrame | recordFrame | takeFrame =>
    obtain rfl : _ = t := Host.Outcome.next.inj h
    refine hP.hear_outsideBoot _ _ (fun r hr => ?_) hs
    clear h
    (repeat' split) <;> simpa using hr
  | pullResultFrame =>
    obtain rfl : _ = t := Host.Outcome.next.inj h
    exact hP.hear _ _ (fun r hr => by simpa using hr) hs
  | arrival =>
    obtain rfl : _ = t := Host.Outcome.next.inj h
    clear h
    (repeat' split)
    · simpa using hs
    · exact hs
    · simpa using hs
    · exact State.feedingEnd_whole hs
    · exact hs
  | stripLeft =>
    obtain rfl : _ = t := Host.Outcome.next.inj h
    clear h
    (repeat' split)
    · simpa using hs
    · simpa using hs
    · exact hs
    · exact State.finishUnload_whole _ hs
    · simpa using hs
    · exact hs
  | newMagazine =>
    obtain rfl : _ = t := Host.Outcome.next.inj h
    split
    · exact State.senseInput_whole hs
    · exact State.senseOutput_whole hs
  | unloadStart | unloadingPushRetry | unloadingPushTimeout | feedingPushStart | feedingPushTimeout | pusherReturnToRest
  | elevatorMoveStart | magazineRemoved | inkMark =>
    obtain rfl : _ = t := Host.Outcome.next.inj h
    clear h
    (repeat' (split <;> try dsimp only)) <;> simpa [ElevatorUnit.Whole, State.startUnloadPush] using hs
  | elevatorMoveEnd =>
    obtain rfl : _ = t := Host.Outcome.next.inj h
    clear h
    unfold State.judgeInputSlot State.judgeOutputSlot
    (repeat' split) <;> simpa [ElevatorUnit.Whole] using hs
  | _ => rw [(exec_keepsBut h).elevator (by simp [blocksOf])]; exact hs

theorem State.Shaped.exec {c : Instr} {s t : State} (hs : s.Shaped) (h : exec c s = .next t) : t.Shaped :=
  have hw := whole_of_exec h ⟨hs.inputSlots, hs.outputSlots⟩
  ⟨entries_of_exec h hs.alarms, roster_of_exec h hs.roster, zones_of_exec h hs.zones, trims_length_of_exec h hs.trims, hw.1, hw.2⟩

/-- Settles O54: what settles the station state does so from every state, and the other commands leave STOPPED and the STOP-class
entries as they are. -/
theorem stoppedExactlyWhileStopStands : Obligations.StoppedExactlyWhileStopStands := by
  intro s t hshape hs h
  obtain rfl | ⟨c, q, hc⟩ := step_cases h
  · exact ⟨hshape, hs⟩
  · obtain ⟨halarms, hroster, hzones, htrims, hinput, houtput⟩ := hshape
    exact ⟨State.Shaped.exec (s := s.withPending q) ⟨halarms, hroster, hzones, htrims, hinput, houtput⟩ hc,
      State.StopInv.exec (s := s.withPending q) (hs.of_eq rfl rfl) hc⟩

/-! ## The reset state -/

/-- Settles O60: each invariant of the reset state is read off its initial values. -/
theorem resetMeetsInvariants : Obligations.ResetMeetsInvariants := by
  refine ⟨⟨rfl, rfl, rfl, rfl, rfl, rfl⟩, fun h => absurd rfl h, ?_, ?_, ?_, ⟨?_, ?_, ?_⟩, ⟨fun h => (by cases h), fun _ => ?_⟩⟩
  · simp [State.TrimInv, State.reset, EnergyUnit.initial, TrimEntry.Within]
  · exact .of_still (by simp [State.reset, WireSequencer.initial]) (by simp [State.reset, WireSequencer.initial]) rfl rfl
      (by simp [State.reset, WireSequencer.initial])
  · constructor <;> simp [State.reset, StageUnit.initial, HoldsRecord]
  · constructor <;> simp [State.reset, LineUnit.initial, LineUnit.bulkCount]
  · constructor <;> simp [State.reset, PullUnit.initial]
  · constructor <;> simp [State.reset, ReportUnit.initial, ElevatorUnit.initial]
  · constructor <;> simp [State.reset, PullUnit.initial, State.resultWaiting, LineUnit.initial]

end Sys2Proof.Machine
end


section
/-! PROOFS. Power-on (R36, R38, R147), the panel's requests (R21, R22, R169, R181) and the record port (R154). -/

namespace Sys2Proof.Machine

/-! ## The record port -/

/-- Settles O51: by what the port is doing and what is READY. -/
theorem recordPortSendsOldestReport : Obligations.RecordPortSendsOldestReport := by
  intro s
  refine ⟨fun r rest hsend hready => ?_, fun hbusy => ?_, rfl⟩
  · simp [exec, execReportSendStart, hsend, hready]
  · simp only [exec, execReportSendStart]
    split
    · next hsend hready => simp [hsend, hready] at hbusy
    · rfl

/-! ## Requests -/

/-- Settles O16: by the chord's timer, the key released, and the state in which a RESTART frame is heard. -/
theorem chordOrFrameAsksForRestart : Obligations.ChordOrFrameAsksForRestart := by
  refine ⟨fun s ms ht ha hr => ?_, fun s => ⟨rfl, rfl⟩, fun s k hk => ?_⟩
  · simp [exec, execChordTimerExpiry, ht, ha, hr, State.send]
  · simp only [exec, execRestartFrame, State.hear_peer hk]
    by_cases hb : s.control.station = .boot
    · rw [State.outsideBoot_neg (by simpa using hb)]
      have hd : decide (s.control.station ≠ .boot) = false := by simp [hb]
      rw [hd]
      rfl
    · rw [State.outsideBoot_pos (by simpa using hb)]
      simp [State.answer, hb]

/-- R22: a boundary is where nothing of the station moves. -/
theorem State.atBoundary_iff (s : State) :
    s.atBoundary = true ↔ s.wire.cycle = .idle ∧ s.pull.cycle = .idle ∧ s.stage.indexMotion = none ∧
      s.elevator.input.activity ≠ .moving ∧ s.elevator.output.activity ≠ .moving := by
  simp [State.atBoundary, State.cycleInFlight, State.moving, and_assoc]

/-- A change of station state shows in station control, on the line and on the screen alone. -/
theorem State.setStation_eq (st : StationState) (s : State) :
    s.setStation st = { s with
      control := (s.setStation st).control, line := (s.setStation st).line, screen := (s.setStation st).screen } := by
  unfold State.setStation
  split <;> rfl

/-- A change to a state other than HELD keeps the hold request (R21). -/
theorem State.setStation_control_of_ne {st : StationState} (h : st ≠ .held) (s : State) :
    (s.setStation st).control = { s.control with station := st } := by
  rw [State.setStation_control]
  split
  · next he => rw [he]
  · simp [h]

/-- R21: entry to HELD clears the hold request. -/
theorem State.setStation_control_held {s : State} (h : s.control.station ≠ .held) :
    (s.setStation .held).control = { s.control with station := .held, holdRequest := false } := by
  rw [State.setStation_control, if_neg (Ne.symm h)]
  simp

/-- R22: what a boundary makes of the requests. -/
theorem execBoundaryTaken_cases (s : State) :
    (∃ st, exec .boundaryTaken s = .next (s.setStation st)) ∨ exec .boundaryTaken s = .next s := by
  simp only [exec, execBoundaryTaken]
  split
  · exact .inr rfl
  · split
    · exact .inl ⟨_, rfl⟩
    · exact .inl ⟨_, rfl⟩
    · exact .inl ⟨_, rfl⟩
    · exact .inl ⟨_, rfl⟩
    · exact .inr rfl

/-- Settles O11: by the station state, then by R22's table. -/
theorem holdIsTakenAtBoundary : Obligations.HoldIsTakenAtBoundary := by
  refine ⟨fun s => ⟨fun h => ?_, fun h1 h2 => ?_⟩, fun s => ?_⟩
  · simp [exec, execHoldKey, State.runOrPaused, h]
  · simp [exec, execHoldKey, State.runOrPaused, h1, h2]
  refine ⟨_, rfl, ?_, fun hw hp hi h1 h2 => ⟨?_, fun h3 h4 => ?_⟩, fun hb => by rw [if_pos hb]⟩
  · rcases execBoundaryTaken_cases s with ⟨st, h⟩ | h
    · rw [Host.Outcome.next.inj h]
      exact State.setStation_eq st s
    · rw [Host.Outcome.next.inj h]
  · have hb : s.atBoundary = true := s.atBoundary_iff.2 ⟨hw, hp, hi, h1, h2⟩
    simp only [hb, Bool.true_eq_false, if_false]
    rintro (hst | hst) <;> refine ⟨fun hh => ?_, fun hh hpause => ?_, fun hh hpause => ?_⟩
    · simp only [hst, hh]
      exact State.setStation_control_held (by simp [hst])
    · simp only [hst, hh, hpause]
      exact (State.setStation_control_of_ne (st := .paused) (by simp) s).trans (Control.ext rfl rfl rfl hh rfl)
    · simp only [hst, hh, hpause]
      exact Control.ext hst rfl rfl hh rfl
    · simp only [hst, hh]
      exact State.setStation_control_held (by simp [hst])
    · simp only [hst, hh, hpause]
      exact Control.ext hst rfl rfl hh rfl
    · simp only [hst, hh, hpause]
      exact (State.setStation_control_of_ne (st := .run) (by simp) s).trans (Control.ext rfl rfl rfl hh rfl)
  · (repeat' split) <;> simp_all

/-! ## Reading an entry after an operation -/

theorem State.raiseAlarm_entry_ne {i j : Nat} (d : Detail) (s : State) (h : i ≠ j) :
    (s.raiseAlarm i d).alarms.entry j = s.alarms.entry j := by
  rw [State.raiseAlarm_alarms]
  split
  · rfl
  · exact AlarmUnit.entry_put_ne _ _ h

/-- R28, R29: a raise of a source that is not disabled, read back. -/
theorem State.raiseAlarm_entry_self {i : Nat} (d : Detail) {s : State} (hi : i < s.alarms.entries.length)
    (hd : s.alarms.disabled i = false) : (s.raiseAlarm i d).alarms.entry i = (s.alarms.entry i).raised i d := by
  rw [State.raiseAlarm_alarms, hd]
  exact AlarmUnit.entry_put_self _ _ _ hi

theorem State.conditionGone_entry_ne {i j : Nat} (s : State) (h : i ≠ j) :
    (s.conditionGone i).alarms.entry j = s.alarms.entry j := by
  rw [State.conditionGone_alarms]
  exact AlarmUnit.entry_put_ne _ _ h

/-- R31: a condition reported gone is absent; an entry out of the table shows none. -/
@[simp] theorem State.conditionGone_condition (i : Nat) (s : State) : (s.conditionGone i).conditionOf i = false := by
  unfold State.conditionOf
  rw [State.conditionGone_alarms, AlarmUnit.entry_put]
  split
  · split <;> rfl
  · next h =>
    have hi : s.alarms.entries.length ≤ i := by simpa using h
    simp [AlarmUnit.entry, List.getD_eq_getElem?_getD, List.getElem?_eq_none hi, AlarmEntry.initial]

/-- Only the entry of a source whose class is NOTE can be disabled (R28). -/
theorem AlarmUnit.disabled_of_not_note {i : Nat} (h : localClass i ≠ .note) (a : AlarmUnit) : a.disabled i = false := by
  simp [AlarmUnit.disabled, h]

/-! ## Power-on -/

/-- R36: the entry of every source at power-on. -/
theorem AlarmUnit.entry_initial (i : Nat) : AlarmUnit.initial.entry i = AlarmEntry.initial i := by
  have hrange : sourceNumbers = List.range 40 := rfl
  unfold AlarmUnit.entry AlarmUnit.initial
  rw [hrange, List.getD_eq_getElem?_getD, List.getElem?_map]
  by_cases hi : i < 40
  · rw [List.getElem?_range hi]; rfl
  · rw [List.getElem?_eq_none (by simpa using hi)]; rfl

/-- R137: the first magazine sensed at the input. -/
theorem State.senseInput_elevator_of_fresh {s : State} (h : s.elevator = ElevatorUnit.initial) :
    (s.straps.infeed = true → s.senseInput.elevator.magSeq = 1 ∧ s.senseInput.elevator.input.magazine = true ∧
      s.senseInput.elevator.input.target = some (.slot 1) ∧ s.senseInput.elevator.output = s.elevator.output) ∧
    (s.straps.infeed = false → s.senseInput = s) := by
  refine ⟨fun hi => ?_, fun hi => ?_⟩
  · simp [State.senseInput, hi, h, ElevatorUnit.initial, Elevator.initial, Elevator.busy, State.newInputMagazine, Elevator.aim,
      nextMagSeq]
  · simp [State.senseInput, hi]

/-- R142: the first magazine sensed at the output. -/
theorem State.senseOutput_elevator_of_fresh {s : State} (h : s.elevator.output = Elevator.initial) :
    (s.straps.outfeed = true → s.senseOutput.elevator.output.magazine = true ∧
      s.senseOutput.elevator.output.target = some (.slot 1)) ∧
    (s.straps.outfeed = false → s.senseOutput.elevator.output = Elevator.initial) ∧
    s.senseOutput.elevator.input = s.elevator.input ∧ s.senseOutput.elevator.magSeq = s.elevator.magSeq := by
  cases hi : s.straps.outfeed <;>
    simp [State.senseOutput, hi, h, Elevator.initial, Elevator.busy, State.newOutputMagazine, Elevator.aim]

theorem State.senseInput_entry_ne {i : Nat} (s : State) (h : Source.magazineEmpty ≠ i) :
    s.senseInput.alarms.entry i = s.alarms.entry i := by
  unfold State.senseInput State.newInputMagazine
  (repeat' (split <;> try dsimp only)) <;> simp [State.conditionGone_entry_ne _ h]

theorem State.senseOutput_entry_ne {i : Nat} (s : State) (h : Source.magazineFull ≠ i) :
    s.senseOutput.alarms.entry i = s.alarms.entry i := by
  unfold State.senseOutput State.newOutputMagazine
  (repeat' (split <;> try dsimp only)) <;> simp [State.conditionGone_entry_ne _ h]

/-- R137: the first reading of the input's magazine-present sensor. -/
def State.inputRead (sensed : Bool) (s : State) : State := if sensed then s.senseInput else s

/-- R142: the first reading of the output's magazine-present sensor. -/
def State.outputRead (sensed : Bool) (s : State) : State := if sensed then s.senseOutput else s

theorem exec_powerOn_eq (p : Straps) (r : FirstReading) (s : State) :
    exec (.powerOn p r) s =
      .next ((((State.poweredOn p s.pending).senseStrip r.strip).inputRead r.inputMagazine).outputRead r.outputMagazine) := rfl

/-- R137: what the first reading of the input's sensor leaves, sensed or not. -/
theorem State.inputRead_of_fresh {s : State} (h : s.elevator = ElevatorUnit.initial) (sensed : Bool) :
    (s.inputRead sensed).straps = s.straps ∧ (s.inputRead sensed).stage = s.stage ∧
    (s.inputRead sensed).alarms.entry Source.untrackedStrip = s.alarms.entry Source.untrackedStrip ∧
    (s.inputRead sensed).elevator.output = Elevator.initial ∧
    (s.straps.infeed = true ∧ sensed = true → (s.inputRead sensed).elevator.magSeq = 1 ∧
      (s.inputRead sensed).elevator.input.magazine = true ∧
      (s.inputRead sensed).elevator.input.target = some (.slot 1)) ∧
    (s.straps.infeed = false ∨ sensed = false → (s.inputRead sensed).elevator.magSeq = 0 ∧
      (s.inputRead sensed).elevator.input.magazine = false ∧ (s.inputRead sensed).elevator.input.target = none) := by
  obtain ⟨hon, hoff⟩ := State.senseInput_elevator_of_fresh h
  unfold State.inputRead
  cases sensed with
  | false => simp [h, ElevatorUnit.initial, Elevator.initial]
  | true =>
    refine ⟨by simp, by simp, State.senseInput_entry_ne s (by decide), ?_, ?_, ?_⟩
    · cases hi : s.straps.infeed with
      | false => simp [hoff hi, h, ElevatorUnit.initial]
      | true => simp [(hon hi).2.2.2, h, ElevatorUnit.initial]
    · rintro ⟨hi, -⟩
      exact ⟨(hon hi).1, (hon hi).2.1, (hon hi).2.2.1⟩
    · rintro (hi | hi)
      · simp [hoff hi, h, ElevatorUnit.initial, Elevator.initial]
      · simp at hi

/-- R142: what the first reading of the output's sensor leaves, sensed or not. -/
theorem State.outputRead_of_fresh {s : State} (h : s.elevator.output = Elevator.initial) (sensed : Bool) :
    (s.outputRead sensed).straps = s.straps ∧ (s.outputRead sensed).stage = s.stage ∧
    (s.outputRead sensed).alarms.entry Source.untrackedStrip = s.alarms.entry Source.untrackedStrip ∧
    (s.outputRead sensed).elevator.magSeq = s.elevator.magSeq ∧ (s.outputRead sensed).elevator.input = s.elevator.input ∧
    (s.straps.outfeed = true ∧ sensed = true → (s.outputRead sensed).elevator.output.magazine = true ∧
      (s.outputRead sensed).elevator.output.target = some (.slot 1)) ∧
    (s.straps.outfeed = false ∨ sensed = false → (s.outputRead sensed).elevator.output.magazine = false ∧
      (s.outputRead sensed).elevator.output.target = none) := by
  obtain ⟨hon, hoff, hinput, hseq⟩ := State.senseOutput_elevator_of_fresh h
  unfold State.outputRead
  cases sensed with
  | false => simp [h, Elevator.initial]
  | true =>
    refine ⟨by simp, by simp, State.senseOutput_entry_ne s (by decide), hseq, hinput, fun hi => hon hi.1, ?_⟩
    rintro (hi | hi)
    · simp [hoff hi, Elevator.initial]
    · simp at hi

/-- R38: a strip sensed at power-on. -/
theorem State.senseStrip_true (p : Straps) (q : List Instr) :
    ((State.poweredOn p q).senseStrip true).stage = { StageUnit.initial with
      state := .loaded, record := some (untrackedRecord unknownSerial 0), dwell := ⟨true, false, 900⟩ } ∧
    ((State.poweredOn p q).senseStrip true).alarms.entry Source.untrackedStrip =
      (AlarmEntry.initial Source.untrackedStrip).raised Source.untrackedStrip (.lineSeq 0) := by
  have halarms : (State.takeStrip (untrackedRecord unknownSerial 0) 0 (.poweredOn p q)).alarms = AlarmUnit.initial := by
    simp; rfl
  refine ⟨?_, ?_⟩
  · simp only [State.senseStrip, State.takeUntracked, if_true, State.raiseAlarm_frame, State.takeStrip_stage]
    rfl
  · simp only [State.senseStrip, State.takeUntracked, if_true]
    rw [State.raiseAlarm_entry_self, halarms, AlarmUnit.entry_initial]
    · rw [halarms]
      decide
    · rw [halarms]
      decide

/-- Settles O6: the blocks are read off the reset state, and what a reading adds off the operation that takes it. -/
theorem powerOnReadsStagePort : Obligations.PowerOnReadsStagePort := by
  refine ⟨fun p s => ⟨_, rfl, rfl, rfl, rfl, fun i _ => ?_, fun i hi => ?_, rfl⟩, fun p r s => ⟨_, exec_powerOn_eq p r s, ?_⟩⟩
  · rw [show State.alarms _ = AlarmUnit.initial from rfl, AlarmUnit.entry_initial]
    exact ⟨rfl, rfl, rfl, rfl⟩
  · rw [show State.alarms _ = AlarmUnit.initial from rfl, AlarmUnit.entry_initial]
    simp only [AlarmEntry.initial]
    split
    · rfl
    · rw [if_pos (by omega)]
  · have hfresh : ((State.poweredOn p s.pending).senseStrip r.strip).elevator = ElevatorUnit.initial := by
      simp; rfl
    have hstraps : ((State.poweredOn p s.pending).senseStrip r.strip).straps = p := by
      simp; rfl
    obtain ⟨hs1, hg1, ha1, ho1, hon1, hoff1⟩ := State.inputRead_of_fresh hfresh r.inputMagazine
    obtain ⟨hs2, hg2, ha2, hm2, hi2, hon2, hoff2⟩ := State.outputRead_of_fresh ho1 r.outputMagazine
    rw [hs1, hstraps] at hs2 hon2 hoff2
    rw [hstraps] at hon1 hoff1
    refine ⟨hs2, fun hstrip => ?_, fun hnone => ?_, fun h => ?_, fun h => ?_, hon2, hoff2⟩
    · obtain ⟨hstage, hentry⟩ := State.senseStrip_true p s.pending
      rw [hg2, hg1, ha2, ha1, hstrip, hstage, hentry]
      exact ⟨rfl, rfl, rfl, rfl, rfl, rfl⟩
    · rw [hg2, hg1, hnone]
      rfl
    · rw [hm2, hi2]
      exact hon1 h
    · rw [hm2, hi2]
      exact hoff1 h

end Sys2Proof.Machine
end


section
/-! PROOFS. The ACK key (R26, R30, R80, R134, R167): under a banner, and on the pages without one. -/

namespace Sys2Proof.Machine

/-! ## The banner (R32) -/

/-- R32, R33: the source chosen is one of those listed, and is admitted. -/
theorem AlarmUnit.highest_mem {a : AlarmUnit} {keep : Nat → Bool} {l : List Nat} {i : Nat} (h : a.highest keep l = some i) :
    i ∈ l ∧ keep i = true := by
  induction l with
  | nil => simp [AlarmUnit.highest] at h
  | cons j js ih =>
    rw [AlarmUnit.highest] at h
    split at h
    · split at h
      · next hk => obtain rfl := Option.some.inj h; exact ⟨by simp, hk⟩
      · simp at h
    · next k hk =>
      split at h
      · next hc =>
        obtain rfl := Option.some.inj h
        exact ⟨by simp, (Bool.and_eq_true _ _ ▸ hc).1⟩
      · obtain rfl := Option.some.inj h
        have := ih hk
        exact ⟨by simp [this.1], this.2⟩

/-- R32: the banner shows an entry that is ACTIVE above the mask. -/
theorem AlarmUnit.banner_active {a : AlarmUnit} {i : Nat} (h : a.banner = some i) :
    i < 40 ∧ (a.entry i).state = .active ∧ a.mask < (a.entry i).level := by
  obtain ⟨hm, hk⟩ := AlarmUnit.highest_mem h
  exact ⟨mem_sourceNumbers.1 hm, by simpa using hk⟩

/-! ## The keys' own marks (R169) -/

/-- R169: a press changes the keys' marks and the chord timer alone. -/
theorem State.pressKey_eq (k : ChordKey) (s : State) :
    s.pressKey k = { s with screen := { s.screen with
      keys := (s.pressKey k).screen.keys, chordTimer := (s.pressKey k).screen.chordTimer } } := by
  unfold State.pressKey ScreenUnit.chordPressed
  dsimp only
  (repeat' split) <;> rfl

@[simp] theorem State.pressKey_screen (k : ChordKey) (s : State) :
    (s.pressKey k).screen.buffer = s.screen.buffer ∧ (s.pressKey k).screen.page = s.screen.page ∧
    (s.pressKey k).screen.pageCount = s.screen.pageCount ∧ (s.pressKey k).screen.pageKinds = s.screen.pageKinds ∧
    (s.pressKey k).screen.triggers = s.screen.triggers ∧ (s.pressKey k).screen.descriptors = s.screen.descriptors ∧
    (s.pressKey k).screen.notice = s.screen.notice := by
  rw [State.pressKey_eq]
  exact ⟨rfl, rfl, rfl, rfl, rfl, rfl, rfl⟩

@[simp] theorem State.pressKey_pageKind (k : ChordKey) (s : State) : (s.pressKey k).screen.pageKind = s.screen.pageKind := by
  simp [ScreenUnit.pageKind]

/-- R167: what a press of ACK outside BOOT comes to. -/
theorem exec_ackKey_eq {s : State} (h : s.control.station ≠ .boot) : exec .ackKey s = .next (s.pressKey .ack).ackPress := by
  simp only [exec, execAckKey]
  rw [State.outsideBoot_pos (by simpa using h)]

/-! ## The pages -/

/-- R31: a condition that an owner ends where it is present is absent afterwards. -/
@[simp] theorem State.endCondition_condition (i : Nat) (s : State) : (s.endCondition i).conditionOf i = false := by
  unfold State.endCondition
  split
  · simp
  · next h => simpa using h

theorem State.endCondition_entry_ne {i j : Nat} (s : State) (h : i ≠ j) :
    (s.endCondition i).alarms.entry j = s.alarms.entry j := by
  unfold State.endCondition
  split
  · exact s.conditionGone_entry_ne h
  · rfl

theorem State.judgeCover_entry_ne {j : Nat} (s : State) (h : Source.noCover ≠ j) :
    s.judgeCover.alarms.entry j = s.alarms.entry j := by
  unfold State.judgeCover State.endCoverWait
  (repeat' split)
  · exact State.conditionGone_entry_ne _ h
  · rfl
  · rfl

/-- R44: the end of a cover wait that needs none. -/
theorem State.judgeCover_stage_of_head {s : State} (hb : s.control.station ≠ .boot) (hh : s.control.head = .headIn) :
    s.judgeCover.stage = { s.stage with coverWait := false } := by
  unfold State.judgeCover
  rw [if_pos ⟨hb, .inl hh⟩]
  exact s.endCoverWait_stage

/-- R80: the debit mark of a wire in flight after a spool confirm. -/
theorem State.waiveDebit_wire (s : State) :
    s.waiveDebit.wire = { s.wire with
      inFlight := s.wire.inFlight.map fun f => if f.debit = .due then { f with debit := .waived } else f } := by
  unfold State.waiveDebit
  split
  · next f hf =>
    split
    · next hd => simp [hf, hd]
    · next hd => ext <;> simp [hf, hd]
  · next hf => ext <;> simp [hf]

@[simp] theorem State.endCondition_control (i : Nat) (s : State) : (s.endCondition i).control = s.control := by
  unfold State.endCondition State.conditionGone
  (repeat' (split <;> try dsimp only)) <;> rfl

/-- R26, R80: what the spool confirm leaves. -/
theorem State.spoolConfirm_ends {s : State} (hr : s.straps.role = .head) (hb : s.control.station ≠ .boot) :
    s.spoolConfirm.wire = { s.wire with
      stock := s.head (·.spoolLength)
      inFlight := s.wire.inFlight.map fun f => if f.debit = .due then { f with debit := .waived } else f } ∧
    s.spoolConfirm.control = { s.control with head := .headIn } ∧
    s.spoolConfirm.stage = { s.stage with coverWait := false } ∧
    s.spoolConfirm.conditionOf Source.wireEnd = false ∧ s.spoolConfirm.conditionOf Source.wireLow = false := by
  unfold State.spoolConfirm
  rw [if_neg (by simp [hr])]
  refine ⟨by simp [State.waiveDebit_wire], by simp, ?_, ?_, ?_⟩
  · rw [State.judgeCover_stage_of_head (by simpa using hb) (by simp)]
    simp
  · have hw : (((({ s with wire := { s.wire with stock := s.head (·.spoolLength) } } : State).setHead .headIn).endCondition
        Source.wireEnd).endCondition Source.wireLow).conditionOf Source.wireEnd = false := by
      rw [State.conditionOf, State.endCondition_entry_ne _ (by decide)]
      exact State.endCondition_condition _ _
    rw [State.conditionOf, State.judgeCover_entry_ne _ (by decide)]
    simpa [State.conditionOf] using hw
  · rw [State.conditionOf, State.judgeCover_entry_ne _ (by decide)]
    simpa [State.conditionOf] using State.endCondition_condition Source.wireLow
      ((({ s with wire := { s.wire with stock := s.head (·.spoolLength) } } : State).setHead .headIn).endCondition Source.wireEnd)

/-! ## ACK without a banner (R167) -/

theorem State.ackPress_spool {s : State} (hn : s.alarms.banner = none) (hk : s.screen.pageKind = .spool) :
    s.ackPress = s.spoolConfirm := by
  unfold State.ackPress
  split
  · next h => rw [hn] at h; cases h
  · split <;> simp_all

theorem State.ackPress_failures {s : State} (hn : s.alarms.banner = none) (hk : s.screen.pageKind = .failures) :
    s.ackPress = s.takeFailure := by
  unfold State.ackPress
  split
  · next h => rw [hn] at h; cases h
  · split <;> simp_all

theorem State.ackPress_general {s : State} (hn : s.alarms.banner = none) (hk : s.screen.pageKind = .general) :
    s.ackPress = s := by
  unfold State.ackPress
  split
  · next h => rw [hn] at h; cases h
  · split <;> simp_all

/-- Settles O10, by the kind of the page: the spool confirm, the operator's take, and the pages where ACK does nothing. -/
theorem ackActsOnPageWithoutBanner : Obligations.AckActsOnPageWithoutBanner := by
  intro s hb hn
  have hn' : (s.pressKey .ack).alarms.banner = none := by simpa using hn
  refine ⟨fun hk hr => ⟨_, exec_ackKey_eq hb, ?_⟩, fun hk => ⟨_, exec_ackKey_eq hb, ?_⟩, fun hk => ⟨_, exec_ackKey_eq hb, ?_⟩⟩
  · rw [State.ackPress_spool hn' (by simpa using hk)]
    obtain ⟨hwire, hcontrol, hstage, he, hl⟩ := (s.pressKey .ack).spoolConfirm_ends (by simpa using hr) (by simpa using hb)
    refine ⟨by simpa [State.head, State.setting, State.program?] using hwire, by simpa using hcontrol, by simpa using hstage, he, hl, ?_⟩
    apply State.ext <;> simp
  · rw [State.ackPress_failures hn' (by simpa using hk)]
    have he := s.pressKey_eq .ack
    have hs := s.pressKey_screen .ack
    have hpull : (s.pressKey .ack).pull = s.pull := by simp
    cases hf : s.pull.failures with
    | nil =>
      have ht : (s.pressKey .ack).takeFailure = s.pressKey .ack := by
        unfold State.takeFailure
        rw [hpull, hf]
      rw [ht]
      exact ⟨by rw [he], fun _ => ⟨hpull, hs.2.2.2.2.1⟩, fun x rest h => by simp at h⟩
    | cons y ys =>
      have ht : (s.pressKey .ack).takeFailure = State.event .pullDone { s.pressKey .ack with
          pull := { s.pull with failures := ys, discards := if ys.isEmpty then 0 else s.pull.discards } } := by
        unfold State.takeFailure
        rw [hpull, hf]
      rw [ht]
      refine ⟨by apply State.ext <;> simp, fun h => by simp at h, fun x rest h => ?_⟩
      obtain ⟨-, rfl⟩ := List.cons.inj h
      exact ⟨by simp, by simp [ScreenUnit.raise]⟩
  · have he := s.pressKey_eq .ack
    rcases hk with hk | ⟨hk, hr⟩
    · rw [State.ackPress_general hn' (by simpa using hk)]
      exact he
    · rw [State.ackPress_spool hn' (by simpa using hk)]
      simp only [State.spoolConfirm]
      rw [if_pos (by simpa using hr)]
      exact he

end Sys2Proof.Machine
end


section
/-! PROOFS. What a request leaves in the transmit queue, what the roster's readings depend on, and the ways out of STOPPED
(R25, R30, R174, R179). -/

namespace Sys2Proof.Machine

/-! ## The transmit queue (R174) -/

theorem mem_mergeFrame_of_not_merges {body : TxBody} {q : List TxEntry} {e : TxEntry} (he : e ∈ q)
    (hn : e.mergesWith body = false) : e ∈ mergeFrame body q := by
  induction q with
  | nil => simp at he
  | cons x xs ih =>
    simp only [mergeFrame]
    split
    · next hx =>
      rcases List.mem_cons.1 he with rfl | he
      · rw [hn] at hx; simp at hx
      · exact List.mem_cons_of_mem _ he
    · rcases List.mem_cons.1 he with rfl | he
      · simp
      · exact List.mem_cons_of_mem _ (ih he)

/-- R174: with room in the queue, a request removes no frame that it does not merge with. -/
theorem LineUnit.Holds.request {l : LineUnit} {b body : TxBody} (h : l.Holds b) (target : Nat) (hq : l.queue.length < 16)
    (hn : ∀ e : TxEntry, e.body = b → e.mergesWith body = false) : (l.request target body).Holds b := by
  obtain ⟨e, he, hb⟩ := h
  rcases l.request_cases target body with ⟨-, hr⟩ | ⟨-, -, hr⟩ | ⟨-, -, hr⟩ | ⟨-, h, -⟩ | ⟨-, h, -⟩
  · exact ⟨e, by rw [hr]; exact mem_mergeFrame_of_not_merges he (hn e hb), hb⟩
  · exact ⟨e, by rw [hr]; simp [he], hb⟩
  · exact ⟨e, by rw [hr]; exact he, hb⟩
  · omega
  · omega

/-- R174: a STATE frame asked for with room removes no other frame. -/
theorem LineUnit.Holds.requestState {l : LineUnit} {b : TxBody} (h : l.Holds b) (hq : l.queue.length < 16) :
    (l.request 0 .state).Holds b := by
  by_cases hb : b = .state
  · rw [hb]
    exact LineUnit.request_holds 0 (by decide) hq
  · refine h.request 0 hq fun e he => ?_
    unfold TxEntry.mergesWith
    cases b <;> simp_all

/-- R174: a request lengthens the queue by one frame at most, and never beyond 16. -/
theorem LineUnit.length_request (target : Nat) (body : TxBody) (l : LineUnit) :
    (l.request target body).queue.length ≤ l.queue.length + 1 := by
  rcases l.request_cases target body with ⟨-, hr⟩ | ⟨-, -, hr⟩ | ⟨-, -, hr⟩ | ⟨-, -, hg, hr⟩ | ⟨-, -, -, hr⟩ <;> rw [hr]
  · simp [mergeFrame_length]
  · simp
  · simp
  · have := dropFirst_length hg
    simp only [List.length_append, List.length_singleton]
    omega
  · simp

/-- R33, R175: with room for two frames, the ALARM frame of a changed entry stands in the queue. -/
theorem LineUnit.afterAlarm_holds (old new : AlarmUnit) {b : TxBody} {l : LineUnit} (hc : b.frameClass < 5)
    (hq : l.queue.length < 15) : (l.afterAlarm old new (some b)).Holds b := by
  have h1 : (l.request 0 b).Holds b := LineUnit.request_holds 0 hc (by omega)
  unfold LineUnit.afterAlarm
  dsimp only
  split
  · exact h1
  · exact h1.requestState (by have := l.length_request 0 b; omega)

@[simp] theorem LineUnit.afterAlarm_rollCallTimer (old new : AlarmUnit) (news : Option TxBody) (l : LineUnit) :
    (l.afterAlarm old new news).rollCallTimer = l.rollCallTimer := by
  unfold LineUnit.afterAlarm
  (repeat' (split <;> try dsimp only)) <;> simp

@[simp] theorem State.conditionGone_rollCallTimer (i : Nat) (s : State) :
    (s.conditionGone i).line.rollCallTimer = s.line.rollCallTimer := by
  unfold State.conditionGone State.putEntry
  (repeat' (split <;> try dsimp only)) <;> simp

@[simp] theorem State.conditionGone_roster (i : Nat) (s : State) : (s.conditionGone i).line.roster = s.line.roster := by
  unfold State.conditionGone State.putEntry
  (repeat' (split <;> try dsimp only)) <;> simp

@[simp] theorem State.acknowledge_roster (i : Nat) (s : State) : (s.acknowledge i).line.roster = s.line.roster := by
  simp [State.acknowledge, State.putEntry]

/-! ## What the roster's readings depend on (R178 to R180) -/

/-- The straps, the loader and the heard roster are the same. -/
structure SameLine (s t : State) : Prop where
  straps : t.straps = s.straps
  loader : t.loader = s.loader
  roster : t.line.roster = s.line.roster

namespace SameLine

theorem identity {s t : State} (h : SameLine s t) (k : Nat) : (t.rosterEntry k).identity = (s.rosterEntry k).identity := by
  obtain ⟨hs, hl, hr⟩ := h
  unfold State.rosterEntry State.ownIdentity State.programId?
  rw [hs, hl, hr]
  (repeat' split) <;> rfl

theorem presentWith {s t : State} (h : SameLine s t) (f : Nat → PeerIdentity → Bool) : t.presentWith f = s.presentWith f := by
  unfold State.presentWith
  congr 1
  funext k
  rw [h.identity]

theorem outfeedStation {s t : State} (h : SameLine s t) : t.outfeedStation = s.outfeedStation := by
  unfold State.outfeedStation
  rw [h.presentWith]

theorem rollCallComplete {s t : State} (h : SameLine s t) : t.rollCallComplete = s.rollCallComplete := by
  unfold State.rollCallComplete State.present
  rw [h.outfeedStation]
  simp only [h.identity]

theorem mismatch {s t : State} (h : SameLine s t) : t.mismatch = s.mismatch := by
  unfold State.mismatch State.programId?
  rw [h.loader]
  simp only [h.presentWith]

theorem mapBreaches {s t : State} (h : SameLine s t) (n : Nat) : t.mapBreaches n = s.mapBreaches n := by
  unfold State.mapBreaches State.program? State.mapBreach
  rw [h.loader]
  simp only [h.identity]

theorem layoutBreaches {s t : State} (h : SameLine s t) : t.layoutBreaches = s.layoutBreaches := by
  unfold State.layoutBreaches State.completeBreaches
  simp only [h.presentWith, h.outfeedStation, h.rollCallComplete, h.mapBreaches]

theorem trans {s t u : State} (h : SameLine s t) (k : SameLine t u) : SameLine s u :=
  ⟨k.straps.trans h.straps, k.loader.trans h.loader, k.roster.trans h.roster⟩

end SameLine

/-! ## STOP-class entries (R25) -/

/-- The class of every source after a change that leaves the class of the entry. -/
theorem AlarmUnit.classOf_put_same (a : AlarmUnit) (i j : Nat) {e : AlarmEntry} (h : e.mirrored = (a.entry i).mirrored) :
    (a.put i e).classOf j = a.classOf j := by
  unfold AlarmUnit.classOf
  rw [AlarmUnit.entry_put]
  split
  · rfl
  · split
    · next hij => rw [h, hij.1]
    · rfl

/-- R31: the end of a condition lets no STOP-class entry stand that did not. -/
theorem State.conditionGone_stopStands_of_not {i : Nat} {s : State} (h : s.alarms.stopStands = false) :
    (s.conditionGone i).alarms.stopStands = false := by
  rw [Bool.eq_false_iff, ne_eq, AlarmUnit.stopStands_iff, State.conditionGone_alarms] at *
  rintro ⟨j, hj, hc, hs⟩
  rw [AlarmUnit.classOf_put_same _ _ _ (by split <;> rfl)] at hc
  refine h ⟨j, hj, hc, ?_⟩
  rw [AlarmUnit.entry_put] at hs
  split at hs
  · next hij =>
    obtain ⟨rfl, -⟩ := hij
    split at hs
    · simp at hs
    · exact hs
  · exact hs

/-! ## Leaving STOPPED (R25) -/

/-- R24: a station outside STOPPED with no STOP-class entry standing stays as it is. -/
theorem State.settleStop_of_none {s : State} (h : s.alarms.stopStands = false) : s.settleStop = s := by
  unfold State.settleStop
  rw [if_neg (by simp [h])]

theorem State.settle_of_none {s : State} (hs : s.control.station ≠ .stopped) (h : s.alarms.stopStands = false) : s.settle = s := by
  unfold State.settle
  rw [if_neg (fun c => hs c.1), State.settleStop_of_none h]

/-- R25: a STOPPED station stays while a STOP-class entry stands. -/
theorem State.settle_of_stopped {s : State} (hs : s.control.station = .stopped) (h : s.alarms.stopStands = true) : s.settle = s := by
  unfold State.settle State.settleStop
  rw [if_neg (by simp [h]), if_neg (by simp [hs])]

theorem State.judgeGap_of_incomplete {s : State} (h : s.rollCallComplete = false) : s.judgeGap = s := by
  unfold State.judgeGap
  rw [if_neg (by simp [h])]

/-- R25, R179: a station whose line was never started and whose roll call is incomplete enters ROLLCALL. -/
theorem State.enterRollCall_incomplete {s : State} (hs : s.control.station = .stopped) (hr : s.rollCallComplete = false)
    (hm : s.mismatch = none) (hl : s.layoutBreaches = []) (hn : s.alarms.stopStands = false) :
    s.enterRollCall.control = { s.control with station := .rollcall } ∧ s.enterRollCall.line.rollCallTimer = .running 2000 ∧
    s.enterRollCall.alarms.stopStands = false := by
  obtain ⟨u, hu⟩ : ∃ u : State, u = { (s.setStation .rollcall).sendPresent with
      line := { (s.setStation .rollcall).sendPresent.line with rollCallTimer := .running Config.rollCallTime } } := ⟨_, rfl⟩
  have hcontrol : u.control = { s.control with station := .rollcall } := by
    simp [hu, State.setStation_control, hs]
  have hsame : SameLine s u := by
    refine ⟨by simp [hu], by simp [hu], ?_⟩
    rw [hu]
    unfold State.sendPresent State.setStation
    (repeat' (split <;> try dsimp only)) <;> simp
  have hstands : u.alarms.stopStands = false := by simpa [hu] using hn
  have hgone : SameLine u (u.conditionGone Source.programMismatch) := ⟨by simp, by simp, by simp⟩
  have hgone' : SameLine u ((u.conditionGone Source.programMismatch).conditionGone Source.lineLayout) :=
    hgone.trans ⟨by simp, by simp, by simp⟩
  have hjudge : u.judgeRoster = (u.conditionGone Source.programMismatch).conditionGone Source.lineLayout := by
    unfold State.judgeRoster
    rw [if_neg (by simp [hcontrol]), hsame.mismatch, hm]
    simp only [State.judgeFinding]
    rw [(hsame.trans hgone).layoutBreaches, hl]
    exact State.judgeGap_of_incomplete ((hsame.trans hgone').rollCallComplete.trans hr)
  have hready : u.judgeRoster.tryReady = u.judgeRoster := by
    unfold State.tryReady
    rw [hjudge, (hsame.trans hgone').rollCallComplete, hr]
    simp
  have henter : s.enterRollCall = u.judgeRoster := by
    rw [← hready, hu]
    rfl
  rw [henter, hjudge]
  refine ⟨by simp [hcontrol], by simp [hu, Config.rollCallTime], ?_⟩
  exact State.conditionGone_stopStands_of_not (State.conditionGone_stopStands_of_not hstands)

/-- R25: out of STOPPED, by the line-started flag and the roll call. -/
theorem State.settle_leaves {s : State} (hs : s.control.station = .stopped) (hn : s.alarms.stopStands = false) :
    (s.control.lineStarted = true → s.settle.control = { s.control with station := .held, holdRequest := false }) ∧
    (s.control.lineStarted = false → s.rollCallComplete = true → s.settle.control = { s.control with station := .ready }) ∧
    (s.control.lineStarted = false → s.rollCallComplete = false → s.mismatch = none → s.layoutBreaches = [] →
      s.settle.control = { s.control with station := .rollcall } ∧ s.settle.line.rollCallTimer = .running 2000) := by
  have hsettle : s.settle = s.leaveStopped.settleStop := by
    unfold State.settle
    rw [if_pos ⟨hs, hn⟩]
  rw [hsettle]
  unfold State.leaveStopped
  refine ⟨fun hl => ?_, fun hl hr => ?_, fun hl hr hm hb => ?_⟩
  · rw [if_pos hl, State.settleStop_of_none (by simpa using hn)]
    simp [State.setStation_control, hs]
  · rw [if_neg (by simp [hl]), if_pos hr, State.settleStop_of_none (by simpa using hn)]
    simp [State.setStation_control, hs]
  · obtain ⟨hcontrol, htimer, hstands⟩ := State.enterRollCall_incomplete hs hr hm hb hn
    rw [if_neg (by simp [hl]), if_neg (by simp [hr]), State.settleStop_of_none hstands]
    exact ⟨hcontrol, htimer⟩

/-! ## ACK under a banner (R30, R167) -/

/-- R30: the state of an ACTIVE entry after an acknowledgement. -/
def ackedState (i : Nat) (e : AlarmEntry) : AlarmState :=
  if isEvent i = true ∨ 32 ≤ i ∨ e.condition = true then .acked else .clear

theorem AlarmEntry.acknowledged_of_active {i : Nat} {e : AlarmEntry} (h : e.state = .active) :
    e.acknowledged i = { e with state := ackedState i e } := by
  unfold AlarmEntry.acknowledged ackedState
  rw [h]
  simp only [Bool.or_eq_true, decide_eq_true_eq, or_assoc]
  split <;> rfl

/-- Settles O9, by what stands of class STOP once the entry is acknowledged. -/
theorem ackActsOnBannerEntry : Obligations.AckActsOnBannerEntry := by
  intro s i hshape hb hbanner old after
  obtain ⟨hi, hactive, -⟩ := AlarmUnit.banner_active hbanner
  have hlen : i < s.alarms.entries.length := AlarmUnit.lt_of_state (by simp [hactive])
  obtain ⟨u, hu⟩ : ∃ u : State, u = (s.pressKey .ack).acknowledge i := ⟨_, rfl⟩
  have hexec : exec .ackKey s = .next u.settle := by
    rw [exec_ackKey_eq hb]
    unfold State.ackPress
    rw [show (s.pressKey .ack).alarms.banner = some i by simpa using hbanner, hu]
  have halarms : u.alarms = s.alarms.put i { old with state := after } := by
    rw [hu, State.acknowledge_alarms]
    simp only [State.pressKey_frame]
    rw [AlarmEntry.acknowledged_of_active hactive]
    rfl
  have hkeep : u = { s with alarms := u.alarms, line := u.line, screen := u.screen } := by
    rw [hu]
    apply State.ext <;> simp
  have hcontrol : u.control = s.control := by rw [hkeep]
  have hsame : SameLine s u := ⟨by rw [hkeep], by rw [hkeep], by simp [hu]⟩
  have hclass (j : Nat) : u.alarms.classOf j = s.alarms.classOf j := by
    rw [halarms]
    exact AlarmUnit.classOf_put_same _ _ _ rfl
  have hself : (u.alarms.entry i).state = after := by rw [halarms, AlarmUnit.entry_put_self _ _ _ hlen]
  have hother {j : Nat} (h : j ≠ i) : u.alarms.entry j = s.alarms.entry j := by
    rw [halarms, AlarmUnit.entry_put_ne _ _ (Ne.symm h)]
  refine ⟨fun hns hn => ?_, fun hst hrest hafter => ?_, fun hst hrest => ?_⟩
  · have hstands : u.alarms.stopStands = false := by
      rw [Bool.eq_false_iff, ne_eq, AlarmUnit.stopStands_iff] at hn ⊢
      rintro ⟨j, hj, hc, hs⟩
      rw [hclass] at hc
      refine hn ⟨j, hj, hc, ?_⟩
      by_cases h : j = i
      · rw [h, hactive]; simp
      · rwa [hother h] at hs
    rw [State.settle_of_none (by rwa [hcontrol]) hstands] at hexec
    refine ⟨u, hexec, halarms, hkeep, fun h32 hq => ?_⟩
    rw [hu]
    unfold State.acknowledge State.putEntry
    simp only [State.pressKey_frame]
    rw [if_pos (by simp [hactive, h32]), AlarmEntry.acknowledged_of_active hactive]
    exact LineUnit.afterAlarm_holds _ _ (by simp [alarmBody, TxBody.frameClass]) hq
  · have hstands : u.alarms.stopStands = false := by
      rw [Bool.eq_false_iff, ne_eq, AlarmUnit.stopStands_iff]
      rintro ⟨j, hj, hc, hs⟩
      rw [hclass] at hc
      by_cases h : j = i
      · rw [h, hself, hafter] at hs; simp at hs
      · rw [hother h] at hs
        exact hs (hrest j hj h hc)
    obtain ⟨hheld, hready, hroll⟩ := State.settle_leaves (by rwa [hcontrol]) hstands
    rw [hcontrol, hsame.rollCallComplete, hsame.mismatch, hsame.layoutBreaches] at *
    exact ⟨_, hexec, hheld, hready, hroll⟩
  · have hstands : u.alarms.stopStands = true := by
      rw [AlarmUnit.stopStands_iff]
      obtain ⟨j, hj, hne, hc, hs⟩ := hrest
      refine ⟨j, hj, by rwa [hclass], ?_⟩
      by_cases h : j = i
      · rw [h, hself]; exact hne.resolve_left (fun c => c h)
      · rwa [hother h]
    rw [State.settle_of_stopped (by rwa [hcontrol]) hstands] at hexec
    exact ⟨u, hexec, halarms, hkeep⟩

end Sys2Proof.Machine
end


section
/-! PROOFS. The RESUME key (R20, R23, R157): its first two steps over the alarm table, what is released at a press, and when the
press is accepted. -/

namespace Sys2Proof.Machine

/-! ## What changes neither station control nor the notice -/

@[simp] theorem ScreenUnit.raise_notice (k : EventKind) (c : ScreenUnit) : (c.raise k).notice = c.notice := rfl

@[simp] theorem ScreenUnit.afterAlarm_notice (old new : AlarmUnit) (shown : Bool) (c : ScreenUnit) :
    (c.afterAlarm old new shown).notice = c.notice := by
  unfold ScreenUnit.afterAlarm ScreenUnit.bannerLeft
  (repeat' (split <;> try dsimp only)) <;> rfl

/-- Station control and the refusal notice are the same. -/
structure KeepsPanel (s t : State) : Prop where
  control : t.control = s.control
  notice : t.screen.notice = s.screen.notice

namespace KeepsPanel

theorem refl (s : State) : KeepsPanel s s := ⟨rfl, rfl⟩

theorem trans {s t u : State} (h : KeepsPanel s t) (k : KeepsPanel t u) : KeepsPanel s u :=
  ⟨k.control.trans h.control, k.notice.trans h.notice⟩

/-- Set-up before a step that itself touches neither. -/
theorem after {s t u : State} (k : KeepsPanel t u) (hc : t.control = s.control) (hn : t.screen.notice = s.screen.notice) :
    KeepsPanel s u :=
  trans ⟨hc, hn⟩ k

theorem conditionGone (i : Nat) (s : State) : KeepsPanel s (s.conditionGone i) := by
  refine ⟨by simp, ?_⟩
  unfold State.conditionGone State.putEntry
  (repeat' (split <;> try dsimp only)) <;> simp

/-- R21: a raise outside class HOLD. -/
theorem raiseAlarm {i : Nat} (hi : localClass i ≠ .hold) (d : Detail) (s : State) : KeepsPanel s (s.raiseAlarm i d) := by
  refine ⟨s.raiseAlarm_control_of_not_hold d hi, ?_⟩
  unfold State.raiseAlarm State.putEntry
  split <;> simp

theorem setStage (st : StageState) (s : State) : KeepsPanel s (s.setStage st) := by
  refine ⟨by simp, ?_⟩
  unfold State.setStage
  split <;> simp

theorem stopDwell (s : State) : KeepsPanel s s.stopDwell := by
  unfold State.stopDwell
  dsimp only
  split
  · exact after (.conditionGone _ _) rfl rfl
  · exact ⟨rfl, rfl⟩

theorem emptyStage (s : State) : KeepsPanel s s.emptyStage := by
  unfold State.emptyStage
  dsimp only
  split
  · exact (setStage .empty s).trans (after (.stopDwell _) rfl rfl)
  · exact (setStage .empty s).trans (after (.stopDwell _) rfl rfl)

theorem takeBack (s : State) : KeepsPanel s s.takeBack := by
  unfold State.takeBack
  exact after (.setStage _ _) rfl rfl

theorem nextInput (n : Nat) (s : State) : KeepsPanel s (s.nextInput n) := by
  unfold State.nextInput
  split
  · exact ⟨rfl, rfl⟩
  · exact after (.raiseAlarm (by decide) _ _) rfl rfl

theorem nextOutput (n : Nat) (s : State) : KeepsPanel s (s.nextOutput n) := by
  unfold State.nextOutput
  split
  · exact ⟨rfl, rfl⟩
  · exact after (.raiseAlarm (by decide) _ _) rfl rfl

theorem newInputMagazine (s : State) : KeepsPanel s s.newInputMagazine := by
  unfold State.newInputMagazine
  exact after (.conditionGone _ _) rfl rfl

theorem newOutputMagazine (s : State) : KeepsPanel s s.newOutputMagazine := by
  unfold State.newOutputMagazine
  exact after (.conditionGone _ _) rfl rfl

theorem repeatStep {f : State → State} (hf : ∀ s, KeepsPanel s (f s)) (n : Nat) (s : State) :
    KeepsPanel s (repeatStep f n s) := by
  induction n generalizing s with
  | zero => exact refl s
  | succ n ih => exact (hf s).trans (ih _)

theorem inputIdle (s : State) : KeepsPanel s s.inputIdle := by
  unfold State.inputIdle
  exact after (.repeatStep .newInputMagazine _ _) rfl rfl

theorem outputIdle (s : State) : KeepsPanel s s.outputIdle := by
  unfold State.outputIdle
  exact after (.repeatStep .newOutputMagazine _ _) rfl rfl

theorem loseEntry (e : ReportEntry) (s : State) : KeepsPanel s (s.loseEntry e) := by
  unfold State.loseEntry
  exact after (.raiseAlarm (by decide) _ _) rfl rfl

theorem loseEntries (l : List ReportEntry) (s : State) : KeepsPanel s (s.loseEntries l) := by
  induction l generalizing s with
  | nil => exact refl s
  | cons e es ih => exact (loseEntry e s).trans (ih _)

theorem freeOrphans (q : Nat) (s : State) : KeepsPanel s (s.freeOrphans q) := by
  unfold State.freeOrphans
  split
  · exact refl s
  · exact after (.loseEntries _ _) rfl rfl

theorem composeReport (r : StripRecord) (u : Unloading) (s : State) : KeepsPanel s (s.composeReport r u) := by
  unfold State.composeReport
  dsimp only
  refine (freeOrphans r.lineSeq s).trans ?_
  split
  · exact ⟨rfl, rfl⟩
  · split
    · refine trans ?_ (trans (.loseEntry _ _) ⟨rfl, rfl⟩)
      exact ⟨rfl, rfl⟩
    · exact ⟨rfl, rfl⟩

theorem finishUnload (p : Pusher) (s : State) : KeepsPanel s (s.finishUnload p) := by
  unfold State.finishUnload
  split
  · dsimp only
    refine trans ?_ (.outputIdle _)
    refine trans ?_ (.nextOutput _ _)
    refine trans (trans ?_ (.composeReport _ _ _)) (trans (.emptyStage _) ⟨rfl, rfl⟩)
    exact ⟨rfl, rfl⟩
  · exact refl s

theorem giveUpTransfer (s : State) : KeepsPanel s s.giveUpTransfer := by
  unfold State.giveUpTransfer
  exact after (.emptyStage _) rfl rfl

theorem resumeSender (x : StripSensors) (s : State) : KeepsPanel s (s.resumeSender x) := by
  unfold State.resumeSender
  split
  · split
    · exact refl s
    · exact emptyStage s
    · exact takeBack s
  · exact refl s

theorem resumeReceiver (s : State) : KeepsPanel s s.resumeReceiver := by
  unfold State.resumeReceiver
  split
  · exact giveUpTransfer s
  · exact refl s

theorem releaseInput (s : State) : KeepsPanel s s.releaseInput := by
  unfold State.releaseInput
  split
  · split
    · exact (nextInput _ s).trans (.inputIdle _)
    · exact inputIdle s
  · exact refl s

theorem releaseOutput (x : StripSensors) (s : State) : KeepsPanel s (s.releaseOutput x) := by
  unfold State.releaseOutput
  split
  · split
    · exact refl s
    · exact finishUnload _ s
    · exact outputIdle s
  · exact refl s

/-- R50, R54, R140, R145: what waits for a RESUME press is released without a word to station control. -/
theorem releaseWaiting (x : StripSensors) (s : State) : KeepsPanel s (s.releaseWaiting x) := by
  unfold State.releaseWaiting
  exact (resumeSender x s).trans ((resumeReceiver _).trans ((releaseInput _).trans (.releaseOutput x _)))

end KeepsPanel

/-! ## The two steps over the table (R23) -/

/-- R23 step 1: an entry ACTIVE at or below the mask is acknowledged. -/
def ackedLow (mask i : Nat) (e : AlarmEntry) : AlarmEntry :=
  if e.state = .active ∧ e.level ≤ mask then e.acknowledged i else e

/-- R23 step 2: an event entry that is ACKED becomes CLEAR. -/
def eventCleared (i : Nat) (e : AlarmEntry) : AlarmEntry :=
  if isEvent i = true ∧ e.state = .acked then { e with state := .clear } else e

theorem State.ackLow_entry (i j : Nat) (s : State) :
    (s.ackLow i).alarms.entry j = if i = j then ackedLow s.alarms.mask j (s.alarms.entry j) else s.alarms.entry j := by
  unfold State.ackLow ackedLow
  by_cases h : i = j
  · subst h
    rw [if_pos rfl]
    split
    · next hc =>
      rw [State.acknowledge_alarms, AlarmUnit.entry_put_self _ _ _ (AlarmUnit.lt_of_state (by simp [hc.1]))]
    · rfl
  · rw [if_neg h]
    split
    · rw [State.acknowledge_alarms, AlarmUnit.entry_put_ne _ _ h]
    · rfl

theorem State.clearEvent_entry (i j : Nat) (s : State) :
    (s.clearEvent i).alarms.entry j = if i = j then eventCleared j (s.alarms.entry j) else s.alarms.entry j := by
  unfold State.clearEvent eventCleared
  by_cases h : i = j
  · subst h
    rw [if_pos rfl]
    split
    · next hc =>
      rw [State.putEntry_alarms, AlarmUnit.entry_put_self _ _ _ (AlarmUnit.lt_of_state (by simp [hc.2]))]
    · rfl
  · rw [if_neg h]
    split
    · rw [State.putEntry_alarms, AlarmUnit.entry_put_ne _ _ h]
    · rfl

@[simp] theorem State.ackLow_mask (i : Nat) (s : State) : (s.ackLow i).alarms.mask = s.alarms.mask := by
  unfold State.ackLow
  split <;> simp

@[simp] theorem State.clearEvent_mask (i : Nat) (s : State) : (s.clearEvent i).alarms.mask = s.alarms.mask := by
  unfold State.clearEvent
  split <;> simp

/-- A step that changes each entry in turn changes every entry of the list once. -/
theorem eachSource_entry {f : Nat → State → State} {g : Nat → Nat → AlarmEntry → AlarmEntry}
    (hmask : ∀ i s, (f i s).alarms.mask = s.alarms.mask)
    (hf : ∀ i j s, (f i s).alarms.entry j = if i = j then g s.alarms.mask j (s.alarms.entry j) else s.alarms.entry j)
    {l : List Nat} (hl : l.Nodup) (s : State) (j : Nat) :
    (eachSource f l s).alarms.entry j = if j ∈ l then g s.alarms.mask j (s.alarms.entry j) else s.alarms.entry j := by
  induction l generalizing s with
  | nil => simp [eachSource]
  | cons i is ih =>
    obtain ⟨hi, his⟩ := List.nodup_cons.1 hl
    rw [eachSource, ih his, hmask, hf]
    by_cases h : i = j
    · subst h
      simp [hi]
    · simp [h, Ne.symm h]

theorem eachSource_mask {f : Nat → State → State} (hmask : ∀ i s, (f i s).alarms.mask = s.alarms.mask) (l : List Nat) (s : State) :
    (eachSource f l s).alarms.mask = s.alarms.mask := by
  induction l generalizing s with
  | nil => rfl
  | cons i is ih => rw [eachSource, ih, hmask]

/-- R23: the station after steps 1 and 2 of a press. -/
def State.tableResumed (s : State) : State :=
  eachSource State.clearEvent sourceNumbers (eachSource State.ackLow sourceNumbers s)

theorem State.tableResumed_entry {j : Nat} (hj : j < 40) (s : State) :
    s.tableResumed.alarms.entry j = eventCleared j (ackedLow s.alarms.mask j (s.alarms.entry j)) := by
  have hn : sourceNumbers.Nodup := by decide
  unfold State.tableResumed
  rw [eachSource_entry (g := fun _ => eventCleared) State.clearEvent_mask State.clearEvent_entry hn,
    eachSource_entry State.ackLow_mask State.ackLow_entry hn, if_pos (mem_sourceNumbers.2 hj), if_pos (mem_sourceNumbers.2 hj)]

@[simp] theorem State.tableResumed_frame (s : State) :
    s.tableResumed.control = s.control ∧ s.tableResumed.heat = s.heat := by
  unfold State.tableResumed
  simp

theorem ackedLow_mirrored (mask i : Nat) (e : AlarmEntry) : (ackedLow mask i e).mirrored = e.mirrored := by
  unfold ackedLow AlarmEntry.acknowledged
  (repeat' split) <;> rfl

theorem eventCleared_mirrored (i : Nat) (e : AlarmEntry) : (eventCleared i e).mirrored = e.mirrored := by
  unfold eventCleared
  split <;> rfl

theorem State.tableResumed_classOf {j : Nat} (hj : j < 40) (s : State) :
    s.tableResumed.alarms.classOf j = s.alarms.classOf j := by
  unfold AlarmUnit.classOf
  rw [State.tableResumed_entry hj, eventCleared_mirrored, ackedLow_mirrored]

/-- R23: an entry that is CLEAR stays CLEAR. -/
theorem resumed_clear {mask i : Nat} {e : AlarmEntry} (h : e.state = .clear) : eventCleared i (ackedLow mask i e) = e := by
  have h1 : ackedLow mask i e = e := by
    unfold ackedLow
    rw [if_neg (by simp [h])]
  rw [h1]
  unfold eventCleared
  rw [if_neg (by simp [h])]

/-- R23, R30: an entry the press leaves ACTIVE stands above the mask. -/
theorem resumed_active {mask i : Nat} {e : AlarmEntry} (h : (eventCleared i (ackedLow mask i e)).state = .active) :
    e.state = .active ∧ mask < e.level := by
  unfold eventCleared ackedLow at h
  have hne : (e.acknowledged i).state ≠ .active := by
    unfold AlarmEntry.acknowledged
    (repeat' split) <;> simp_all
  (repeat' split at h) <;> simp_all

/-- R23: what the press leaves of an event below the mask, and of a condition that is gone: nothing ACTIVE, and nothing ACKED whose
condition is present. -/
theorem resumed_passes {mask i : Nat} {e : AlarmEntry} (ha : e.state = .active → e.level ≤ mask)
    (hc : e.state ≠ .clear → isEvent i = true ∨ e.condition = false) :
    (eventCleared i (ackedLow mask i e)).state ≠ .active ∧
    ((eventCleared i (ackedLow mask i e)).state = .acked → (eventCleared i (ackedLow mask i e)).condition = false) := by
  refine ⟨fun h => ?_, fun h => ?_⟩
  · obtain ⟨h1, h2⟩ := resumed_active h
    have := ha h1
    omega
  · by_cases he : e.state = .clear
    · rw [resumed_clear he, he] at h
      simp at h
    · rcases hc he with hv | hv
      · unfold eventCleared at h ⊢
        split at h <;> simp_all
      · have hcond : (ackedLow mask i e).condition = e.condition := by
          unfold ackedLow AlarmEntry.acknowledged
          (repeat' split) <;> rfl
        unfold eventCleared
        split
        · exact hcond.trans hv
        · exact hcond.trans hv

/-- R23, R30: an entry ACTIVE above the mask is left as it is. -/
theorem resumed_of_active {mask i : Nat} {e : AlarmEntry} (h : e.state = .active) (hl : mask < e.level) :
    eventCleared i (ackedLow mask i e) = e := by
  have h1 : ackedLow mask i e = e := by
    unfold ackedLow
    rw [if_neg (by omega)]
  rw [h1]
  unfold eventCleared
  rw [if_neg (by simp [h])]

/-- R23, R30: a condition source, or a mirror, whose entry an acknowledgement does not clear stands on, its condition as it was. -/
theorem resumed_of_condition {mask i : Nat} {e : AlarmEntry} (h : e.state ≠ .clear) (hv : isEvent i = false)
    (hc : e.condition = true ∨ e.state = .acked ∨ 32 ≤ i) :
    (eventCleared i (ackedLow mask i e)).state ≠ .clear ∧ (eventCleared i (ackedLow mask i e)).condition = e.condition := by
  have h1 : eventCleared i (ackedLow mask i e) = ackedLow mask i e := by
    unfold eventCleared
    rw [if_neg (by simp [hv])]
  rw [h1]
  unfold ackedLow AlarmEntry.acknowledged
  split
  · next ha =>
    have hb : (isEvent i || decide (32 ≤ i) || e.condition) = true := by
      rcases hc with hc | hc | hc
      · simp [hc]
      · simp [ha.1] at hc
      · simp [hc]
    rw [ha.1]
    dsimp only
    rw [if_pos hb]
    exact ⟨by simp, rfl⟩
  · exact ⟨h, rfl⟩

/-- R23: steps 1 and 2 let no STOP-class entry stand that did not. -/
theorem State.tableResumed_stopStands_of_not {s : State} (h : s.alarms.stopStands = false) :
    s.tableResumed.alarms.stopStands = false := by
  rw [Bool.eq_false_iff, ne_eq, AlarmUnit.stopStands_iff] at *
  rintro ⟨j, hj, hc, hs⟩
  rw [State.tableResumed_classOf hj] at hc
  rw [State.tableResumed_entry hj] at hs
  exact h ⟨j, hj, hc, fun hclear => hs (by rw [resumed_clear hclear, hclear])⟩

/-- R23: with every entry CLEAR steps 1 and 2 change nothing. -/
theorem State.tableResumed_of_clear {s : State} (h : ∀ i, i < 40 → (s.alarms.entry i).state = .clear) : s.tableResumed = s := by
  have hack : ∀ l : List Nat, (∀ i ∈ l, i < 40) → eachSource State.ackLow l s = s := by
    intro l hl
    induction l with
    | nil => rfl
    | cons i is ih =>
      rw [eachSource, State.ackLow, if_neg (by simp [h i (hl i (by simp))])]
      exact ih fun j hj => hl j (by simp [hj])
  have hclear : ∀ l : List Nat, (∀ i ∈ l, i < 40) → eachSource State.clearEvent l s = s := by
    intro l hl
    induction l with
    | nil => rfl
    | cons i is ih =>
      rw [eachSource, State.clearEvent, if_neg (by simp [h i (hl i (by simp))])]
      exact ih fun j hj => hl j (by simp [hj])
  have hl : ∀ i ∈ sourceNumbers, i < 40 := fun i hi => mem_sourceNumbers.1 hi
  unfold State.tableResumed
  rw [hack _ hl, hclear _ hl]

/-! ## A press (R23) -/

/-- R23: what a press of RESUME outside BOOT comes to. -/
theorem exec_resumeKey_eq {s : State} (x : StripSensors) (h : s.control.station ≠ .boot) :
    exec (.resumeKey x) s = .next (((s.pressKey .resume).tableResumed.resumeStep.releaseWaiting x).settle) := by
  simp only [exec, execResumeKey]
  rw [State.outsideBoot_pos (by simpa using h)]
  rfl

theorem State.pressKey_tableResumed_entry (k : ChordKey) {j : Nat} (hj : j < 40) (s : State) :
    (s.pressKey k).tableResumed.alarms.entry j = eventCleared j (ackedLow s.alarms.mask j (s.alarms.entry j)) := by
  rw [State.tableResumed_entry hj]
  simp

/-- R23: the test of a press, entry by entry. -/
theorem AlarmUnit.resumePasses_iff (a : AlarmUnit) :
    a.resumePasses = true ↔ ∀ i, i < 32 → localClass i = .hold →
      (a.entry i).state ≠ .active ∧ ((a.entry i).state = .acked → (a.entry i).condition = false) := by
  unfold AlarmUnit.resumePasses
  rw [List.all_eq_true]
  refine forall_congr' fun i => ?_
  rw [mem_localSourceNumbers]
  refine imp_congr_right fun hi => ?_
  simp only [AlarmUnit.classOf, hi, if_true, decide_not, Bool.or_eq_true, Bool.not_eq_true', Bool.and_eq_true, Bool.and_eq_false_iff,
    decide_eq_false_iff_not]
  tauto

/-- A change of station that takes the hold request with it. -/
theorem State.setStation_of_noHold {s : State} (st : StationState) (h : s.control.holdRequest = false) :
    (s.setStation st).control = { s.control with station := st } := by
  rw [State.setStation_control]
  split
  · next he => rw [he]
  · simp [h]

/-- R23: an accepted press in READY. -/
theorem State.startLine_control (s : State) :
    s.startLine.control = { s.control with station := .run, lineStarted := true, holdRequest := false } := by
  unfold State.startLine
  rw [State.setStation_of_noHold _ (by simp)]
  simp

/-- R23: an accepted press in HELD. -/
theorem State.resumeHeld_control (s : State) :
    s.resumeHeld.control = { s.control with
      station := if s.heat.pauseRequest then .paused else .run
      holdRequest := false } := by
  unfold State.resumeHeld
  rw [State.setStation_of_noHold _ (by simp)]

/-- R23: the end of a press that leaves no STOP-class entry standing and the station outside STOPPED. -/
theorem State.settle_releaseWaiting {s : State} (x : StripSensors) (hs : s.control.station ≠ .stopped)
    (hn : s.alarms.stopStands = false) : KeepsPanel s (s.releaseWaiting x).settle := by
  have h := KeepsPanel.releaseWaiting x s
  rw [State.settle_of_none (by rwa [h.control]) (by simpa using hn)]
  exact h

/-- R50, R54, R140, R145: with nothing waiting a press releases nothing. -/
theorem State.releaseWaiting_of_nothing {s : State} (x : StripSensors) (h : s.NothingWaitsForResume) : s.releaseWaiting x = s := by
  obtain ⟨hsend, hreceive, hin, hout⟩ := h
  have h1 : s.resumeSender x = s := by
    unfold State.resumeSender
    rw [if_neg (fun c => hsend c.1)]
  have h2 : s.resumeReceiver = s := by
    unfold State.resumeReceiver
    rw [if_neg (fun c => hreceive c.1)]
  have h3 : s.releaseInput = s := by
    unfold State.releaseInput
    rw [if_neg (fun c => hin c.1)]
  unfold State.releaseWaiting
  rw [h1, h2, h3]
  unfold State.releaseOutput
  rw [if_neg (fun c => hout c.1)]

/-- Settles O12, by the station state: the table the two steps leave passes the test, and nothing that follows stops the station. -/
theorem acceptedResumeStartsWork : Obligations.AcceptedResumeStartsWork := by
  intro s p hshape hn hholds
  obtain ⟨u, hu⟩ : ∃ u : State, u = (s.pressKey .resume).tableResumed := ⟨_, rfl⟩
  have hcontrol : u.control = s.control := by simp [hu]
  have hstands : u.alarms.stopStands = false := by
    rw [hu]
    exact State.tableResumed_stopStands_of_not (by simpa using hn)
  have hpass : u.alarms.resumePasses = true := by
    rw [AlarmUnit.resumePasses_iff]
    intro i hi hc
    rw [hu, State.pressKey_tableResumed_entry _ (by omega)]
    exact resumed_passes (hholds i hi hc).1 (hholds i hi hc).2
  refine ⟨fun hst => ?_, fun hst => ?_⟩
  · have hstep : u.resumeStep = u.startLine := by
      unfold State.resumeStep
      rw [hcontrol, hst]
      exact if_pos hpass
    have hk := State.settle_releaseWaiting (s := u.startLine) p (by simp [State.startLine_control]) (by simpa using hstands)
    have hexec := exec_resumeKey_eq p (s := s) (by simp [hst])
    rw [← hu, hstep] at hexec
    refine ⟨_, hexec, ?_, fun hnothing hclear => ?_⟩
    · rw [hk.control, State.startLine_control, hcontrol]
    · have hsame : u = s.pressKey .resume := by
        rw [hu]
        exact State.tableResumed_of_clear (by simpa using hclear)
      have hwait : u.startLine.releaseWaiting p = u.startLine := by
        refine State.releaseWaiting_of_nothing p ?_
        simpa [State.NothingWaitsForResume, hsame] using hnothing
      rw [hwait, State.settle_of_none (by simp [State.startLine_control]) (by simpa using hstands), hsame]
      refine ⟨?_, by apply State.ext <;> simp⟩
      unfold State.startLine State.setStation
      rw [if_neg (by simp [hst])]
      simp
  · have hstep : u.resumeStep = u.resumeHeld := by
      unfold State.resumeStep
      rw [hcontrol, hst]
      exact if_pos hpass
    have hne : u.resumeHeld.control.station ≠ .stopped := by
      rw [State.resumeHeld_control]
      dsimp only
      split <;> simp
    have hk := State.settle_releaseWaiting (s := u.resumeHeld) p hne (by simpa using hstands)
    have hexec := exec_resumeKey_eq p (s := s) (by simp [hst])
    rw [← hu, hstep] at hexec
    refine ⟨_, hexec, ?_⟩
    rw [hk.control, State.resumeHeld_control, hcontrol]
    simp [hu]

/-- Settles O13, by the station state: one entry that the press leaves standing refuses it. -/
theorem refusedResumeSetsNotice : Obligations.RefusedResumeSetsNotice := by
  intro s p i hshape e
  obtain ⟨u, hu⟩ : ∃ u : State, u = (s.pressKey .resume).tableResumed := ⟨_, rfl⟩
  have hcontrol : u.control = s.control := by simp [hu]
  have hentry (h : i < 40) : u.alarms.entry i = eventCleared i (ackedLow s.alarms.mask i e) := by
    rw [hu]
    exact State.pressKey_tableResumed_entry _ h s
  have hrefuse := KeepsPanel.releaseWaiting p u.refuseResume
  refine ⟨fun hst hi hc hn hbad => ?_, fun hst hi hc hbad => ?_⟩
  · have hstands : u.alarms.stopStands = false := by
      rw [hu]
      exact State.tableResumed_stopStands_of_not (by simpa using hn)
    have hpass : ¬ u.alarms.resumePasses = true := by
      rw [AlarmUnit.resumePasses_iff]
      intro h
      have := h i hi hc
      rw [hentry (by omega)] at this
      rcases hbad with ⟨ha, hl⟩ | ⟨hs, hv, hcond⟩
      · rw [resumed_of_active ha hl] at this
        exact this.1 ha
      · obtain ⟨h1, h2⟩ := resumed_of_condition (mask := s.alarms.mask) hs hv (.inl hcond)
        rw [h2, hcond] at this
        generalize (eventCleared i (ackedLow s.alarms.mask i e)).state = st at *
        cases st <;> simp_all
    have hstep : u.resumeStep = u.refuseResume := by
      unfold State.resumeStep
      rw [hcontrol]
      rcases hst with hst | hst <;> rw [hst] <;> exact if_neg hpass
    have hne : s.control.station ≠ .stopped := by rcases hst with hst | hst <;> simp [hst]
    have hb : s.control.station ≠ .boot := by rcases hst with hst | hst <;> simp [hst]
    have hexec := exec_resumeKey_eq p hb
    have hk := State.settle_releaseWaiting (s := u.refuseResume) p (by simpa [hcontrol] using hne) (by simpa using hstands)
    rw [← hu, hstep] at hexec
    exact ⟨_, hexec, by rw [hk.control]; simpa using hcontrol, by rw [hk.notice]; simp⟩
  · have hstands : u.alarms.stopStands = true := by
      rw [AlarmUnit.stopStands_iff]
      refine ⟨i, hi, ?_, ?_⟩
      · rw [hu, State.tableResumed_classOf hi]
        simpa using hc
      · rw [hentry hi]
        rcases hbad with ⟨ha, hl⟩ | ⟨hs, hv, hcond⟩
        · rw [resumed_of_active ha hl, ha]
          simp
        · exact (resumed_of_condition hs hv hcond).1
    have hstep : u.resumeStep = u.refuseResume := by
      unfold State.resumeStep
      rw [hcontrol, hst]
      exact if_pos hstands
    have hstop : (u.refuseResume.releaseWaiting p).control.station = .stopped := by
      rw [hrefuse.control]
      simpa [hcontrol] using hst
    have hexec := exec_resumeKey_eq p (s := s) (by simp [hst])
    rw [← hu, hstep, State.settle_of_stopped hstop (by simpa using hstands)] at hexec
    exact ⟨_, hexec, hstop, by rw [hrefuse.notice]; simp⟩

end Sys2Proof.Machine
end


section
/-! PROOFS. What news and the settling of the station state leave (R24, R25, R174, R180): the heard line, the frames that never make
room, every alarm entry but five, and the items of the blocks that a STOP does not end. -/

namespace Sys2Proof.Machine

/-! ## Frames that never make room (R174) -/

/-- R174: a frame that neither merges nor is removed to make room. -/
def TxBody.isFirm : TxBody → Bool
  | .state => false
  | .alarm .. => false
  | _ => true

theorem TxEntry.mergesWith_of_isFirm {e : TxEntry} (h : e.body.isFirm = true) (body : TxBody) : e.mergesWith body = false := by
  unfold TxEntry.mergesWith
  cases hb : e.body <;> cases body <;> simp_all [TxBody.isFirm]

theorem TxEntry.mayGo_of_isFirm {e : TxEntry} (h : e.body.isFirm = true) : e.mayGo = false := by
  unfold TxEntry.mayGo
  cases hb : e.body <;> simp_all [TxBody.isFirm]

theorem mem_dropFirst_of_not {p : TxEntry → Bool} {q : List TxEntry} {e : TxEntry} (he : e ∈ q) (hp : p e = false) :
    e ∈ dropFirst p q := by
  induction q with
  | nil => simp at he
  | cons x xs ih =>
    rw [dropFirst]
    rcases List.mem_cons.1 he with rfl | he
    · simp [hp]
    · split
      · exact he
      · exact List.mem_cons_of_mem _ (ih he)

/-! ## The line unit after news -/

/-- The roster and the acknowledgement are the same, and no firm frame has left the queue. -/
structure LineUnit.Asked (l m : LineUnit) : Prop where
  roster : m.roster = l.roster
  ackOut : m.ackOut = l.ackOut
  firm : ∀ e ∈ l.queue, e.body.isFirm = true → e ∈ m.queue

namespace LineUnit.Asked

theorem refl (l : LineUnit) : l.Asked l := ⟨rfl, rfl, fun _ h _ => h⟩

theorem trans {l m n : LineUnit} (h : l.Asked m) (k : m.Asked n) : l.Asked n :=
  ⟨k.roster.trans h.roster, k.ackOut.trans h.ackOut, fun e he hf => k.firm e (h.firm e he hf) hf⟩

theorem request (target : Nat) (body : TxBody) (l : LineUnit) : l.Asked (l.request target body) := by
  refine ⟨by simp, by simp, fun e he hf => ?_⟩
  rcases l.request_cases target body with ⟨-, hr⟩ | ⟨-, -, hr⟩ | ⟨-, -, hr⟩ | ⟨-, -, -, hr⟩ | ⟨-, -, -, hr⟩ <;> rw [hr]
  · exact mem_mergeFrame_of_not_merges he (TxEntry.mergesWith_of_isFirm hf body)
  · simp [he]
  · exact he
  · simp [mem_dropFirst_of_not he (TxEntry.mayGo_of_isFirm hf)]
  · exact he

theorem afterAlarm (old new : AlarmUnit) (news : Option TxBody) (l : LineUnit) : l.Asked (l.afterAlarm old new news) := by
  unfold LineUnit.afterAlarm
  cases news with
  | none =>
    dsimp only
    split
    · exact refl l
    · exact request _ _ l
  | some b =>
    dsimp only
    split
    · exact request _ _ l
    · exact (request _ _ l).trans (request _ _ _)

end LineUnit.Asked

/-! ## What settling leaves -/

/-- R44, R79, R180: the sources that roll call, cover and the debit of a STOP report on. -/
def settledSources : List Nat :=
  [Source.lineLayout, Source.programMismatch, Source.rosterGap, Source.noCover, Source.wireLow]

/-- What roll call, cover and the settling of the station state leave as it was. -/
structure Settles (s t : State) : Prop where
  straps : t.straps = s.straps
  loader : t.loader = s.loader
  started : t.control.lineStarted = s.control.lineStarted ∧ t.control.restartWaiting = s.control.restartWaiting
  heat : t.heat = s.heat
  trims : t.energy.trims = s.energy.trims
  report : t.report = s.report
  stage : t.stage.state = s.stage.state ∧ t.stage.assembly = s.stage.assembly ∧ t.stage.permit = s.stage.permit ∧
    t.stage.offerTimer = s.stage.offerTimer
  line : s.line.Asked t.line
  mask : t.alarms.mask = s.alarms.mask
  entry : ∀ j, j ∉ settledSources → t.alarms.entry j = s.alarms.entry j

namespace Settles

theorem refl (s : State) : Settles s s :=
  ⟨rfl, rfl, ⟨rfl, rfl⟩, rfl, rfl, rfl, ⟨rfl, rfl, rfl, rfl⟩, .refl _, rfl, fun _ _ => rfl⟩

theorem trans {s t u : State} (h : Settles s t) (k : Settles t u) : Settles s u where
  straps := k.straps.trans h.straps
  loader := k.loader.trans h.loader
  started := ⟨k.started.1.trans h.started.1, k.started.2.trans h.started.2⟩
  heat := k.heat.trans h.heat
  trims := k.trims.trans h.trims
  report := k.report.trans h.report
  stage := by
    obtain ⟨a, b, c, d⟩ := h.stage
    obtain ⟨a', b', c', d'⟩ := k.stage
    exact ⟨a'.trans a, b'.trans b, c'.trans c, d'.trans d⟩
  line := h.line.trans k.line
  mask := k.mask.trans h.mask
  entry j hj := (k.entry j hj).trans (h.entry j hj)

/-- A change of none of what settling leaves. -/
theorem of_line {s t : State} (h : t = { s with line := t.line, screen := t.screen }) (hl : s.line.Asked t.line) : Settles s t := by
  rw [h]
  exact ⟨rfl, rfl, ⟨rfl, rfl⟩, rfl, rfl, rfl, ⟨rfl, rfl, rfl, rfl⟩, hl, rfl, fun _ _ => rfl⟩

theorem putEntry {i : Nat} (hi : i ∈ settledSources) (e : AlarmEntry) (b : Bool) (s : State) : Settles s (s.putEntry i e b) where
  straps := rfl
  loader := rfl
  started := ⟨rfl, rfl⟩
  heat := rfl
  trims := rfl
  report := rfl
  stage := ⟨rfl, rfl, rfl, rfl⟩
  line := .afterAlarm _ _ _ _
  mask := rfl
  entry _ hj := AlarmUnit.entry_put_ne _ _ fun h => hj (h ▸ hi)

theorem raiseAlarm {i : Nat} (hi : i ∈ settledSources) (d : Detail) (s : State) : Settles s (s.raiseAlarm i d) := by
  unfold State.raiseAlarm
  split
  · exact refl s
  · have h := putEntry hi ((s.alarms.entry i).raised i d) (decide ((s.alarms.entry i).state ≠ ((s.alarms.entry i).raised i d).state ∨
      (s.alarms.entry i).count ≠ ((s.alarms.entry i).raised i d).count)) s
    exact ⟨h.straps, h.loader, h.started, h.heat, h.trims, h.report, h.stage, h.line, h.mask, h.entry⟩

theorem conditionGone {i : Nat} (hi : i ∈ settledSources) (s : State) : Settles s (s.conditionGone i) := by
  unfold State.conditionGone
  dsimp only
  split
  · exact putEntry hi _ _ s
  · exact putEntry hi _ _ s

theorem setStation (st : StationState) (s : State) : Settles s (s.setStation st) := by
  unfold State.setStation
  split
  · exact refl s
  · exact ⟨rfl, rfl, ⟨rfl, rfl⟩, rfl, rfl, rfl, ⟨rfl, rfl, rfl, rfl⟩, .request _ _ _, rfl, fun _ _ => rfl⟩

theorem send (target : Nat) (body : TxBody) (s : State) : Settles s (s.send target body) :=
  of_line rfl (.request _ _ _)

theorem rollCallTimer (x : Timer) (s : State) : Settles s { s with line := { s.line with rollCallTimer := x } } :=
  of_line rfl ⟨rfl, rfl, fun _ h _ => h⟩

theorem sendPresent (s : State) : Settles s s.sendPresent := by
  unfold State.sendPresent
  split
  · exact send _ _ s
  · exact refl s

theorem judgeFinding {i : Nat} (hi : i ∈ settledSources) (x : Option Nat) (s : State) : Settles s (s.judgeFinding i x) := by
  unfold State.judgeFinding
  split
  · exact raiseAlarm hi _ s
  · exact conditionGone hi s

theorem judgeGap (s : State) : Settles s s.judgeGap := by
  unfold State.judgeGap
  split
  · exact conditionGone (by decide) s
  · exact refl s

theorem judgeRoster (s : State) : Settles s s.judgeRoster := by
  unfold State.judgeRoster
  split
  · exact refl s
  · exact (judgeFinding (by decide) _ s).trans ((judgeFinding (by decide) _ _).trans (judgeGap _))

theorem tryReady (s : State) : Settles s s.tryReady := by
  unfold State.tryReady
  split
  · exact (rollCallTimer _ s).trans (setStation _ _)
  · exact refl s

theorem enterRollCall (s : State) : Settles s s.enterRollCall := by
  unfold State.enterRollCall
  exact (setStation _ s).trans ((sendPresent _).trans ((rollCallTimer _ _).trans ((judgeRoster _).trans (tryReady _))))

theorem leaveStopped (s : State) : Settles s s.leaveStopped := by
  unfold State.leaveStopped
  split
  · exact setStation _ s
  · split
    · exact setStation _ s
    · exact enterRollCall s

/-! ### What a STOP ends -/

/-- The record, the stock, the drives and the bond in progress are none of it. -/
theorem of_work {s t : State} (hs : t.straps = s.straps) (hl : t.loader = s.loader) (hc : t.control = s.control)
    (hh : t.heat = s.heat) (hr : t.report = s.report) (ha : t.alarms = s.alarms) (hline : t.line = s.line)
    (htrims : t.energy.trims = s.energy.trims)
    (hstage : t.stage.state = s.stage.state ∧ t.stage.assembly = s.stage.assembly ∧ t.stage.permit = s.stage.permit ∧
      t.stage.offerTimer = s.stage.offerTimer) : Settles s t :=
  ⟨hs, hl, by rw [hc]; exact ⟨rfl, rfl⟩, hh, htrims, hr, hstage, by rw [hline]; exact .refl _, by rw [ha], fun _ _ => by rw [ha]⟩

theorem requestReject (u : Nat) (x : RejectCause) (s : State) : Settles s (s.requestReject u x) := by
  unfold State.requestReject
  (repeat' split) <;> apply of_work <;> simp

theorem debit (s : State) : Settles s s.debit := by
  unfold State.debit State.judgeStock
  split
  · split
    · split
      · refine trans ?_ (raiseAlarm (by decide) _ _)
        apply of_work <;> simp
      · apply of_work <;> simp
    · exact refl s
  · exact refl s

theorem abortWire (s : State) : Settles s s.abortWire := by
  have hcharge : Settles s (if abortCharges s.wire then
      match s.wire.inFlight with
      | some f => (s.requestReject f.unit .aborted).debit
      | none => s
    else s) := by
    split
    · split
      · exact (requestReject _ _ s).trans (debit _)
      · exact refl s
    · exact refl s
  unfold State.abortWire
  exact hcharge.trans (of_work rfl rfl rfl rfl rfl rfl rfl (EnergyUnit.abortBond_fields _).1 ⟨rfl, rfl, rfl, rfl⟩)

theorem stopRollCall (s : State) : Settles s s.stopRollCall := by
  unfold State.stopRollCall
  split
  · exact rollCallTimer _ s
  · exact refl s

theorem haltIndex (s : State) : Settles s s.haltIndex := by
  unfold State.haltIndex
  split <;> apply of_work <;> simp

theorem abandonPull (s : State) : Settles s s.abandonPull := by apply of_work <;> simp

theorem haltElevators (s : State) : Settles s s.haltElevators := by apply of_work <;> simp

theorem enterStopped (s : State) : Settles s s.enterStopped := by
  unfold State.enterStopped
  exact (stopRollCall s).trans ((abortWire _).trans ((abandonPull _).trans ((haltIndex _).trans
    ((haltElevators _).trans (setStation _ _)))))

theorem settleStop (s : State) : Settles s s.settleStop := by
  unfold State.settleStop
  split
  · exact enterStopped s
  · exact refl s

theorem settle (s : State) : Settles s s.settle := by
  unfold State.settle
  split
  · exact (leaveStopped s).trans (settleStop _)
  · exact settleStop s

/-! ### Roster news -/

theorem judgeCover (s : State) : Settles s s.judgeCover := by
  unfold State.judgeCover State.endCoverWait
  split
  · split
    · refine trans ?_ (conditionGone (by decide) _)
      apply of_work <;> simp
    · exact refl s
  · exact refl s

theorem rosterHeard (k : Nat) (s : State) : Settles s (s.rosterHeard k) := by
  unfold State.rosterHeard
  dsimp only
  refine (judgeRoster s).trans ((tryReady _).trans (trans ?_ (settle _)))
  split
  · exact judgeCover _
  · exact refl _

theorem answerPresent (b : Bool) (known : List Nat) (s : State) : Settles s (s.answerPresent b known) := by
  have hsummary (r : State) : Settles r r.sendSummary := by
    unfold State.sendSummary
    split
    · exact send _ _ r
    · exact refl r
  unfold State.answerPresent
  dsimp only
  split
  · split
    · exact (sendPresent s).trans (hsummary _)
    · exact hsummary s
  · split
    · exact sendPresent s
    · exact refl s

end Settles

/-! ## The station state after settling (R24, R25) -/

/-- R19: in BOOT nothing is settled. -/
theorem State.settle_of_boot {s : State} (h : s.control.station = .boot) : s.settle = s := by
  unfold State.settle State.settleStop
  rw [if_neg (by simp [h]), if_neg (by simp [h])]

/-- R24: where a STOP-class entry stands outside BOOT, settling leaves the station STOPPED. -/
theorem State.settle_of_stands {s : State} (hb : s.control.station ≠ .boot) (h : s.alarms.stopStands = true) :
    s.settle.control.station = .stopped := by
  by_cases hs : s.control.station = .stopped
  · rw [State.settle_of_stopped hs h, hs]
  · have : s.settle = s.enterStopped := by
      unfold State.settle State.settleStop
      rw [if_neg (by simp [h]), if_pos ⟨hb, hs, h⟩]
    rw [this]
    exact (State.enterStopped_ends s).1

/-- R24: a standing STOP takes a station outside BOOT and STOPPED to `enterStopped`. -/
theorem State.settle_enters {s : State} (hb : s.control.station ≠ .boot) (hs : s.control.station ≠ .stopped)
    (h : s.alarms.stopStands = true) : s.settle = s.enterStopped := by
  unfold State.settle State.settleStop
  rw [if_neg (by simp [h]), if_pos ⟨hb, hs, h⟩]

end Sys2Proof.Machine
end


section
/-! PROOFS. The STOP button (R24, R35, R82, R94, R128), and the frames of a peer that speak to station control and the mirror entries:
STOP, LINE_START, ALARM (R20, R34, R35). -/

namespace Sys2Proof.Machine

/-! ## What a STOP leaves of the ports, the stage and the wire -/

/-- R82, R94: the ports after an abort of the wire cycle. -/
theorem State.abortWire_ports (s : State) :
    s.abortWire.ports = { s.ports with
      bondForce := none
      ultrasonic := 0
      fire := false
      z := if s.wire.cycle ≠ .idle then s.abortZ else s.ports.z } := by
  unfold State.abortWire
  dsimp only
  split
  · split <;> simp
  · simp

/-- R128: where the head goes at a STOP of a pull does not depend on the wire cycle. -/
theorem State.abandonZ_congr {s t : State} (hl : t.loader = s.loader) (hp : t.pull = s.pull) (hz : t.ports.z = s.ports.z ∨ s.pull.cycle ≠ .idle) :
    t.abandonZ = s.abandonZ := by
  unfold State.abandonZ State.head State.setting State.program?
  rw [hl, hp]
  cases hc : s.pull.cycle <;> simp_all

@[simp] theorem State.abortWire_indexMotion (s : State) :
    s.abortWire.stage.indexMotion = s.stage.indexMotion ∧ s.abortWire.stage.column = s.stage.column := by
  rw [s.abortWire_stage.1]
  exact ⟨rfl, rfl⟩

/-- R24, R42: an index motion and its column after a STOP. -/
theorem State.enterStopped_index (s : State) :
    s.enterStopped.stage.indexMotion = none ∧ (s.stage.indexMotion ≠ none → s.enterStopped.stage.column = 0) := by
  unfold State.enterStopped
  simp only [State.setStation_frame, State.haltElevators_frame]
  rcases State.haltIndex_cases s.stopRollCall.abortWire.abandonPull with ⟨h, he⟩ | ⟨h, he⟩ <;> rw [he]
  · exact ⟨rfl, fun _ => rfl⟩
  · refine ⟨h, fun hn => absurd ?_ hn⟩
    simpa using h

/-- R24, R128, R136: the ports after a STOP. -/
theorem State.enterStopped_ports (s : State) :
    s.enterStopped.ports.ultrasonic = 0 ∧ s.enterStopped.ports.bondForce = none ∧
    s.enterStopped.ports.inputDrive = haltDrive s.elevator.input s.ports.inputDrive ∧
    s.enterStopped.ports.outputDrive = haltDrive s.elevator.output s.ports.outputDrive ∧
    s.enterStopped.ports.z = s.stopRollCall.abortWire.abandonZ ∧
    s.enterStopped.ports.xy = if s.pull.cycle = .releasing then .halt else s.ports.xy := by
  unfold State.enterStopped
  simp only [State.setStation_frame]
  rcases State.haltIndex_cases s.stopRollCall.abortWire.abandonPull with ⟨h, he⟩ | ⟨h, he⟩ <;> rw [he] <;>
    simp [State.haltElevators, State.abandonPull, State.abortWire_ports]

/-! ## The STOP button -/

/-- R35: the station as the button is pressed, its STOP frame asked for and STOP_KEY raised. -/
def State.stopPressed (s : State) : State := (s.send 0 .stop).raiseAlarm Source.stopKey .none

theorem exec_stopButton_eq (s : State) : exec .stopButton s = .next s.stopPressed.settle := rfl

theorem AlarmUnit.disabled_of_stop {i : Nat} (a : AlarmUnit) (h : localClass i = .stop) : a.disabled i = false := by
  simp [AlarmUnit.disabled, h]

theorem State.stopPressed_alarms (s : State) :
    s.stopPressed.alarms = s.alarms.put Source.stopKey { s.alarms.entry Source.stopKey with
      state := .active, count := bump 255 (s.alarms.entry Source.stopKey).count, detail := .none } := by
  unfold State.stopPressed
  rw [State.raiseAlarm_alarms, AlarmUnit.disabled_of_stop _ (by decide)]
  rfl

@[simp] theorem State.stopPressed_control (s : State) : s.stopPressed.control = s.control := by
  unfold State.stopPressed
  rw [State.raiseAlarm_control_of_not_hold _ _ (by decide)]
  rfl

@[simp] theorem State.stopPressed_frame (s : State) :
    s.stopPressed.straps = s.straps ∧ s.stopPressed.loader = s.loader ∧ s.stopPressed.stage = s.stage ∧
    s.stopPressed.heat = s.heat ∧ s.stopPressed.wire = s.wire ∧ s.stopPressed.energy = s.energy ∧ s.stopPressed.pull = s.pull ∧
    s.stopPressed.elevator = s.elevator ∧ s.stopPressed.report = s.report ∧ s.stopPressed.ports = s.ports ∧
    s.stopPressed.pending = s.pending := by
  simp [State.stopPressed]

/-- R25: STOP_KEY stands. -/
theorem State.stopPressed_stands {s : State} (h : s.alarms.entries.length = 40) : s.stopPressed.alarms.stopStands = true := by
  rw [AlarmUnit.stopStands_iff, State.stopPressed_alarms]
  refine ⟨0, by decide, ?_, ?_⟩
  · rfl
  · rw [AlarmUnit.entry_put_self _ _ _ (by rw [h]; decide)]
    simp

/-- R174: a STOP frame asked for where the queue has room or can make it. -/
theorem LineUnit.request_stop {l : LineUnit} (h : l.queue.length < 16 ∨ l.queue.any TxEntry.mayGo = true) :
    (⟨0, .stop, none, false⟩ : TxEntry) ∈ (l.request 0 .stop).queue := by
  rcases l.request_cases 0 .stop with ⟨hm, -⟩ | ⟨-, -, hr⟩ | ⟨hc, -⟩ | ⟨-, -, -, hr⟩ | ⟨-, hfull, hgo, -⟩
  · obtain ⟨e, -, he⟩ := List.any_eq_true.1 hm
    simp [TxEntry.mergesWith] at he
  · simp [hr]
  · simp [TxBody.frameClass] at hc
  · simp [hr]
  · rcases h with h | h
    · omega
    · simp [hgo] at h

/-- Settles O14: the button's own step, then what settling into STOPPED ends. -/
theorem stopButtonStopsStation : Obligations.StopButtonStopsStation := by
  intro s hshape
  obtain ⟨u, hu⟩ : ∃ u, u = s.stopPressed := ⟨_, rfl⟩
  have hlen := hshape.alarms
  have hsettles := Settles.settle u
  have hstands : u.alarms.stopStands = true := by rw [hu]; exact State.stopPressed_stands hlen
  have hcontrol : u.control = s.control := by simp [hu]
  refine ⟨u.settle, by rw [exec_stopButton_eq, hu], ?_, fun hb => ?_, fun hb => ?_, fun hroom => ?_, fun hb hs => ?_⟩
  · rw [hsettles.entry _ (by decide), hu, State.stopPressed_alarms, AlarmUnit.entry_put_self _ _ _ (by rw [hlen]; decide)]
  · rw [State.settle_of_boot (by rwa [hcontrol]), hu]
    apply State.ext <;> simp
  · exact State.settle_of_stands (by rwa [hcontrol]) hstands
  · have hgo : s.line.queue.length < 16 ∨ s.line.queue.any TxEntry.mayGo = true := by
      refine hroom.imp_right fun ⟨e, he, hn, hb⟩ => List.any_eq_true.2 ⟨e, he, ?_⟩
      rcases hb with hb | ⟨i, c, l, n, d, hb⟩ <;> simp [TxEntry.mayGo, hn, hb]
    have hasked : (s.send 0 .stop).line.Asked u.line := by
      rw [hu]
      unfold State.stopPressed State.raiseAlarm
      split
      · exact .refl _
      · exact .afterAlarm _ _ _ _
    exact ⟨_, hsettles.line.firm _ (hasked.firm _ (LineUnit.request_stop hgo) rfl) rfl, rfl⟩
  · rw [State.settle_enters (by rwa [hcontrol]) (by rwa [hcontrol]) hstands]
    obtain ⟨-, h1, -, h2, h3, h4, h5, h6, -⟩ := State.enterStopped_ends u
    obtain ⟨p1, p2, p3, p4, p5, p6⟩ := State.enterStopped_ports u
    obtain ⟨i1, i2⟩ := State.enterStopped_index u
    have hstage : u.stage = s.stage := by simp [hu]
    have hpull : u.pull = s.pull := by simp [hu]
    have helev : u.elevator = s.elevator := by simp [hu]
    have hwire : u.wire = s.wire := by simp [hu]
    have hports : u.ports = s.ports := by simp [hu]
    have hloader : u.loader = s.loader := by simp [hu]
    have hz (h : s.pull.cycle ≠ .idle) : u.enterStopped.ports.z = s.abandonZ := by
      rw [p5]
      exact State.abandonZ_congr (by simp [hloader]) (by simp [hpull]) (.inr h)
    refine ⟨h1, h2, h3, ?_, p1, p2, ?_, ?_, ?_, ?_, ?_, i1, ?_, ?_, ?_, ?_, ?_, fun h => ?_, fun h => ?_, fun h hidle => ?_,
      fun h => ?_, fun h => ?_, fun h => ?_⟩
    · rw [h4]; exact (EnergyUnit.abortBond_fields _).2.1
    · rw [h5]
    · rw [h5]
    · rw [h5, hpull]
    · rw [h5, hpull]
    · rw [h5, hpull]
    · rwa [hstage] at i2
    · rw [h6, helev]
    · rw [h6, helev]
    · rw [h6, helev]; rfl
    · rw [h6, helev]; rfl
    · rw [p3, helev, haltDrive, if_pos h]
    · rw [p4, helev, haltDrive, if_pos h]
    · rw [p5]
      unfold State.abandonZ
      simp [hpull, hidle, State.abortWire_ports, hwire, h, State.abortZ, State.head, State.setting, State.program?, hloader]
    · rw [hz (by rcases h with h | h <;> simp [h])]
      unfold State.abandonZ
      rcases h with h | h <;> rw [h]
    · rw [hz (by rcases h with h | h | h <;> simp [h])]
      unfold State.abandonZ
      rcases h with h | h | h <;> rw [h]
    · rw [p6, hpull, if_pos h]

/-! ## The charge of a STOP (R82) -/

/-- R24: of the stage a STOP changes the record only by its abort. -/
theorem State.enterStopped_record_eq (s : State) : s.enterStopped.stage.record = s.stopRollCall.abortWire.stage.record := by
  unfold State.enterStopped
  simp

theorem State.enterStopped_stock (s : State) : s.enterStopped.wire.stock = s.stopRollCall.abortWire.wire.stock := by
  unfold State.enterStopped
  simp

theorem State.unit?_congr {s t : State} (h : t.stage.record = s.stage.record) (u : Nat) : t.unit? u = s.unit? u := by
  unfold State.unit? State.tracked?
  rw [h]

/-- R82: an abort that charges. -/
theorem State.abortWire_charges {s : State} {f : WireInFlight} {e : UnitEntry} (hf : s.wire.inFlight = some f)
    (he : s.unit? f.unit = some e) (hl : s.stage.state = .loaded) (hc : abortCharges s.wire = true) :
    s.abortWire.unit? f.unit = some { e with status := if e.status = .isOpen then .reject .aborted else e.status } ∧
    s.abortWire.wire.stock = if f.debit = .due then s.wire.stock - f.use else s.wire.stock := by
  have hrecord : s.abortWire.stage.record = (s.requestReject f.unit .aborted).stage.record := by
    unfold State.abortWire
    simp [hc, hf]
  have hstock : s.abortWire.wire.stock = (s.requestReject f.unit .aborted).debit.wire.stock := by
    unfold State.abortWire
    simp [hc, hf]
  refine ⟨?_, ?_⟩
  · rw [State.unit?_congr hrecord]
    exact State.requestReject_unit .aborted he hl
  · rw [hstock, State.debit_wire (f := f) (by simpa using hf)]
    split <;> simp

/-- R82: one that does not. -/
theorem State.abortWire_free {s : State} (hc : abortCharges s.wire = false) :
    s.abortWire.stage.record = s.stage.record ∧ s.abortWire.wire.stock = s.wire.stock := by
  unfold State.abortWire
  simp [hc]

/-- Settles O15, by what the abort finds: a wire between BOND_FIRST and TAILING, or none. -/
theorem stopDuringWireChargesIt : Obligations.StopDuringWireChargesIt := by
  intro s f e hshape hrun hl hf he hidle
  obtain ⟨u, hu⟩ : ∃ u, u = s.stopPressed := ⟨_, rfl⟩
  have hsettle : u.settle = u.enterStopped :=
    State.settle_enters (by simp [hu, hrun]) (by simp [hu, hrun]) (by rw [hu]; exact State.stopPressed_stands hshape.alarms)
  obtain ⟨v, hv⟩ : ∃ v, v = u.stopRollCall := ⟨_, rfl⟩
  have hwire : v.wire = s.wire := by simp [hv, hu]
  have hstage : v.stage = s.stage := by simp [hv, hu]
  refine ⟨u.settle, by rw [exec_stopButton_eq, hu], fun hb hc => ?_, fun hb => ?_⟩
  · have hcharges : abortCharges v.wire = true := by simp [hwire, abortCharges, hf, hb, hc]
    obtain ⟨hunit, hstock⟩ := State.abortWire_charges (s := v) (by rw [hwire, hf])
      ((State.unit?_congr (by rw [hstage]) _).trans he) (by rw [hstage, hl]) hcharges
    rw [hsettle, State.enterStopped_stock, State.unit?_congr (State.enterStopped_record_eq u), ← hv]
    rw [hwire] at hstock
    exact ⟨hunit, hstock⟩
  · have hfree : abortCharges v.wire = false := by
      rcases hb with hb | hb <;> simp [hwire, abortCharges, hf, hb]
    obtain ⟨hrecord, hstock⟩ := State.abortWire_free hfree
    rw [hsettle, State.enterStopped_stock, State.enterStopped_record_eq, ← hv, hrecord, hstock, hstage, hwire]
    exact ⟨rfl, rfl⟩

/-! ## Frames to station control and to the mirrors -/

/-- R34: the mirror of a station stands in the table, is not local, and is not settled. -/
theorem mirror_bounds {s : State} {k : Nat} (h : s.IsPeer k) : 32 ≤ 31 + k ∧ 31 + k < 40 ∧ 31 + k ∉ settledSources := by
  obtain ⟨h1, h2, -⟩ := h
  refine ⟨by omega, by omega, fun hm => ?_⟩
  have hlow : ∀ j ∈ settledSources, j < 32 := by decide
  have := hlow _ hm
  omega

theorem exec_stopFrame_eq {s : State} {k : Nat} (h : s.IsPeer k) :
    exec (.stopFrame k) s =
      .next (((s.answer true).mirror k (some { source := Source.stopKey, alarmClass := .stop, level := Config.stopLevel })).settle) := by
  simp only [exec, execStopFrame]
  rw [State.hear_peer h]

theorem exec_alarmFrame_eq {s : State} {k : Nat} (p : AlarmPayload) (h : s.IsPeer k) :
    exec (.alarmFrame k p) s = .next (((s.answer true).mirror k p.summary).settle) := by
  simp only [exec, execAlarmFrame]
  rw [State.hear_peer h]

/-- R34: an entry mirroring a STOP. -/
theorem AlarmEntry.mirroring_stop (k : Nat) {m : Summary} (e : AlarmEntry) (h : m.alarmClass = .stop) :
    e.mirroring k m = if e.state ≠ .clear ∧ e.detail = .peer k m.source ∧ e.level = 16 ∧ e.mirrored = .stop then e
      else ⟨.active, true, bump 255 e.count, .peer k m.source, 16, .stop⟩ := by
  simp [AlarmEntry.mirroring, h, Config.stopLevel, Config.byteCap]

/-- R34: an entry mirroring a HOLD or a NOTE. -/
theorem AlarmEntry.mirroring_note (k : Nat) {m : Summary} (e : AlarmEntry) (h : m.alarmClass ≠ .stop) :
    e.mirroring k m = if e.state ≠ .clear ∧ e.detail = .peer k m.source ∧ e.level = m.level ∧ e.mirrored = .note then e
      else ⟨.active, true, bump 255 e.count, .peer k m.source, m.level, .note⟩ := by
  simp [AlarmEntry.mirroring, h, Config.byteCap]

/-- R34: the mirror entry after a summary of a peer, read back. -/
theorem State.mirror_entry {s : State} {k : Nat} (hs : s.Shaped) (h : s.IsPeer k) (m : Option Summary) :
    ((s.answer true).mirror k m).alarms.entry (31 + k) =
      match m with
      | none => (s.alarms.entry (31 + k)).unmirrored
      | some m => (s.alarms.entry (31 + k)).mirroring k m := by
  have hlen := hs.alarms
  have hb := mirror_bounds h
  rw [State.mirror_alarms]
  cases m <;> exact AlarmUnit.entry_put_self _ _ _ (show 31 + k < s.alarms.entries.length by omega)

theorem State.mirror_entry_ne {k j : Nat} (h : j ≠ 31 + k) (m : Option Summary) (s : State) :
    (s.mirror k m).alarms.entry j = s.alarms.entry j := by
  rw [State.mirror_alarms]
  exact AlarmUnit.entry_put_ne _ _ (Ne.symm h)

theorem State.mirror_control (k : Nat) (m : Option Summary) (s : State) : (s.mirror k m).control = s.control := by
  simp

/-- R34: a summary of class STOP makes its mirror entry stand. -/
theorem State.mirror_stands {s : State} {k : Nat} (hs : s.Shaped) (h : s.IsPeer k) {m : Summary} (hm : m.alarmClass = .stop) :
    ((s.answer true).mirror k (some m)).alarms.stopStands = true := by
  have hb := mirror_bounds h
  rw [AlarmUnit.stopStands_iff]
  refine ⟨31 + k, hb.2.1, ?_⟩
  unfold AlarmUnit.classOf
  rw [if_neg (by omega), State.mirror_entry hs h]
  dsimp only
  rw [AlarmEntry.mirroring_stop k _ hm]
  split
  · next hc => exact ⟨hc.2.2.2, hc.1⟩
  · exact ⟨rfl, by simp⟩

/-- R34: without a summary of class STOP nothing stands that did not. -/
theorem State.mirror_stands_not {s : State} {k : Nat} (hs : s.Shaped) (h : s.IsPeer k) {m : Option Summary}
    (hm : ∀ x, m = some x → x.alarmClass ≠ .stop) (hn : s.alarms.stopStands = false) :
    ((s.answer true).mirror k m).alarms.stopStands = false := by
  rw [Bool.eq_false_iff, ne_eq, AlarmUnit.stopStands_iff] at *
  rintro ⟨j, hj, hc, hst⟩
  by_cases hjk : j = 31 + k
  · subst hjk
    unfold AlarmUnit.classOf at hc
    rw [if_neg (by have := mirror_bounds h; omega), State.mirror_entry hs h] at hc
    rw [State.mirror_entry hs h] at hst
    cases m with
    | none => simp at hst
    | some x =>
      dsimp only at hc
      rw [AlarmEntry.mirroring_note k _ (hm x rfl)] at hc
      split at hc
      · next he => simp [he.2.2.2] at hc
      · simp at hc
  · refine hn ⟨j, hj, ?_, ?_⟩
    · unfold AlarmUnit.classOf at hc ⊢
      rw [State.mirror_entry_ne hjk] at hc
      exact hc
    · rwa [State.mirror_entry_ne hjk] at hst

theorem State.putEntry_asked (i : Nat) (e : AlarmEntry) (b : Bool) (s : State) : s.line.Asked (s.putEntry i e b).line :=
  .afterAlarm _ _ _ _

theorem State.mirror_asked (k : Nat) (m : Option Summary) (s : State) : s.line.Asked (s.mirror k m).line := by
  cases m with
  | none => exact s.putEntry_asked _ _ _
  | some m => exact s.putEntry_asked _ _ _

/-- R171: the acknowledgement outlasts what a summary brings. -/
theorem State.mirror_settle_ackOut (k : Nat) (m : Option Summary) (s : State) :
    ((s.answer true).mirror k m).settle.line.ackOut = true := by
  rw [(Settles.settle _).line.ackOut, ((s.answer true).mirror_asked k m).ackOut]
  rfl

/-- Settles O18: the mirrored STOP stands, and LINE_START acts on READY alone. -/
theorem stopAndLineStartFramesAct : Obligations.StopAndLineStartFramesAct := by
  constructor
  · intro s k hshape hk old
    refine ⟨_, exec_stopFrame_eq hk, State.mirror_settle_ackOut _ _ _, ?_, fun hb => ?_, fun hb => ?_⟩
    · rw [(Settles.settle _).entry _ (mirror_bounds hk).2.2, State.mirror_entry hshape hk]
      dsimp only
      rw [AlarmEntry.mirroring_stop k _ rfl]
      refine if_congr ⟨fun ⟨h1, h2, h3, h4⟩ => ⟨h1, h4, h3, h2⟩, fun ⟨h1, h4, h3, h2⟩ => ⟨h1, h2, h3, h4⟩⟩ rfl rfl
    · rw [State.settle_of_boot (by simpa using hb)]
      simp
    · exact State.settle_of_stands (by simpa using hb) (State.mirror_stands hshape hk rfl)
  · intro s k hk
    have hexec : exec (.lineStartFrame k) s = .next (if s.control.station = .ready then
        State.setStation .run { s.answer true with control := { s.control with lineStarted := true } } else s.answer true) := by
      simp only [exec, execLineStartFrame]
      rw [State.hear_peer hk]
      simp
    refine ⟨_, hexec, ?_⟩
    split
    · next hr =>
      refine ⟨by apply State.ext <;> simp, ?_, fun _ => ?_, fun h => absurd hr h⟩
      · exact (Settles.setStation _ _).line.ackOut
      · simp [State.setStation_control, hr]
    · next hr => exact ⟨rfl, rfl, fun h => absurd h hr, fun _ => rfl⟩

/-- Settles O19, by the summary: none, a STOP, or another class. -/
theorem alarmFrameMirrorsSummary : Obligations.AlarmFrameMirrorsSummary := by
  intro s k p hshape hk old
  have hentry : ((s.answer true).mirror k p.summary).settle.alarms.entry (31 + k) =
      ((s.answer true).mirror k p.summary).alarms.entry (31 + k) := (Settles.settle _).entry _ (mirror_bounds hk).2.2
  refine ⟨_, exec_alarmFrame_eq p hk, State.mirror_settle_ackOut _ _ _, fun hm => ?_, fun m hm => ⟨fun hc hb => ?_, fun hc => ?_,
    fun hc => ?_⟩, fun hn hs hm => ?_⟩
  · rw [hentry, State.mirror_entry hshape hk, hm]
    rfl
  · rw [hm]
    exact State.settle_of_stands (by simpa using hb) (State.mirror_stands hshape hk hc)
  · rw [hentry, State.mirror_entry hshape hk, hm]
    dsimp only
    rw [AlarmEntry.mirroring_stop k _ hc]
    refine ⟨fun h1 h2 h3 h4 => if_pos ⟨h1, h2, h3, h4⟩, fun h => if_neg ?_⟩
    rintro ⟨h1, h2, h3, -⟩
    rcases h with h | h | h
    · exact h1 h
    · exact h h2
    · exact h h3
  · rw [hentry, State.mirror_entry hshape hk, hm]
    dsimp only
    rw [AlarmEntry.mirroring_note k _ hc]
    refine ⟨fun h1 h2 h3 h4 => if_pos ⟨h1, h2, h3, h4⟩, fun h => if_neg ?_⟩
    rintro ⟨h1, h2, h3, -⟩
    rcases h with h | h | h
    · exact h1 h
    · exact h h2
    · exact h h3
  · rw [State.settle_of_none (by simpa using hs) (State.mirror_stands_not hshape hk hm hn)]
    simp

end Sys2Proof.Machine
end


section
/-! PROOFS. A peer's PRESENT and STATE frames (R34, R45, R178, R179): the roster entry, the answers asked for, and the room they find. -/

namespace Sys2Proof.Machine

/-! ## The roster entry (R178) -/

/-- R178: a roster entry set, whether it changes or not. -/
theorem State.setRoster_line {s : State} {k : Nat} (hs : s.line.roster.length = 8) (h1 : 1 ≤ k) (h8 : k ≤ 8) (e : RosterEntry) :
    (s.setRoster k e).line = { s.line with roster := s.line.roster.set (k - 1) e } := by
  unfold State.setRoster
  split
  · next h =>
    have hlt : k - 1 < s.line.roster.length := by omega
    have hset : s.line.roster.set (k - 1) e = s.line.roster := by
      rw [h, List.getD_eq_getElem _ _ hlt, List.set_getElem_self]
    rw [hset]
  · rfl

theorem State.setRoster_eq (k : Nat) (e : RosterEntry) (s : State) :
    s.setRoster k e = { s with line := (s.setRoster k e).line, screen := (s.setRoster k e).screen } := by
  unfold State.setRoster
  split <;> rfl

/-- R178: the station just heard from shows the entry set. -/
theorem State.rosterEntry_setRoster {s : State} {k : Nat} (hs : s.line.roster.length = 8) (hk : s.IsPeer k) (e : RosterEntry) :
    (s.setRoster k e).rosterEntry k = e := by
  obtain ⟨h1, h8, hne⟩ := hk
  unfold State.rosterEntry
  rw [if_neg (by simpa using hne), if_neg (by omega), State.setRoster_line hs h1 h8]
  simp only
  rw [List.getD_eq_getElem?_getD, List.getElem?_set_self (by omega)]
  rfl

/-! ## The PRESENT frame -/

/-- R179: the frames after the answer to a PRESENT frame, the PRESENT of this station among them. -/
theorem Settles.answered {s : State} {b : Bool} {known : List Nat} (h : b = true ∨ known.contains s.straps.station = false) :
    Settles s.sendPresent (s.answerPresent b known) := by
  have hif : (b || !known.contains s.straps.station) = true := by
    rcases h with h | h <;> rw [h] <;> simp
  unfold State.answerPresent
  rw [if_pos hif]
  dsimp only
  split
  · unfold State.sendSummary
    split
    · exact .send _ _ _
    · exact .refl _
  · exact .refl _

theorem exec_presentFrame_eq {s : State} {k : Nat} (p : PresentPayload) (h : s.IsPeer k) :
    let old := s.line.roster.getD (k - 1) .absent
    let heard := (s.answer true).setRoster k { old with identity := some (.ofPresent p) }
    exec (.presentFrame k p) s = .next
      (heard.outsideBoot fun u => (u.answerPresent old.identity.isNone p.known).rosterHeard k) := by
  simp only [exec, execPresentFrame]
  rw [State.hear_peer h]
  rfl

/-- Settles O20: the entry set, and the answer's PRESENT, which nothing that follows takes from the queue. -/
theorem presentFrameFillsRoster : Obligations.PresentFrameFillsRoster := by
  intro s k p hshape hk old
  obtain ⟨u, hu⟩ : ∃ u, u = (s.answer true).setRoster k { old with identity := some (.ofPresent p) } := ⟨_, rfl⟩
  have hroster8 : (s.answer true).line.roster.length = 8 := hshape.roster
  have hline : u.line = { s.line with
      ackOut := true
      roster := s.line.roster.set (k - 1) ⟨some ⟨p.role, p.infeed, p.outfeed, p.programId⟩, old.report⟩ } := by
    rw [hu, State.setRoster_line hroster8 hk.1 hk.2.1]
    rfl
  have hkeep : u = { s with line := u.line, screen := u.screen } := by
    rw [hu, State.setRoster_eq]
    rfl
  have hexec := exec_presentFrame_eq p hk
  dsimp only at hexec
  rw [← hu] at hexec
  by_cases hb : s.control.station = .boot
  · rw [State.outsideBoot_neg (by rw [hkeep]; exact hb)] at hexec
    exact ⟨u, hexec, by rw [hline], fun _ => ⟨hkeep, by rw [hline]⟩, fun h => absurd hb h⟩
  · rw [State.outsideBoot_pos (by rw [hkeep]; exact hb)] at hexec
    have hsettles := (Settles.answerPresent old.identity.isNone p.known u).trans (.rosterHeard k _)
    refine ⟨_, hexec, by rw [hsettles.line.roster, hline], fun h => absurd h hb, fun _ hid hnew hroom => ?_⟩
    obtain ⟨id, hid⟩ := Option.isSome_iff_exists.1 hid
    have hpresent : u.sendPresent = u.send 0 (.present ⟨u.straps.station, u.straps.role, u.straps.infeed, u.straps.outfeed, id, u.knownSet⟩) := by
      unfold State.sendPresent
      rw [show u.programId? = some id by rw [hkeep]; exact hid]
    have hanswer : Settles u.sendPresent (u.answerPresent old.identity.isNone p.known) :=
      .answered (hnew.imp (fun h => by rw [h]; rfl) (fun h => by rw [hkeep]; exact h))
    have hknown : u.knownSet.contains k = true := by
      have hp : u.present k = true := by
        unfold State.present
        rw [hu, State.rosterEntry_setRoster hroster8 hk]
        rfl
      have hmem : k ∈ stationNumbers := by
        obtain ⟨h1, h8, -⟩ := hk
        simp only [stationNumbers, List.mem_cons, List.not_mem_nil, or_false]
        omega
      simp [State.knownSet, hmem, hp]
    obtain ⟨e, he, hbody⟩ := LineUnit.request_holds 0
      (body := .present ⟨u.straps.station, u.straps.role, u.straps.infeed, u.straps.outfeed, id, u.knownSet⟩) (l := u.line)
      (by simp [TxBody.frameClass]) (by rw [hline]; exact hroom)
    have hmem : e ∈ u.sendPresent.line.queue := by rw [hpresent]; exact he
    refine ⟨e, (hanswer.trans (.rosterHeard k _)).line.firm e hmem (by rw [hbody]; rfl), _, hbody, ?_, hknown⟩
    rw [hkeep]

/-! ## Room for all that one STATE frame asks for (R174) -/

theorem TxEntry.mergesWith_alarm (i : Nat) (e : AlarmEntry) (x : TxEntry) :
    x.mergesWith (alarmBody i e) = (x.onLine.isNone &&
      match x.body with
      | .alarm j _ _ _ _ => decide (i = j)
      | _ => false) := by
  unfold TxEntry.mergesWith alarmBody
  cases x.body <;> rfl

theorem TxEntry.body_of_merges_state {e : TxEntry} (h : e.mergesWith .state = true) : e.body = .state := by
  unfold TxEntry.mergesWith at h
  cases hb : e.body <;> simp_all

/-- An ALARM frame of source `i` waits. -/
def LineUnit.alarmWaits (l : LineUnit) (i : Nat) : Bool := l.queue.any (TxEntry.mergesWith (alarmBody i (.initial i)))

theorem LineUnit.alarmWaits_eq (l : LineUnit) (i : Nat) (e : AlarmEntry) :
    l.queue.any (TxEntry.mergesWith (alarmBody i e)) = l.alarmWaits i := by
  unfold LineUnit.alarmWaits
  congr 1
  funext x
  rw [TxEntry.mergesWith_alarm, TxEntry.mergesWith_alarm]

/-- Merging changes no frame but those of its own kind. -/
theorem any_mergeFrame {p : TxEntry → Bool} {body : TxBody} (h : ∀ e : TxEntry, e.mergesWith body = true → p { e with body := body } = p e)
    (q : List TxEntry) : (mergeFrame body q).any p = q.any p := by
  induction q with
  | nil => rfl
  | cons e es ih =>
    rw [mergeFrame]
    split
    · next hm => rw [List.any_cons, List.any_cons, h e hm]
    · rw [List.any_cons, List.any_cons, ih]

/-- A STATE frame waits, and there is room for an ALARM frame of every source that settling reports on and for `n` more. -/
structure LineUnit.Fits (n : Nat) (l : LineUnit) : Prop where
  waits : l.queue.any (TxEntry.mergesWith .state) = true
  room : l.queue.length + (settledSources.filter fun i => !l.alarmWaits i).length + n ≤ 16

namespace LineUnit.Fits

theorem requestState {n : Nat} {l : LineUnit} (h : l.Fits n) : (l.request 0 .state).Fits n := by
  have hr : l.request 0 .state = { l with queue := mergeFrame .state l.queue } := by
    unfold LineUnit.request
    rw [if_pos h.waits]
  have hany (b : TxBody) : (mergeFrame .state l.queue).any (TxEntry.mergesWith b) = l.queue.any (TxEntry.mergesWith b) := by
    refine any_mergeFrame (fun e he => ?_) _
    rw [← TxEntry.body_of_merges_state he]
  rw [hr]
  refine ⟨by rw [hany]; exact h.waits, ?_⟩
  simpa [LineUnit.alarmWaits, hany, mergeFrame_length] using h.room

theorem requestAlarm {n : Nat} {l : LineUnit} (h : l.Fits n) {i : Nat} (hi : i ∈ settledSources) (e : AlarmEntry) :
    (l.request 0 (alarmBody i e)).Fits n := by
  by_cases hw : l.alarmWaits i = true
  · have hr : l.request 0 (alarmBody i e) = { l with queue := mergeFrame (alarmBody i e) l.queue } := by
      unfold LineUnit.request
      rw [if_pos (by rwa [LineUnit.alarmWaits_eq])]
    have hany (b : TxBody) : (mergeFrame (alarmBody i e) l.queue).any (TxEntry.mergesWith b) = l.queue.any (TxEntry.mergesWith b) := by
      refine any_mergeFrame (fun x hx => ?_) _
      rw [TxEntry.mergesWith_alarm] at hx
      unfold TxEntry.mergesWith alarmBody
      cases hb : x.body <;> cases b <;> simp_all
    rw [hr]
    refine ⟨by rw [hany]; exact h.waits, ?_⟩
    simpa [LineUnit.alarmWaits, hany, mergeFrame_length] using h.room
  · have hfew : (settledSources.filter fun j => !l.alarmWaits j && !decide (j = i)).length <
        (settledSources.filter fun j => !l.alarmWaits j).length := by
      have hcut : (settledSources.filter fun j => !l.alarmWaits j && !decide (j = i)) =
          (settledSources.filter fun j => !l.alarmWaits j).filter fun j => !decide (j = i) := by
        rw [List.filter_filter]
        simp only [Bool.and_comm]
      rw [hcut, List.length_filter_lt_length_iff_exists]
      exact ⟨i, List.mem_filter.2 ⟨hi, by simpa using hw⟩, by simp⟩
    have hlen : l.queue.length < 16 := by have := h.room; omega
    have hr : l.request 0 (alarmBody i e) = { l with queue := l.queue ++ [⟨0, alarmBody i e, none, false⟩] } := by
      unfold LineUnit.request
      rw [if_neg (by rwa [LineUnit.alarmWaits_eq])]
      simp [TxEntry.isBulk, alarmBody, TxBody.frameClass, Config.queuePlaces, hlen]
    have hwaits (j : Nat) : (l.request 0 (alarmBody i e)).alarmWaits j = (l.alarmWaits j || decide (j = i)) := by
      rw [hr]
      unfold LineUnit.alarmWaits
      rw [List.any_append]
      congr 1
      rw [List.any_cons, TxEntry.mergesWith_alarm]
      simp [alarmBody]
    refine ⟨by rw [hr]; simp [h.waits], ?_⟩
    have hroom := h.room
    simp only [hwaits]
    rw [hr]
    simp only [List.length_append, List.length_singleton, Bool.not_or]
    omega

theorem afterAlarm {n : Nat} {l : LineUnit} (h : l.Fits n) {i : Nat} (hi : i ∈ settledSources) (e : AlarmEntry) (b : Bool)
    (old new : AlarmUnit) : (l.afterAlarm old new (if b then some (alarmBody i e) else none)).Fits n := by
  unfold LineUnit.afterAlarm
  cases b with
  | false =>
    dsimp only [Bool.false_eq_true, if_false]
    split
    · exact h
    · exact h.requestState
  | true =>
    dsimp only [if_true]
    split
    · exact h.requestAlarm hi e
    · exact (h.requestAlarm hi e).requestState

theorem requestPresent {n : Nat} {l : LineUnit} (h : l.Fits (n + 1)) (q : PresentPayload) : (l.request 0 (.present q)).Fits n := by
  have hroom := h.room
  have hr : l.request 0 (.present q) = { l with queue := l.queue ++ [⟨0, .present q, none, false⟩] } := by
    unfold LineUnit.request
    rw [if_neg (by simp [TxEntry.mergesWith])]
    simp [TxEntry.isBulk, TxBody.frameClass, Config.queuePlaces]
    omega
  have hwaits (j : Nat) : (l.request 0 (.present q)).alarmWaits j = l.alarmWaits j := by
    rw [hr]
    unfold LineUnit.alarmWaits
    rw [List.any_append]
    simp [TxEntry.mergesWith_alarm]
  refine ⟨by rw [hr]; simp [h.waits], ?_⟩
  simp only [hwaits]
  rw [hr]
  simp only [List.length_append, List.length_singleton]
  omega

/-- The room left over may stay unused. -/
theorem weaken {n : Nat} {l : LineUnit} (h : l.Fits (n + 1)) : l.Fits n :=
  ⟨h.waits, by have := h.room; omega⟩

/-- R174: a STATE frame asked for with nine frames or fewer in the queue leaves room for all that follows it. -/
theorem of_request {l : LineUnit} (h : l.queue.length ≤ 9) : (l.request 0 .state).Fits 1 := by
  have hsources (m : LineUnit) : (settledSources.filter fun i => !m.alarmWaits i).length ≤ 5 :=
    (List.length_filter_le _ _).trans (by decide)
  have hlen := l.length_request 0 .state
  have := hsources (l.request 0 .state)
  refine ⟨?_, by omega⟩
  unfold LineUnit.request
  split
  · next hm =>
    dsimp only
    rw [any_mergeFrame _ _]
    · exact hm
    · intro e he
      rw [← TxEntry.body_of_merges_state he]
  · simp [TxEntry.isBulk, TxBody.frameClass, Config.queuePlaces, show l.queue.length < 16 by omega, TxEntry.mergesWith]

end LineUnit.Fits

/-! ### What keeps that room -/

theorem State.putEntry_fits {n i : Nat} (hi : i ∈ settledSources) (e : AlarmEntry) (b : Bool) {s : State} (h : s.line.Fits n) :
    (s.putEntry i e b).line.Fits n :=
  h.afterAlarm hi e b _ _

theorem State.raiseAlarm_fits {n i : Nat} (hi : i ∈ settledSources) (d : Detail) {s : State} (h : s.line.Fits n) :
    (s.raiseAlarm i d).line.Fits n := by
  unfold State.raiseAlarm
  split
  · exact h
  · exact State.putEntry_fits hi _ _ h

theorem State.conditionGone_fits {n i : Nat} (hi : i ∈ settledSources) {s : State} (h : s.line.Fits n) :
    (s.conditionGone i).line.Fits n := by
  unfold State.conditionGone
  dsimp only
  split
  · exact State.putEntry_fits hi _ true h
  · exact State.putEntry_fits hi _ false h

theorem State.setStation_fits {n : Nat} (st : StationState) {s : State} (h : s.line.Fits n) : (s.setStation st).line.Fits n := by
  unfold State.setStation
  split
  · exact h
  · exact h.requestState

theorem LineUnit.Fits.timer {n : Nat} {l : LineUnit} (h : l.Fits n) (x : Timer) : LineUnit.Fits n { l with rollCallTimer := x } :=
  ⟨h.waits, h.room⟩

theorem State.judgeFinding_fits {n i : Nat} (hi : i ∈ settledSources) (x : Option Nat) {s : State} (h : s.line.Fits n) :
    (s.judgeFinding i x).line.Fits n := by
  unfold State.judgeFinding
  split
  · exact State.raiseAlarm_fits hi _ h
  · exact State.conditionGone_fits hi h

theorem State.judgeRoster_fits {n : Nat} {s : State} (h : s.line.Fits n) : s.judgeRoster.line.Fits n := by
  unfold State.judgeRoster State.judgeGap
  split
  · exact h
  · have hj := State.judgeFinding_fits (i := Source.lineLayout) (by decide)
      (smallest (s.judgeFinding Source.programMismatch s.mismatch).layoutBreaches)
      (State.judgeFinding_fits (i := Source.programMismatch) (by decide) s.mismatch h)
    dsimp only
    split
    · exact State.conditionGone_fits (by decide) hj
    · exact hj

theorem State.tryReady_fits {n : Nat} {s : State} (h : s.line.Fits n) : s.tryReady.line.Fits n := by
  unfold State.tryReady
  split
  · exact State.setStation_fits _ (h.timer .stopped)
  · exact h

theorem State.leaveStopped_fits {n : Nat} {s : State} (h : s.line.Fits (n + 1)) : s.leaveStopped.line.Fits n := by
  have hpresent {r : State} (hr : r.line.Fits (n + 1)) : r.sendPresent.line.Fits n := by
    unfold State.sendPresent
    split
    · exact hr.requestPresent _
    · exact hr.weaken
  unfold State.leaveStopped
  split
  · exact State.setStation_fits _ h.weaken
  · split
    · exact State.setStation_fits _ h.weaken
    · unfold State.enterRollCall
      exact State.tryReady_fits (State.judgeRoster_fits ((hpresent (State.setStation_fits _ h)).timer _))

theorem State.enterStopped_fits {n : Nat} {s : State} (h : s.line.Fits n) : s.enterStopped.line.Fits n := by
  have hdebit {r : State} (hr : r.line.Fits n) : r.debit.line.Fits n := by
    unfold State.debit State.judgeStock
    (repeat' split)
    · exact State.raiseAlarm_fits (by decide) _ hr
    · exact hr
    · exact hr
    · exact hr
  have habort {r : State} (hr : r.line.Fits n) : r.abortWire.line.Fits n := by
    unfold State.abortWire
    dsimp only
    (repeat' split)
    · exact hdebit (by simpa using hr)
    · exact hr
    · exact hr
  unfold State.enterStopped
  refine State.setStation_fits _ ?_
  simp only [State.haltElevators_frame, State.haltIndex_frame, State.abandonPull_frame]
  refine habort ?_
  unfold State.stopRollCall
  split
  · exact h.timer _
  · exact h

theorem State.settle_fits {n : Nat} {s : State} (h : s.line.Fits (n + 1)) : s.settle.line.Fits n := by
  have hstop {r : State} (hr : r.line.Fits n) : r.settleStop.line.Fits n := by
    unfold State.settleStop
    split
    · exact State.enterStopped_fits hr
    · exact hr
  unfold State.settle
  split
  · exact hstop (State.leaveStopped_fits h)
  · exact hstop h.weaken

theorem State.rosterHeard_fits {n : Nat} (k : Nat) {s : State} (h : s.line.Fits (n + 1)) : (s.rosterHeard k).line.Fits n := by
  have hcover {r : State} (hr : r.line.Fits (n + 1)) : r.judgeCover.line.Fits (n + 1) := by
    unfold State.judgeCover State.endCoverWait
    (repeat' split)
    · exact State.conditionGone_fits (by decide) hr
    · exact hr
    · exact hr
  have hready := State.tryReady_fits (State.judgeRoster_fits h)
  unfold State.rosterHeard
  dsimp only
  split
  · exact State.settle_fits (hcover hready)
  · exact State.settle_fits hready

/-! ## The STATE frame -/

/-- R34, R45, R178: what a station outside BOOT takes from a peer's STATE frame. -/
def State.hearsState (k : Nat) (p : StatePayload) (s : State) : State :=
  ((s.stageHears k p).mirrorFromState k p).rosterHeard k

theorem exec_stateFrame_eq {s : State} {k : Nat} (p : StatePayload) (h : s.IsPeer k) :
    exec (.stateFrame k p) s = .next
      (((s.answer true).setRoster k { s.line.roster.getD (k - 1) .absent with report := some p }).outsideBoot
        (State.hearsState k p)) := by
  simp only [exec, execStateFrame]
  rw [State.hear_peer h]
  rfl

theorem State.stageHears_asked (k : Nat) (p : StatePayload) (s : State) : s.line.Asked (s.stageHears k p).line := by
  unfold State.stageHears
  (repeat' (split <;> try dsimp only))
  · exact .request _ _ _
  · exact .refl _
  · exact .request _ _ _
  · exact .refl _

theorem State.stageHears_permit (k : Nat) (p : StatePayload) (s : State) :
    (s.stageHears k p).stage.permit = if k = s.straps.station + 1 then p.ready else s.stage.permit := by
  unfold State.stageHears
  (repeat' (split <;> try dsimp only)) <;> simp_all

theorem State.mirrorFromState_asked (k : Nat) (p : StatePayload) (s : State) : s.line.Asked (s.mirrorFromState k p).line := by
  unfold State.mirrorFromState
  split
  · exact s.mirror_asked k none
  · exact .refl _

/-- R34: a summary of none asks for no frame but STATE. -/
theorem State.mirrorFromState_fits {n : Nat} (k : Nat) (p : StatePayload) {s : State} (h : s.line.Fits n) :
    (s.mirrorFromState k p).line.Fits n := by
  unfold State.mirrorFromState
  split
  · show LineUnit.Fits n (s.line.afterAlarm _ _ none)
    unfold LineUnit.afterAlarm
    dsimp only
    split
    · exact h
    · exact h.requestState
  · exact h

theorem State.mirrorFromState_entry {s : State} {k : Nat} (hs : s.alarms.entries.length = 40) (hk : s.IsPeer k) (p : StatePayload) :
    (s.mirrorFromState k p).alarms.entry (31 + k) =
      if p.highest = none then (s.alarms.entry (31 + k)).unmirrored else s.alarms.entry (31 + k) := by
  unfold State.mirrorFromState
  split
  · rw [State.mirror_alarms]
    exact AlarmUnit.entry_put_self _ _ _ (show 31 + k < _ by have := mirror_bounds hk; omega)
  · rfl

/-- Settles O21: the report set, then the permit, the answer, which finds its room, and the mirror entry. -/
theorem stateFrameGivesPermit : Obligations.StateFrameGivesPermit := by
  intro s k p hshape hk old
  obtain ⟨u, hu⟩ : ∃ u, u = (s.answer true).setRoster k { old with report := some p } := ⟨_, rfl⟩
  have hline : u.line = { s.line with ackOut := true, roster := s.line.roster.set (k - 1) ⟨old.identity, some p⟩ } := by
    rw [hu, State.setRoster_line (s := s.answer true) hshape.roster hk.1 hk.2.1]
    rfl
  have hkeep : u = { s with line := u.line, screen := u.screen } := by
    rw [hu, State.setRoster_eq]
    rfl
  have hstraps : u.straps = s.straps := by rw [hkeep]
  have halarms : u.alarms = s.alarms := by rw [hkeep]
  have hstage : u.stage = s.stage := by rw [hkeep]
  have hpeer : (u.stageHears k p).IsPeer k := by simpa [State.IsPeer, hstraps] using hk
  have hexec := exec_stateFrame_eq p hk
  rw [show (s.answer true).setRoster k { s.line.roster.getD (k - 1) .absent with report := some p } = u from hu.symm] at hexec
  by_cases hb : s.control.station = .boot
  · rw [State.outsideBoot_neg (by rw [hkeep]; exact hb)] at hexec
    exact ⟨u, hexec, by rw [hline], fun _ => hkeep, fun h => absurd hb h⟩
  · rw [State.outsideBoot_pos (by rw [hkeep]; exact hb)] at hexec
    have hsettles := Settles.rosterHeard k ((u.stageHears k p).mirrorFromState k p)
    have hpermit : (u.hearsState k p).stage.permit = if k = s.straps.station + 1 then p.ready else s.stage.permit := by
      have hp := u.stageHears_permit k p
      rw [hstraps, hstage] at hp
      rw [← hp]
      refine hsettles.stage.2.2.1.trans ?_
      simp
    have hentry : (u.hearsState k p).alarms.entry (31 + k) =
        if p.highest = none then (s.alarms.entry (31 + k)).unmirrored else s.alarms.entry (31 + k) := by
      refine (hsettles.entry _ (mirror_bounds hk).2.2).trans ?_
      rw [State.mirrorFromState_entry (by simpa [halarms] using hshape.alarms) hpeer]
      simp [halarms]
    refine ⟨_, hexec, ?_, fun h => absurd h hb, fun _ => ⟨fun h => ?_, fun h => ?_, fun hprev hfin hroom => ?_, fun h => ?_, fun h => ?_⟩⟩
    · refine hsettles.line.roster.trans ?_
      rw [(State.mirrorFromState_asked _ _ _).roster, (State.stageHears_asked _ _ _).roster, hline]
    · rw [hpermit, if_pos h]
    · rw [hpermit, if_neg h]
    · have hask : (u.stageHears k p).line = u.line.request 0 .state := by
        simp [State.stageHears, hstraps, show ¬ k = s.straps.station + 1 by omega, hprev, hfin]
      have hfits : (u.stageHears k p).line.Fits 1 := by
        rw [hask]
        exact .of_request (by rw [hline]; exact hroom)
      have hend := State.rosterHeard_fits (n := 0) k (State.mirrorFromState_fits k p hfits)
      obtain ⟨e, he, hm⟩ := List.any_eq_true.1 hend.waits
      exact ⟨e, he, TxEntry.body_of_merges_state hm⟩
    · rw [hentry, if_pos h]
      rfl
    · rw [hentry, if_neg h]

end Sys2Proof.Machine
end


section
/-! PROOFS. The handoff's frames: OFFER and TAKE (R47, R48, R51), the parts a record travels in (R14), and RECORD parts at the receiver
(R52, R182). -/

namespace Sys2Proof.Machine

/-! ## Hearing in BOOT (R171) -/

theorem State.hear_boot {s : State} {k : Nat} (hk : s.IsPeer k) (hb : s.control.station = .boot) (target : Nat)
    (handle : State → State) : s.hear k target (State.outsideBoot handle) = s.answer true := by
  obtain ⟨h1, h8, hne⟩ := hk
  unfold State.hear
  rw [if_neg (by omega), if_neg hne]
  split
  · rfl
  · exact State.outsideBoot_neg (s := s.answer true) hb _

/-- R171: a frame of a peer addressed to this station, outside BOOT. -/
theorem State.hear_own_outside {s : State} {k : Nat} (hk : s.IsPeer k) (hb : s.control.station ≠ .boot) (handle : State → State) :
    s.hear k s.straps.station (State.outsideBoot handle) = handle (s.answer true) := by
  rw [State.hear_own hk]
  exact State.outsideBoot_pos (s := s.answer true) hb _

/-! ## OFFER (R51) -/

theorem exec_offerFrame_eq {s : State} {k : Nat} (o : OfferPayload) (hk : s.IsPeer k) (hb : s.control.station ≠ .boot) :
    exec (.offerFrame k s.straps.station o) s = .next ((s.answer true).answerOffer k o) := by
  simp only [exec, execOfferFrame]
  rw [State.hear_own_outside hk hb]

/-- R51: a refused OFFER asks for the REFUSE and nothing else. -/
theorem State.answerOffer_refused {s : State} {k : Nat} {reason : RefuseReason} (o : OfferPayload) (h : s.refusal k = some reason) :
    s.answerOffer k o = s.send k (.refuse ⟨o.offerNumber, reason⟩) := by
  unfold State.answerOffer
  rw [h]

/-- Settles O22, check by check. -/
theorem offerIsAnsweredAtOnce : Obligations.OfferIsAnsweredAtOnce := by
  constructor
  · intro s k target o hk hb
    simp only [exec, execOfferFrame]
    rw [State.hear_boot hk hb]
    rfl
  · intro s k o hk hb h0 heard
    have hexec := exec_offerFrame_eq o hk hb
    refine ⟨fun h => ?_, fun hin hprev hr hp => ?_, fun hin hprev hrun hst => ?_, fun hin hprev hrun hst => ?_, fun target h1 h2 => ?_⟩
    · rw [hexec, State.answerOffer_refused (reason := .notNeighbour) o]
      · rfl
      · unfold State.refusal
        rw [if_pos (by simpa using h)]
    · rw [hexec, State.answerOffer_refused (reason := .notRunning) o]
      · rfl
      · unfold State.refusal
        rw [if_neg (by simp [hin, hprev]), if_pos (by simp [State.runOrPaused, hr, hp])]
    · have hpos : s.runOrPaused = true := by simpa [State.runOrPaused] using hrun
      rw [hexec, State.answerOffer_refused (reason := .stageBusy) o]
      · rfl
      · unfold State.refusal
        rw [if_neg (by simp [hin, hprev]), if_neg (by simpa [State.runOrPaused, imp_iff_not_or, not_not] using hpos), if_pos (by simpa using hst)]
    · have hpos : s.runOrPaused = true := by simpa [State.runOrPaused] using hrun
      have htake : (s.answer true).refusal k = none := by
        unfold State.refusal
        rw [if_neg (by simp [hin, hprev]), if_neg (by simpa [State.runOrPaused, imp_iff_not_or, not_not] using hpos), if_neg (by simpa using hst)]
      refine ⟨_, hexec, ?_, ?_, ?_⟩
      · unfold State.answerOffer
        rw [htake]
        simp [RecordAssembly.fresh, State.transferTimeout, State.setting, State.program?]
      · unfold State.answerOffer State.setStage
        rw [htake]
        dsimp only
        rw [if_neg (by simp [hst])]
        rfl
      · unfold State.answerOffer
        rw [htake]
        apply State.ext <;> simp
    · simp only [exec, execOfferFrame]
      rw [State.hear_other hk h1 h2]
      rfl

/-! ## TAKE (R47, R48) -/

theorem exec_takeFrame_eq {s : State} {k : Nat} (p : TakePayload) (hk : s.IsPeer k) (hb : s.control.station ≠ .boot) :
    exec (.takeFrame k s.straps.station p) s = .next
      (match s.stage.record with
        | some r => if s.takeMatches k p r then (s.answer true).beginHanding r else s.answer true
        | none => s.answer true) := by
  simp only [exec, execTakeFrame]
  rw [State.hear_own_outside hk hb]
  rfl

/-- R174: a frame below class 5 never waits for room. -/
theorem LineUnit.request_waiting (target : Nat) {body : TxBody} (h : body.frameClass < 5) (l : LineUnit) :
    (l.request target body).waiting = l.waiting := by
  rcases l.request_cases target body with ⟨-, hr⟩ | ⟨-, -, hr⟩ | ⟨hc, -⟩ | ⟨-, -, -, hr⟩ | ⟨-, -, -, hr⟩
  · rw [hr]
  · rw [hr]
  · omega
  · rw [hr]
  · rw [hr]

/-- R174: a RECORD part asked for stands behind all that is queued and all that waits. -/
theorem LineUnit.request_record (target n : Nat) (p : RecordPayload) (l : LineUnit) :
    (l.request target (.record n p)).queue ++ (l.request target (.record n p)).waiting =
      l.queue ++ l.waiting ++ [⟨target, .record n p, none, false⟩] := by
  rcases l.request_cases target (.record n p) with ⟨hm, -⟩ | ⟨-, hw, hr⟩ | ⟨-, -, hr⟩ | ⟨hc, -⟩ | ⟨hc, -⟩
  · obtain ⟨e, -, he⟩ := List.any_eq_true.1 hm
    simp [TxEntry.mergesWith] at he
  · rw [hr, (hw (by simp [TxBody.frameClass])).2]
    simp
  · rw [hr]
    simp
  · simp [TxBody.frameClass] at hc
  · simp [TxBody.frameClass] at hc

/-- R48: the parts asked for in order stand in order behind all that waits. -/
theorem State.sendAll_records (target n : Nat) (ps : List RecordPayload) (s : State) :
    (s.sendAll target (ps.map (.record n))).line.queue ++ (s.sendAll target (ps.map (.record n))).line.waiting =
      s.line.queue ++ s.line.waiting ++ ps.map fun x => ⟨target, .record n x, none, false⟩ := by
  induction ps generalizing s with
  | nil => simp [State.sendAll]
  | cons p ps ih =>
    simp only [List.map_cons, State.sendAll]
    rw [ih, State.send_line, LineUnit.request_record]
    simp

/-- Settles O23: a TAKE that matches begins the handing; one that does not is acknowledged alone. -/
theorem takeBeginsHanding : Obligations.TakeBeginsHanding := by
  constructor
  · intro s p h8 h0 hb r hr hst hp
    have hk : s.IsPeer (s.straps.station + 1) := ⟨by omega, by omega, by omega⟩
    have hexec := exec_takeFrame_eq p hk hb
    have hmatch : s.takeMatches (s.straps.station + 1) p r = true := by simp [State.takeMatches, hst, hp]
    rw [hr] at hexec
    dsimp only at hexec
    rw [if_pos hmatch] at hexec
    refine ⟨_, hexec, ?_, by apply State.ext <;> simp, ?_⟩
    · unfold State.beginHanding
      simp [State.transferTimeout, State.setting, State.program?]
    · unfold State.beginHanding
      dsimp only
      refine (State.sendAll_records _ _ _ _).trans ?_
      unfold State.setStage
      rw [if_neg (by simp [hst])]
      simpa using LineUnit.request_waiting 0 (by decide) _
  · intro s k p hk h0 hne
    by_cases hb : s.control.station = .boot
    · simp only [exec, execTakeFrame]
      rw [State.hear_boot hk hb]
      rfl
    · rw [exec_takeFrame_eq p hk hb]
      cases hr : s.stage.record with
      | none => rfl
      | some r =>
        have hmatch : ¬ s.takeMatches k p r = true := by
          intro hm
          obtain ⟨hst, hnext, hn, hserial, hseq⟩ := of_decide_eq_true hm
          rcases hne with h | h | h | h
          · exact hb h
          · exact h hst
          · exact h hnext
          · refine h r hr ?_
            rw [← hn, ← hserial, ← hseq]
        dsimp only
        rw [if_neg hmatch]
        rfl

/-! ## The parts of a record (R14) -/

/-- R14: the numbers of the unit parts, from `i + 1` upward. -/
theorem map_number_unitParts (es : List UnitEntry) (i : Nat) :
    ((es.zipIdx i).map fun (e, j) => (⟨j + 1, .unit e⟩ : RecordPayload)).map (·.number) = List.range' (i + 1) es.length := by
  induction es generalizing i with
  | nil => rfl
  | cons e es ih =>
    simp only [List.zipIdx_cons, List.map_cons, List.length_cons, List.range'_succ]
    rw [ih]

/-- R14, R52: the unit parts of a table, in order, join an assembly that has its header part. -/
theorem takePart_unitParts {o : OfferPayload} {h : HeaderPart} (es : List UnitEntry) (done : List UnitEntry)
    (hu : h.units = o.units) (hlen : done.length + es.length ≤ h.units) (hes : ∀ e ∈ es, e.progress.length = h.segments) :
    ((es.zipIdx done.length).map fun (e, j) => (⟨j + 1, .unit e⟩ : RecordPayload)).foldl (fun a p => RecordAssembly.takePart o p a)
      ⟨some h, done, none, false⟩ = (⟨some h, done ++ es, none, false⟩ : RecordAssembly) := by
  induction es generalizing done with
  | nil => simp
  | cons e es ih =>
    have hl : done.length + 1 ≤ h.units := by simp only [List.length_cons] at hlen; omega
    have htake : RecordAssembly.takePart o ⟨done.length + 1, .unit e⟩ ⟨some h, done, none, false⟩ =
        ⟨some h, done ++ [e], none, false⟩ := by
      have hfit : partFits o.units ⟨done.length + 1, .unit e⟩ = true := by
        simp [partFits]
        omega
      simp [RecordAssembly.takePart, RecordAssembly.complete, hfit, RecordAssembly.due, Nat.add_comm, RecordAssembly.addPart,
        hes e (by simp)]
      omega
    simp only [List.zipIdx_cons, List.map_cons, List.foldl_cons]
    rw [htake]
    have := ih (done ++ [e]) (by simp only [List.length_append, List.length_cons, List.length_nil] at hlen ⊢; omega)
      fun x hx => hes x (by simp [hx])
    rw [List.length_append, List.length_singleton] at this
    rw [this]
    simp

/-- Settles O24, by whether the record is tracked: the header part, the unit parts by induction over the table, the suspect part. -/
theorem assemblyRestoresRecord : Obligations.AssemblyRestoresRecord := by
  intro n r hr
  cases ht : r.tracked with
  | none =>
    refine ⟨by simp [StripRecord.parts, StripRecord.units, ht], by simp [StripRecord.parts, StripRecord.units, ht, List.range_succ], ?_⟩
    obtain ⟨serial, lineSeq, dwell, sample, tracked⟩ := r
    obtain rfl : tracked = none := ht
    simp [StripRecord.parts, RecordAssembly.takePart, RecordAssembly.fresh, RecordAssembly.complete, partFits, RecordAssembly.due,
      RecordAssembly.addPart, offerOf, StripRecord.units, RecordAssembly.record?]
  | some t =>
    obtain ⟨hprogress, hsuspects⟩ := hr t ht
    refine ⟨by simp [StripRecord.parts, StripRecord.units, ht], ?_, ?_⟩
    · simp only [StripRecord.parts, StripRecord.units, ht, List.map_cons, List.map_append, List.map_nil]
      rw [map_number_unitParts, List.range_eq_range', List.range'_succ, ← List.range'_append_1 (s := 1) (m := t.table.length) (n := 1)]
      simp [Nat.add_comm]
    · obtain ⟨serial, lineSeq, dwell, sample, tracked⟩ := r
      obtain rfl : tracked = some t := ht
      have hunits := takePart_unitParts (o := offerOf n ⟨serial, lineSeq, dwell, sample, some t⟩)
        (h := ⟨serial, lineSeq, true, dwell, sample, t.table.length, t.segments, t.dropped⟩) t.table [] rfl (by simp) hprogress
      have hheader : RecordAssembly.takePart (offerOf n ⟨serial, lineSeq, dwell, sample, some t⟩)
          ⟨0, .header ⟨serial, lineSeq, true, dwell, sample, t.table.length, t.segments, t.dropped⟩⟩ RecordAssembly.fresh =
          ⟨some ⟨serial, lineSeq, true, dwell, sample, t.table.length, t.segments, t.dropped⟩, [], none, false⟩ := by
        simp [RecordAssembly.takePart, RecordAssembly.fresh, RecordAssembly.complete, partFits, RecordAssembly.due,
          RecordAssembly.addPart, offerOf, StripRecord.units]
      simp only [StripRecord.parts, List.foldl_cons, List.foldl_append, List.foldl_nil]
      rw [hheader]
      refine (congrArg (fun a => (RecordAssembly.takePart _ _ a).record?) hunits).trans ?_
      have hlast : RecordAssembly.takePart (offerOf n ⟨serial, lineSeq, dwell, sample, some t⟩)
          ⟨t.table.length + 1, .suspects t.suspects⟩
          ⟨some ⟨serial, lineSeq, true, dwell, sample, t.table.length, t.segments, t.dropped⟩, t.table, none, false⟩ =
          ⟨some ⟨serial, lineSeq, true, dwell, sample, t.table.length, t.segments, t.dropped⟩, t.table, some t.suspects, false⟩ := by
        simp [RecordAssembly.takePart, RecordAssembly.complete, partFits, RecordAssembly.due, Nat.add_comm, RecordAssembly.addPart,
          offerOf, StripRecord.units]
        exact hsuspects
      exact congrArg RecordAssembly.record? hlast

end Sys2Proof.Machine
end


section
/-! PROOFS. RECORD parts at the receiver, frames discarded, and a frame under this station's own number (R14, R52, R171, R182). -/

namespace Sys2Proof.Machine

/-! ## A station's own number heard (R171) -/

theorem State.raiseAlarm_asked (i : Nat) (d : Detail) (s : State) : s.line.Asked (s.raiseAlarm i d).line := by
  unfold State.raiseAlarm
  split
  · exact .refl _
  · exact .afterAlarm _ _ _ _

/-- R171: what a frame under the station's own number brings outside BOOT. -/
structure DuplicateStops (s t : State) : Prop where
  station : t.control.station = .stopped
  started : t.control.lineStarted = s.control.lineStarted ∧ t.control.restartWaiting = s.control.restartWaiting
  raised : t.alarms.entry Source.duplicateStation =
    (let old := s.alarms.entry Source.duplicateStation
     if old.state = .clear then
       { old with state := .active, condition := true, count := bump 255 old.count, detail := .station s.straps.station }
     else { old with condition := true, detail := .station s.straps.station })
  entry : ∀ j, j ≠ Source.duplicateStation → j ∉ settledSources → t.alarms.entry j = s.alarms.entry j
  line : t.line.roster = s.line.roster ∧ t.line.ackOut = s.line.ackOut
  report : t.report = s.report
  trims : t.energy.trims = s.energy.trims
  stage : t.stage.state = s.stage.state ∧ t.stage.assembly = s.stage.assembly ∧ t.stage.permit = s.stage.permit ∧
    t.stage.offerTimer = s.stage.offerTimer

/-- R29: a raise of a local condition source, entry by entry. -/
theorem AlarmEntry.raised_of_condition {i : Nat} (h : isEvent i = false) (d : Detail) (e : AlarmEntry) :
    e.raised i d = if e.state = .clear then { e with state := .active, condition := true, count := bump 255 e.count, detail := d }
      else { e with condition := true, detail := d } := by
  unfold AlarmEntry.raised
  rw [if_neg (by simp [h])]
  cases hs : e.state <;> simp [Config.byteCap]

theorem State.duplicate_stops {s : State} (hlen : s.alarms.entries.length = 40) (hb : s.control.station ≠ .boot) :
    DuplicateStops s s.duplicate := by
  obtain ⟨u, hu⟩ : ∃ u, u = s.raiseAlarm Source.duplicateStation (.station s.straps.station) := ⟨_, rfl⟩
  have hdup : s.duplicate = u.settle := by
    unfold State.duplicate
    rw [if_neg hb, hu]
  have halarms : u.alarms = s.alarms.put Source.duplicateStation
      ((s.alarms.entry Source.duplicateStation).raised Source.duplicateStation (.station s.straps.station)) := by
    rw [hu, State.raiseAlarm_alarms, AlarmUnit.disabled_of_stop _ (by decide)]
    rfl
  have hcontrol : u.control = s.control := by rw [hu, State.raiseAlarm_control_of_not_hold _ _ (by decide)]
  have hentry : u.alarms.entry Source.duplicateStation =
      (s.alarms.entry Source.duplicateStation).raised Source.duplicateStation (.station s.straps.station) := by
    rw [halarms, AlarmUnit.entry_put_self _ _ _ (by rw [hlen]; decide)]
  have hstands : u.alarms.stopStands = true := by
    rw [AlarmUnit.stopStands_iff]
    refine ⟨1, by decide, rfl, ?_⟩
    rw [show u.alarms.entry 1 = _ from hentry, AlarmEntry.raised_of_condition (by decide)]
    split
    · simp
    · next h => exact h
  have hsettles := Settles.settle u
  have hasked := State.raiseAlarm_asked Source.duplicateStation (.station s.straps.station) s
  have hstage : u.stage = s.stage := by simp [hu]
  rw [hdup]
  refine ⟨State.settle_of_stands (by rwa [hcontrol]) hstands, ?_, ?_, fun j hj hn => ?_, ?_, ?_, ?_, ?_⟩
  · rw [← hcontrol]
    exact hsettles.started
  · rw [hsettles.entry _ (by decide), hentry]
    exact AlarmEntry.raised_of_condition (by decide) _ _
  · rw [hsettles.entry _ hn, halarms, AlarmUnit.entry_put_ne _ _ (Ne.symm hj)]
  · rw [← hu] at hasked
    exact ⟨hsettles.line.roster.trans hasked.roster, hsettles.line.ackOut.trans hasked.ackOut⟩
  · rw [hsettles.report]
    simp [hu]
  · rw [hsettles.trims]
    simp [hu]
  · rw [← hstage]
    exact hsettles.stage

/-! ## RECORD parts (R52) -/

theorem exec_recordFrame_eq {s : State} {k : Nat} (p : RecordPayload) (hk : s.IsPeer k) (hb : s.control.station ≠ .boot) :
    exec (.recordFrame k s.straps.station p) s = .next ((s.answer true).takeRecordPart k p) := by
  simp only [exec, execRecordFrame]
  rw [State.hear_own_outside hk hb]

/-- R14: a part that is not taken leaves the assembly. -/
theorem RecordAssembly.takePart_of_closed (o : OfferPayload) (p : RecordPayload) {a : RecordAssembly}
    (h : a.broken = true ∨ a.complete = true) : a.takePart o p = a := by
  unfold RecordAssembly.takePart
  rw [if_pos (by simpa using h)]

theorem RecordAssembly.takePart_of_not_fits {o : OfferPayload} {p : RecordPayload} (a : RecordAssembly)
    (h : partFits o.units p = false) : a.takePart o p = a := by
  unfold RecordAssembly.takePart
  split
  · rfl
  · rw [if_pos (by simp [h])]

theorem RecordAssembly.takePart_out_of_order {o : OfferPayload} {p : RecordPayload} {a : RecordAssembly} (hb : a.broken = false)
    (hc : a.complete = false) (h : partFits o.units p = true) (hn : p.number ≠ a.due) :
    a.takePart o p = { a with broken := true } := by
  unfold RecordAssembly.takePart
  rw [if_neg (by simp [hb, hc]), if_neg (by simp [h]), if_pos hn]

theorem RecordAssembly.takePart_in_order {o : OfferPayload} {p : RecordPayload} {a : RecordAssembly} (hb : a.broken = false)
    (hc : a.complete = false) (h : partFits o.units p = true) (hn : p.number = a.due) : a.takePart o p = a.addPart o p := by
  unfold RecordAssembly.takePart
  rw [if_neg (by simp [hb, hc]), if_neg (by simp [h]), if_neg (by simp [hn])]

theorem RecordAssembly.complete_iff (a : RecordAssembly) : a.complete = true ↔ a.suspects ≠ none ∧ a.broken = false := by
  simp [RecordAssembly.complete, Option.isSome_iff_ne_none]

theorem RecordAssembly.due_of_none {a : RecordAssembly} (h : a.header = none) : a.due = 0 := by
  simp [RecordAssembly.due, h]

theorem RecordAssembly.due_of_open {a : RecordAssembly} {h : HeaderPart} (hh : a.header = some h) (hs : a.suspects = none) :
    a.due = a.units.length + 1 := by
  simp [RecordAssembly.due, hh, hs, Nat.add_comm]

/-- R14, R52: a header part. -/
theorem RecordAssembly.takePart_header (a : RecordAssembly) (o : OfferPayload) (p : RecordPayload) (h : HeaderPart)
    (hp : p.content = .header h) :
    (p.number ≠ 0 → a.takePart o p = a) ∧ (a.broken = false → a.complete = false → p.number = 0 →
      (a.due ≠ 0 → a.takePart o p = { a with broken := true }) ∧
      (a.header = none → a.takePart o p =
        if h.serial = o.serial ∧ h.lineSeq = o.lineSeq ∧ h.tracked = o.tracked ∧ h.units = o.units then
          { a with header := some h } else { a with broken := true })) := by
  refine ⟨fun hn => a.takePart_of_not_fits (by simp [partFits, hp, hn]), fun hb hc hn => ?_⟩
  have hfit : partFits o.units p = true := by simp [partFits, hp, hn]
  refine ⟨fun hd => takePart_out_of_order hb hc hfit (by rw [hn]; exact Ne.symm hd), fun hh => ?_⟩
  rw [takePart_in_order hb hc hfit (by rw [hn, due_of_none hh])]
  unfold RecordAssembly.addPart
  rw [hp, hh]

/-- R14, R52: a unit part. -/
theorem RecordAssembly.takePart_unit (a : RecordAssembly) (o : OfferPayload) (p : RecordPayload) (e : UnitEntry)
    (hp : p.content = .unit e) :
    (p.number = 0 ∨ p.number = o.units + 1 → a.takePart o p = a) ∧
    (a.broken = false → a.complete = false → 1 ≤ p.number → p.number ≠ o.units + 1 →
      (p.number ≠ a.due → a.takePart o p = { a with broken := true }) ∧
      (∀ h, a.header = some h → p.number = a.due → a.takePart o p =
        if p.number ≤ h.units ∧ e.progress.length = h.segments then { a with units := a.units ++ [e] }
        else { a with broken := true })) := by
  refine ⟨fun hn => a.takePart_of_not_fits ?_, fun hb hc h1 hn => ?_⟩
  · simp only [partFits, hp, decide_eq_false_iff_not]
    omega
  · have hfit : partFits o.units p = true := by
      simp only [partFits, hp, decide_eq_true_eq]
      omega
    refine ⟨fun hd => takePart_out_of_order hb hc hfit hd, fun h hh hd => ?_⟩
    rw [takePart_in_order hb hc hfit hd]
    unfold RecordAssembly.addPart
    rw [hp, hh]

/-- R14, R52: a suspect part. -/
theorem RecordAssembly.takePart_suspects (a : RecordAssembly) (o : OfferPayload) (p : RecordPayload) (l : List Suspect)
    (hp : p.content = .suspects l) :
    (p.number ≤ o.units → a.takePart o p = a) ∧ (a.broken = false → a.complete = false → o.units < p.number →
      (p.number ≠ a.due → a.takePart o p = { a with broken := true }) ∧
      (∀ h, a.header = some h → p.number = a.due → a.takePart o p =
        if p.number = h.units + 1 ∧ ∀ x ∈ l, x.unit ≤ h.units then { a with suspects := some l }
        else { a with broken := true })) := by
  refine ⟨fun hn => a.takePart_of_not_fits ?_, fun hb hc hn => ?_⟩
  · simp only [partFits, hp, decide_eq_false_iff_not]
    omega
  · have hfit : partFits o.units p = true := by
      simp only [partFits, hp, decide_eq_true_eq]
      omega
    refine ⟨fun hd => takePart_out_of_order hb hc hfit hd, fun h hh hd => ?_⟩
    rw [takePart_in_order hb hc hfit hd]
    unfold RecordAssembly.addPart
    rw [hp, hh]
    exact if_congr (by simp) rfl rfl

/-- R171, R183: a frame whose check and agreement are good has a station for its sender. -/
theorem goodFrame_sender {l : List Byte} {g : Nat × Nat × Nat × List Byte} (h : goodFrame l = some g) : 1 ≤ g.2.1 ∧ g.2.1 ≤ 8 := by
  unfold goodFrame at h
  split at h
  · split at h
    · next hc =>
      obtain ⟨-, -, -, -, h1, h8⟩ := hc
      obtain rfl := Option.some.inj h
      exact ⟨h1, h8⟩
    · simp at h
  · simp at h

/-- Settles O25: the part given to the assembly, the assembly case by case, and the bytes discarded. -/
theorem recordPartJoinsAssembly : Obligations.RecordPartJoinsAssembly := by
  refine ⟨fun s k p hk h0 => ⟨fun hb hst o ho hko a ha => ?_, fun hne => ?_⟩, fun a o p => ?_, fun s bytes => ⟨fun hg => ?_, ?_⟩⟩
  · rw [exec_recordFrame_eq p hk hb]
    have htake : (s.answer true).takeRecordPart k p =
        (s.answer true).setStageUnit fun g => { g with assembly := some (a.takePart o.offer p) } := by
      unfold State.takeRecordPart
      rw [show (s.answer true).stage = s.stage from rfl, ho, ha]
      exact if_pos ⟨hst, hko⟩
    rw [htake]
    rfl
  · by_cases hb : s.control.station = .boot
    · simp only [exec, execRecordFrame]
      rw [State.hear_boot hk hb]
      rfl
    · rw [exec_recordFrame_eq p hk hb]
      unfold State.takeRecordPart
      split
      · next o _ ho _ =>
        rw [if_neg]
        · rfl
        · rintro ⟨hst, hko⟩
          rcases hne with h | h | h
          · exact hb h
          · exact h (by simpa using hst)
          · exact h o (by simpa using ho) hko
      · rfl
  · exact ⟨RecordAssembly.takePart_of_closed o p, RecordAssembly.complete_iff a, RecordAssembly.due_of_none,
      fun h hh hs => RecordAssembly.due_of_open hh hs, RecordAssembly.takePart_header a o p, RecordAssembly.takePart_unit a o p,
      RecordAssembly.takePart_suspects a o p⟩
  · simp only [exec, execFrameDiscard]
    rw [hg]
    rfl
  · intro g hg sender target acked
    obtain ⟨h1, h8⟩ := goodFrame_sender hg
    have hexec : exec (.frameDiscard bytes) s = .next (s.hear sender target id) := by
      simp only [exec, execFrameDiscard]
      rw [hg]
    rw [hexec]
    unfold State.hear
    rw [if_neg (show ¬ (sender < 1 ∨ 8 < sender) by omega)]
    refine ⟨fun hne => ?_, fun hshape hown ht hb => ?_⟩
    · split
      · rfl
      · next htarget =>
        split
        · next hown =>
          have hb : s.control.station = .boot := by
            rcases hne with h | h | h
            · exact absurd hown h
            · exact absurd h htarget
            · exact h
          unfold State.duplicate
          rw [if_pos (show (s.answer true).control.station = .boot from hb)]
          rfl
        · rfl
    · rw [if_neg (by rintro ⟨h0, h⟩; exact ht.elim h0 h), if_pos hown]
      have hstops := State.duplicate_stops (s := s.answer true) hshape.alarms hb
      have hraised := hstops.raised
      dsimp only at hraised
      have hstate : ((s.answer true).duplicate.alarms.entry Source.duplicateStation).state ≠ .clear := by
        rw [hraised]
        split
        · simp
        · next h => exact h
      have hcondition : ((s.answer true).duplicate.alarms.entry Source.duplicateStation).condition = true ∧
          ((s.answer true).duplicate.alarms.entry Source.duplicateStation).detail = .station sender := by
        rw [hraised, hown]
        split <;> exact ⟨rfl, rfl⟩
      exact ⟨_, rfl, hstops.line.2, hstops.station, hstate, hcondition.1, hcondition.2, hstops.stage.1, hstops.stage.2.1,
        hstops.line.1⟩

end Sys2Proof.Machine
end


section
/-! PROOFS. A peer's PULL_RESULT: what it teaches the trims (R95 to R99), and where it is filed (R149). -/

namespace Sys2Proof.Machine

/-! ## Raises of a HOLD event (R21, R29) -/

/-- R29: the entry of an enabled event source after a raise. -/
theorem State.raiseAlarm_event {i : Nat} {s : State} (hv : isEvent i = true) (hd : s.alarms.disabled i = false)
    (hl : i < s.alarms.entries.length) (d : Detail) :
    ((s.raiseAlarm i d).alarms.entry i).state = .active ∧ ((s.raiseAlarm i d).alarms.entry i).detail = d := by
  rw [State.raiseAlarm_entry_self _ hl hd]
  simp [AlarmEntry.raised, hv]

/-- R21: a raise of a HOLD event asks for HELD. -/
theorem State.raiseAlarm_holds {i : Nat} (s : State) (hv : isEvent i = true) (hc : localClass i = .hold) (d : Detail) :
    (s.raiseAlarm i d).control.holdRequest = true := by
  rw [State.raiseAlarm_control, if_neg (by simp [AlarmUnit.disabled, hc])]
  simp [raiseHolds, hc, AlarmEntry.raised, hv]

/-- R21: no raise takes the hold request back. -/
theorem State.raiseAlarm_holdRequest {i : Nat} {s : State} (h : s.control.holdRequest = true) (d : Detail) :
    (s.raiseAlarm i d).control.holdRequest = true := by
  rw [State.raiseAlarm_control]
  split <;> simp [h]

/-! ## What the two blocks that hear a result leave of the alarm table -/

theorem State.updateTrims_entry_ne {j : Nat} (r : PullResult) (s : State) (h : Source.trimLimit ≠ j) :
    (s.updateTrims r).alarms.entry j = s.alarms.entry j := by
  unfold State.updateTrims
  dsimp only
  split
  · rw [State.raiseAlarm_entry_ne _ _ h]
    split <;> rfl
  · split <;> rfl

theorem State.learnResult_entry_ne {j : Nat} (r : PullResult) (s : State) (h1 : Source.trimLimit ≠ j) (h2 : Source.processDrift ≠ j) :
    (s.learnResult r).alarms.entry j = s.alarms.entry j := by
  unfold State.learnResult
  dsimp only
  split
  · split
    · rw [State.raiseAlarm_entry_ne _ _ h2, State.updateTrims_entry_ne _ _ h1]
    · exact State.updateTrims_entry_ne _ _ h1
  · rfl

theorem State.fileResult_entry_ne {j : Nat} (r : PullResult) (s : State) (h : Source.reportLoss ≠ j) :
    (s.fileResult r).alarms.entry j = s.alarms.entry j := by
  rcases s.fileResult_cases r with ⟨-, he⟩ | ⟨-, he⟩ | ⟨-, -, he⟩ | ⟨-, -, he⟩ <;> rw [he]
  exact State.raiseAlarm_entry_ne _ _ h

@[simp] theorem State.fileResult_control (r : PullResult) (s : State) : (s.fileResult r).control = s.control := by
  rcases s.fileResult_cases r with ⟨-, he⟩ | ⟨-, he⟩ | ⟨-, -, he⟩ | ⟨-, -, he⟩ <;> rw [he]
  exact State.raiseAlarm_control_of_not_hold _ _ (by decide)

theorem exec_pullResultFrame_eq {s : State} {k : Nat} (r : PullResult) (hk : s.IsPeer k) :
    exec (.pullResultFrame k r) s = .next (((s.answer true).learnResult r).fileResult r) := by
  simp only [exec, execPullResultFrame]
  rw [State.hear_peer hk]

/-! ## Filing (R149) -/

theorem State.fileResult_of_skip {r : PullResult} {s : State}
    (h : s.straps.outfeed = false ∨ s.control.station = .boot ∨ r.lineSeq = 0) : s.fileResult r = s := by
  unfold State.fileResult
  rw [if_pos h]

/-- Settles O27, by the cases of a filing. -/
theorem resultsAreFiled : Obligations.ResultsAreFiled := by
  intro s k r hshape hk
  obtain ⟨u, hu⟩ : ∃ u, u = (s.answer true).learnResult r := ⟨_, rfl⟩
  have hreport : u.report = s.report := by simp [hu]
  have hstraps : u.straps = s.straps := by simp [hu]
  have hstation : u.control.station = s.control.station := by simp [hu]
  have hentry : u.alarms.entry Source.reportLoss = s.alarms.entry Source.reportLoss := by
    rw [hu, State.learnResult_entry_ne _ _ (by decide) (by decide)]
    rfl
  have hlen : u.alarms.entries.length = 40 := by
    rw [hu]
    simpa using hshape.alarms
  refine ⟨u.fileResult r, by rw [exec_pullResultFrame_eq r hk, hu], fun hne => ?_, fun hout hb hq => ?_⟩
  · rw [State.fileResult_of_skip (by rwa [hstraps, hstation]), hreport]
  · have hfile : ¬ (u.straps.outfeed = false ∨ u.control.station = .boot ∨ r.lineSeq = 0) := by
      rw [hstraps, hstation]
      simp [hout, hb, hq]
    refine ⟨fun pre e post htable heq hpre => ?_, fun hnone => ?_⟩
    · rcases u.fileResult_cases r with ⟨h, -⟩ | ⟨-, he⟩ | ⟨hn, -⟩ | ⟨hn, -⟩
      · exact absurd h hfile
      · rw [he, hreport, htable, fileInto_split r pre post e hpre heq]
        exact ⟨fun h => by rw [if_pos h], fun h => by rw [if_neg (by omega)]⟩
      · exact absurd heq (hn e (by rw [hreport, htable]; simp))
      · exact absurd heq (hn e (by rw [hreport, htable]; simp))
    · rw [← hreport] at hnone
      refine ⟨fun hroom => ?_, fun hfull => ?_⟩
      · rcases u.fileResult_cases r with ⟨h, -⟩ | ⟨⟨e, he, heq⟩, -⟩ | ⟨-, -, he⟩ | ⟨-, hl, -⟩
        · exact absurd h hfile
        · exact absurd heq (hnone e he)
        · rw [he, hreport]
        · rw [hreport] at hl
          omega
      · rcases u.fileResult_cases r with ⟨h, -⟩ | ⟨⟨e, he, heq⟩, -⟩ | ⟨-, hl, -⟩ | ⟨-, -, he⟩
        · exact absurd h hfile
        · exact absurd heq (hnone e he)
        · rw [hreport] at hl
          omega
        · rw [he]
          refine ⟨by simp [hreport], fun hlevel => ?_⟩
          have hd : u.alarms.disabled Source.reportLoss = false := by
            unfold AlarmUnit.disabled
            rw [hentry]
            simp [hlevel]
          exact State.raiseAlarm_event (s := { u with report := { u.report with lost := bump 255 u.report.lost } }) (by decide) hd
            (show Source.reportLoss < u.alarms.entries.length by rw [hlen]; decide) _

/-! ## What a result teaches (R95 to R99) -/

/-- R98: a change of a trim within its limits, upward, downward and none. -/
theorem moveTrim_up {e : Int} (h : -20 ≤ e) : moveTrim 2 e = min 20 (e + 2) := by
  unfold moveTrim Config.trimLimit
  omega

theorem moveTrim_down {e : Int} (h : e ≤ 20) : moveTrim (-1) e = max (-20) (e - 1) := by
  unfold moveTrim Config.trimLimit
  omega

theorem moveTrim_zero {e : Int} (h : -20 ≤ e) (h' : e ≤ 20) : moveTrim 0 e = e := by
  unfold moveTrim Config.trimLimit
  omega

theorem beyondLimit_iff {d t : Int} : beyondLimit d t = true ↔ 20 < t + d ∨ t + d < -20 := by
  exact decide_eq_true_iff

/-- R97: one step toward 0. -/
theorem decayTrim_eq (t : Int) : decayTrim t = t - Int.sign t := by
  unfold decayTrim
  rcases lt_trichotomy t 0 with h | h | h
  · rw [if_neg (by omega), if_pos h, Int.sign_eq_neg_one_of_neg h]
    omega
  · subst h
    rfl
  · rw [if_pos h, Int.sign_eq_one_of_pos h]

/-- R97: what a good result teaches. -/
theorem TrimEntry.taught_good {o : PullOutcome} (h : o = .held ∨ o = .pass) (b : BreakCode) (e : TrimEntry) :
    e.taught o b = if e.goodRun < 7 then { e with goodRun := e.goodRun + 1 }
      else ⟨e.first - Int.sign e.first, e.second - Int.sign e.second, 0⟩ := by
  unfold TrimEntry.taught
  rw [if_neg (by rcases h with rfl | rfl <;> simp), if_pos (by simp [isGoodResult, h]), decayTrim_eq, decayTrim_eq]
  exact if_congr (by simp [Config.decayAt]; omega) rfl rfl

/-- R96, R98: what any other result but NO_HOOK teaches. -/
theorem TrimEntry.taught_bad {o : PullOutcome} (hn : o ≠ .noHook) (hh : o ≠ .held) (hp : o ≠ .pass) (b : BreakCode) (e : TrimEntry) :
    e.taught o b = ⟨moveTrim (trimDelta o b).1 e.first, moveTrim (trimDelta o b).2 e.second, 0⟩ := by
  unfold TrimEntry.taught
  rw [if_neg hn, if_neg (by simp [isGoodResult, hh, hp])]

/-- R84: reading a class after a result. -/
theorem State.learnResult_trimOf {r : PullResult} {s : State} (h : s.takesResult r = true) (hlen : s.energy.trims.length = 16) (c : Nat) :
    (s.learnResult r).energy.trimOf c =
      if c = r.bondClass then (s.energy.trimOf r.bondClass).taught r.outcome r.breakCode else s.energy.trimOf c := by
  have hc : r.bondClass ≤ 15 := by
    simp only [State.takesResult, Bool.and_eq_true, decide_eq_true_eq] at h
    exact h.1.2.2.1
  have htrims : (s.learnResult r).energy.trims = (s.updateTrims r).energy.trims := by
    unfold State.learnResult
    rw [if_pos h]
    dsimp only
    split <;> simp
  unfold EnergyUnit.trimOf
  rw [htrims, State.updateTrims_trims]
  simp only [List.getD_eq_getElem?_getD, List.getElem?_set]
  by_cases hcc : c = r.bondClass
  · subst hcc
    rw [if_pos rfl, if_pos rfl, if_pos (by omega)]
    rfl
  · rw [if_neg (Ne.symm hcc), if_neg hcc]

/-- R95: a result touches no bond in progress. -/
theorem State.learnResult_bond (r : PullResult) (s : State) : (s.learnResult r).energy.bond = s.energy.bond := by
  unfold State.learnResult State.updateTrims
  (repeat' (split <;> try dsimp only)) <;> simp

/-- R98: the trims' step of a result beyond the limits ends with the raise. -/
theorem State.updateTrims_limit {r : PullResult} {s : State}
    (hp : (s.energy.trimOf r.bondClass).limitPassed r.outcome r.breakCode = true) :
    ∃ v : State, v.alarms = s.alarms ∧ s.updateTrims r = v.raiseAlarm Source.trimLimit (.bondClass r.bondClass) := by
  unfold State.updateTrims
  dsimp only
  rw [if_pos hp]
  refine ⟨_, ?_, rfl⟩
  split <;> rfl

/-- R98: a result that carries a trim beyond its limits asks for HELD with the class. -/
theorem State.learnResult_limit {r : PullResult} {s : State} (h : s.takesResult r = true) (hlen : s.alarms.entries.length = 40)
    (hp : (s.energy.trimOf r.bondClass).limitPassed r.outcome r.breakCode = true) :
    ((s.learnResult r).alarms.entry Source.trimLimit).state = .active ∧
    ((s.learnResult r).alarms.entry Source.trimLimit).detail = .bondClass r.bondClass ∧
    (s.learnResult r).control.holdRequest = true := by
  obtain ⟨v, hv, he⟩ := State.updateTrims_limit hp
  have hevent := State.raiseAlarm_event (i := Source.trimLimit) (s := v) (by decide) (AlarmUnit.disabled_of_not_note (by decide) _)
    (by rw [hv, hlen]; decide) (.bondClass r.bondClass)
  have hhold := v.raiseAlarm_holds (i := Source.trimLimit) (by decide) (by decide) (.bondClass r.bondClass)
  unfold State.learnResult
  rw [if_pos h, he]
  dsimp only
  split
  · rw [State.raiseAlarm_entry_ne _ _ (by decide)]
    exact ⟨hevent.1, hevent.2, State.raiseAlarm_holdRequest hhold _⟩
  · exact ⟨hevent.1, hevent.2, hhold⟩

/-- R99: a confirm failure asks for HELD with the wire. -/
theorem State.learnResult_confirm {r : PullResult} {s : State} (h : s.takesResult r = true) (hlen : s.alarms.entries.length = 40)
    (hc : r.confirmFail = true) :
    ((s.learnResult r).alarms.entry Source.processDrift).state = .active ∧
    ((s.learnResult r).alarms.entry Source.processDrift).detail = .unitWire r.unit r.wire ∧
    (s.learnResult r).control.holdRequest = true := by
  unfold State.learnResult
  rw [if_pos h]
  dsimp only
  rw [if_pos hc]
  have hevent := State.raiseAlarm_event (i := Source.processDrift) (s := s.updateTrims r) (by decide)
    (AlarmUnit.disabled_of_not_note (by decide) _) (by simp only [State.updateTrims_calm, hlen]; decide) (.unitWire r.unit r.wire)
  exact ⟨hevent.1, hevent.2, State.raiseAlarm_holds _ (by decide) (by decide) _⟩

/-- Settles O26, outcome by outcome: the trims of the class, then the two raises. -/
theorem pullResultTeachesTrims : Obligations.PullResultTeachesTrims := by
  intro s k r hshape hinv hk hb hprog hrole hby hclass e o b up1 up2 down1 down2
  obtain ⟨u, hu⟩ : ∃ u, u = (s.answer true).learnResult r := ⟨_, rfl⟩
  have htakes : (s.answer true).takesResult r = true := by
    simp only [State.takesResult, Bool.and_eq_true, decide_eq_true_eq]
    exact ⟨⟨hrole, hby, hclass, hb⟩, hprog⟩
  have htrim (c : Nat) : (u.fileResult r).energy.trimOf c = if c = r.bondClass then e.taught o b else s.energy.trimOf c := by
    simp only [State.fileResult_frame]
    rw [hu, State.learnResult_trimOf htakes hshape.trims]
    rfl
  have hself : (u.fileResult r).energy.trimOf r.bondClass = e.taught o b := by rw [htrim, if_pos rfl]
  obtain ⟨hf, hf', hs, hs', -⟩ := hinv.trimOf_within r.bondClass
  have hlen : (s.answer true).alarms.entries.length = 40 := hshape.alarms
  have hentry (j : Nat) (h : Source.reportLoss ≠ j) : (u.fileResult r).alarms.entry j = u.alarms.entry j :=
    State.fileResult_entry_ne r u h
  have hup1 (h : up1) : trimDelta o b = (2, 0) ∧ o ≠ .noHook ∧ o ≠ .held ∧ o ≠ .pass := by
    rcases h with h | ⟨h, h'⟩
    · simp [h, trimDelta]
    · simp [h, h', trimDelta]
  have hup2 (h : up2) : trimDelta o b = (0, 2) ∧ o ≠ .noHook ∧ o ≠ .held ∧ o ≠ .pass := by
    rcases h with h | ⟨h, h'⟩
    · simp [h, trimDelta]
    · simp [h, h', trimDelta]
  have hdown1 (h : down1) : trimDelta o b = (-1, 0) ∧ o ≠ .noHook ∧ o ≠ .held ∧ o ≠ .pass := by
    obtain ⟨h | h, h'⟩ := h <;> simp [h, h', trimDelta]
  have hdown2 (h : down2) : trimDelta o b = (0, -1) ∧ o ≠ .noHook ∧ o ≠ .held ∧ o ≠ .pass := by
    obtain ⟨h | h, h'⟩ := h <;> simp [h, h', trimDelta]
  have hmove {d : Int × Int} (h : trimDelta o b = d ∧ o ≠ .noHook ∧ o ≠ .held ∧ o ≠ .pass) :
      (u.fileResult r).energy.trimOf r.bondClass = ⟨moveTrim d.1 e.first, moveTrim d.2 e.second, 0⟩ := by
    rw [hself, TrimEntry.taught_bad h.2.1 h.2.2.1 h.2.2.2, h.1]
  have hlimit {d : Int × Int} (h : trimDelta o b = d) (hp : (beyondLimit d.1 e.first || beyondLimit d.2 e.second) = true) :
      ((u.fileResult r).alarms.entry Source.trimLimit).state = .active ∧
      ((u.fileResult r).alarms.entry Source.trimLimit).detail = .bondClass r.bondClass ∧
      (u.fileResult r).control.holdRequest = true := by
    rw [hentry _ (by decide), State.fileResult_control, hu]
    refine State.learnResult_limit htakes hlen ?_
    show (beyondLimit (trimDelta o b).1 e.first || beyondLimit (trimDelta o b).2 e.second) = true
    rw [h]
    exact hp
  refine ⟨u.fileResult r, by rw [exec_pullResultFrame_eq r hk, hu], fun c hc => by rw [htrim, if_neg hc], ?_, fun h => ?_, fun h => ?_,
    fun h => ?_, fun h => ?_, fun h n1 n2 n3 n4 => ?_, fun h => ?_, fun h hg => ?_, fun h hg => ?_, fun h => ?_, fun h => ?_⟩
  · simp only [State.fileResult_frame]
    rw [hu, State.learnResult_bond]
    rfl
  · rw [hmove (hup1 h), moveTrim_up hf, moveTrim_zero hs hs']
  · rw [hmove (hup2 h), moveTrim_up hs, moveTrim_zero hf hf']
  · rw [hmove (hdown1 h), moveTrim_down hf', moveTrim_zero hs hs']
  · rw [hmove (hdown2 h), moveTrim_down hs', moveTrim_zero hf hf']
  · have hd : trimDelta o b = (0, 0) ∧ o ≠ .noHook ∧ o ≠ .held ∧ o ≠ .pass := by
      generalize hb : b = c at *
      rcases h with h | h <;> cases c <;> simp_all [trimDelta, up1, up2, down1, down2]
    rw [hmove hd, moveTrim_zero hf hf', moveTrim_zero hs hs']
  · rw [hself]
    unfold TrimEntry.taught
    rw [if_pos h]
  · rw [hself, TrimEntry.taught_good h, if_pos hg]
  · rw [hself, TrimEntry.taught_good h, if_neg (by omega)]
  · rcases h with ⟨h, hx⟩ | ⟨h, hx⟩ | ⟨h, hx⟩ | ⟨h, hx⟩
    · exact hlimit (hup1 h).1 (Bool.or_eq_true _ _ ▸ .inl (beyondLimit_iff.2 (.inl (by omega))))
    · exact hlimit (hup2 h).1 (Bool.or_eq_true _ _ ▸ .inr (beyondLimit_iff.2 (.inl (by omega))))
    · exact hlimit (hdown1 h).1 (Bool.or_eq_true _ _ ▸ .inl (beyondLimit_iff.2 (.inr (by omega))))
    · exact hlimit (hdown2 h).1 (Bool.or_eq_true _ _ ▸ .inr (beyondLimit_iff.2 (.inr (by omega))))
  · rw [hentry _ (by decide), State.fileResult_control, hu]
    exact State.learnResult_confirm htakes hlen h

end Sys2Proof.Machine
end


section
/-! PROOFS. Sending on the line bus (R171 to R174), the end of a sending (R48, R173), and the roll-call timer (R179). -/

namespace Sys2Proof.Machine

/-! ## The frame selected (R171, R172) -/

theorem TxBody.kindCode_lt (b : TxBody) : b.kindCode < 16 := by cases b <;> simp [TxBody.kindCode]

theorem TxBody.rank_lt {a b : TxBody}
    (h : a.frameClass < b.frameClass ∨ (a.frameClass = b.frameClass ∧ a.kindCode < b.kindCode)) : a.rank < b.rank := by
  have ha := a.kindCode_lt
  have hb := b.kindCode_lt
  unfold TxBody.rank
  omega

theorem TxBody.rank_le {a b : TxBody}
    (h : a.frameClass < b.frameClass ∨ (a.frameClass = b.frameClass ∧ a.kindCode ≤ b.kindCode)) : a.rank ≤ b.rank := by
  have ha := a.kindCode_lt
  have hb := b.kindCode_lt
  unfold TxBody.rank
  omega

theorem LineUnit.sending_eq_false {l : LineUnit} (h : ∀ x ∈ l.queue, x.onLine = none) : l.sending = false := by
  unfold LineUnit.sending
  rw [List.any_eq_false]
  intro x hx
  simp [h x hx]

/-- R172: the contest's loser no longer stands on the line, the others never did. -/
theorem map_offLine {q : List TxEntry} (h : ∀ x ∈ q, x.onLine = none) : q.map (fun e => { e with onLine := none }) = q := by
  refine (List.map_congr_left fun x hx => ?_).trans (List.map_id q)
  show ({ x with onLine := none } : TxEntry) = x
  rw [← h x hx]

theorem LineUnit.bulkRoom_iff {l : LineUnit} : l.bulkRoom = true ↔ l.bulkCount < 8 ∧ l.queue.length < 16 :=
  decide_eq_true_iff

/-- R174, R131: a frame that joins late. -/
theorem exec_waitingFrameJoins_eq {s : State} {e : TxEntry} {rest : List TxEntry} (h : s.line.waiting = e :: rest) :
    exec .waitingFrameJoins s = .next (if s.line.bulkRoom then
      State.noteJoined e { s with line := { s.line with queue := s.line.queue ++ [e], waiting := rest } } else s) := by
  simp only [exec, execWaitingFrameJoins]
  rw [h]

/-- Settles O28, command by command. -/
theorem sendingTakesLowestClassFirst : Obligations.SendingTakesLowestClassFirst := by
  refine ⟨fun s pre post e hq hn hpre hpost => ⟨?_, fun h => by rw [h]; rfl, fun i c l n d h => by rw [h]; rfl⟩, fun s h => ?_,
    fun s pre post e hq hn => ?_, fun s e rest hw => ?_⟩
  · have hlow : lowestRank s.line.queue = some e.body.rank := by
      refine smallest_least _ _ (List.mem_map.2 ⟨e, by simp [hq], rfl⟩) fun x hx => ?_
      obtain ⟨y, hy, rfl⟩ := List.mem_map.1 hx
      rw [hq] at hy
      rcases List.mem_append.1 hy with hy | hy
      · exact (TxBody.rank_lt (hpre y hy)).le
      · rcases List.mem_cons.1 hy with rfl | hy
        · exact le_rfl
        · exact TxBody.rank_le (hpost y hy)
    simp only [exec, execFrameSendStart]
    rw [LineUnit.sending_eq_false hn, hlow]
    dsimp only [Bool.false_eq_true, if_false]
    have hskip : ∀ x ∈ pre, decide (x.body.rank = e.body.rank) = false := fun x hx => by
      have := TxBody.rank_lt (hpre x hx)
      simp only [decide_eq_false_iff_not]
      omega
    rw [hq, changeFirst_split _ _ pre post e hskip (by simp)]
    exact congrArg _ (if_neg (by simp))
  · simp only [exec, execFrameSendStart]
    rcases h with h | ⟨x, hx, hon⟩
    · rw [h]
      split <;> rfl
    · rw [if_pos (show s.line.sending = true from List.any_eq_true.2 ⟨x, hx, hon⟩)]
  · have hpre : ∀ x ∈ pre, x.onLine = none := fun x hx => hn x (by simp [hx])
    have hpost : ∀ x ∈ post, x.onLine = none := fun x hx => hn x (by simp [hx])
    simp only [exec, execArbitrationLost]
    rw [hq, filter_staysQueued_split e hn]
    refine ⟨fun h => ?_, fun hg ho => ?_⟩
    · rw [if_pos (by rcases h with h | h <;> simp [TxEntry.staysQueued, h])]
      simp only [List.map_append, List.map_cons, map_offLine hpre, map_offLine hpost]
    · rw [if_neg (by simp [TxEntry.staysQueued, hg, ho]), map_offLine hn]
  · rw [exec_waitingFrameJoins_eq hw]
    refine ⟨fun hb hq => ⟨fun hne => ?_, fun x hx => ⟨fun hout => ?_, fun hout hb' hseq htable => ?_⟩⟩, fun hfull => ?_⟩
    · rw [if_pos (LineUnit.bulkRoom_iff.2 ⟨hb, hq⟩)]
      unfold State.noteJoined
      split
      · next x hx => exact absurd hx (hne x)
      · rfl
    · rw [if_pos (LineUnit.bulkRoom_iff.2 ⟨hb, hq⟩)]
      unfold State.noteJoined
      rw [hx]
      dsimp only
      exact congrArg _ (State.fileResult_of_skip (.inl hout))
    · rw [if_pos (LineUnit.bulkRoom_iff.2 ⟨hb, hq⟩)]
      unfold State.noteJoined
      rw [hx]
      simp [State.fileResult, hout, hb', hseq, htable, Config.assemblyPlaces]
    · rw [if_neg (by rw [LineUnit.bulkRoom_iff]; omega)]

/-! ## The end of a sending (R48, R173) -/

@[simp] theorem LineUnit.afterAlarm_unheard (old new : AlarmUnit) (news : Option TxBody) (l : LineUnit) :
    (l.afterAlarm old new news).unheard = l.unheard := by
  unfold LineUnit.afterAlarm
  (repeat' (split <;> try dsimp only)) <;> simp

@[simp] theorem State.conditionGone_unheard (i : Nat) (s : State) : (s.conditionGone i).line.unheard = s.line.unheard := by
  unfold State.conditionGone State.putEntry
  (repeat' (split <;> try dsimp only)) <;> simp

@[simp] theorem State.raiseAlarm_unheard (i : Nat) (d : Detail) (s : State) : (s.raiseAlarm i d).line.unheard = s.line.unheard := by
  unfold State.raiseAlarm State.putEntry
  split <;> simp

/-- R29: an enabled condition source after a raise: its entry stands, its condition present with the detail. -/
theorem State.raiseAlarm_condition {i : Nat} {s : State} (hv : isEvent i = false) (hl : i < s.alarms.entries.length)
    (hd : s.alarms.disabled i = false) (d : Detail) :
    ((s.raiseAlarm i d).alarms.entry i).state ≠ .clear ∧ (s.raiseAlarm i d).conditionOf i = true ∧
    ((s.raiseAlarm i d).alarms.entry i).detail = d := by
  unfold State.conditionOf
  rw [State.raiseAlarm_entry_self _ hl hd, AlarmEntry.raised_of_condition hv]
  split
  · exact ⟨by simp, rfl, rfl⟩
  · next h => exact ⟨h, rfl, rfl⟩

/-- R173: the frame on the line leaves the queue. -/
theorem exec_frameSendEnd_eq {s : State} {pre post : List TxEntry} {e : TxEntry} (acked : Bool) (hq : s.line.queue = pre ++ e :: post)
    (hn : ∀ x ∈ pre ++ post, x.onLine = none) (ho : e.onLine.isSome = true) :
    exec (.frameSendEnd acked) s = .next
      ((if acked then State.heardBy { s with line := { s.line with queue := pre ++ post } }
        else State.unheardBy { s with line := { s.line with queue := pre ++ post } }).notePartLeft e) := by
  simp only [exec, execFrameSendEnd]
  rw [onLine_split hq hn ho]
  dsimp only
  rw [hq, dropFirst_split _ pre post e (fun x hx => by simp [hn x (by simp [hx])]) ho]

/-- R48: outside HANDING no frame is the handoff's last part. -/
theorem State.notePartLeft_of_not_handing {s : State} (h : s.stage.state ≠ .handing) (e : TxEntry) : s.notePartLeft e = s := by
  unfold State.notePartLeft State.isLastPart
  rw [if_neg]
  split
  · simp [h]
  · simp

/-- Settles O29, by the stage state and the acknowledgement. -/
theorem sendEndCountsUnheard : Obligations.SendEndCountsUnheard := by
  refine ⟨fun s pre post e hshape hq hn ho => ⟨fun hst => ⟨fun hc => ?_, fun hc => ?_, fun hu => ?_, fun hu hsole => ?_⟩,
    fun r p ms acked hst hr hp hnum htimer hpush hpusher => ?_⟩, fun s acked hn => ?_⟩
  · rw [exec_frameSendEnd_eq true hq hn ho, if_pos rfl, State.notePartLeft_of_not_handing (by simpa using hst)]
    unfold State.heardBy
    exact congrArg _ (if_neg (by simpa [State.conditionOf] using hc))
  · rw [exec_frameSendEnd_eq true hq hn ho, if_pos rfl, State.notePartLeft_of_not_handing (by simpa using hst)]
    have hheard : State.heardBy { s with line := { s.line with queue := pre ++ post } } =
        State.conditionGone Source.lineAlone { s with line := { s.line with queue := pre ++ post, unheard := 0 } } := by
      unfold State.heardBy
      exact if_pos hc
    rw [hheard]
    exact ⟨_, rfl, by simp, by simp, by apply State.ext <;> simp⟩
  · rw [exec_frameSendEnd_eq false hq hn ho, if_neg (by simp), State.notePartLeft_of_not_handing (by simpa using hst)]
    have hcount : ¬ (bump 255 s.line.unheard = 3 ∧ soleStation s.straps = false) := by
      rintro ⟨h3, hsole⟩
      rcases hu with h | h
      · unfold bump at h3
        split at h3 <;> omega
      · simp [h] at hsole
    unfold State.unheardBy
    exact congrArg _ (if_neg hcount)
  · rw [exec_frameSendEnd_eq false hq hn ho, if_neg (by simp), State.notePartLeft_of_not_handing (by simpa using hst)]
    have halone : State.unheardBy { s with line := { s.line with queue := pre ++ post } } =
        State.raiseAlarm Source.lineAlone .none { s with line := { s.line with queue := pre ++ post, unheard := 3 } } := by
      unfold State.unheardBy
      simp [hu, hsole, bump, Config.byteCap, Config.aloneAt]
    rw [halone]
    have hraise := State.raiseAlarm_condition (i := Source.lineAlone)
      (s := { s with line := { s.line with queue := pre ++ post, unheard := 3 } }) (by decide)
      (show Source.lineAlone < s.alarms.entries.length by rw [hshape.alarms]; decide) (AlarmUnit.disabled_of_not_note (by decide) _) .none
    exact ⟨_, rfl, by simp, hraise.1, hraise.2.1, by apply State.ext <;> simp⟩
  · have hlast (v : State) (hv : v.stage = s.stage) : (v.notePartLeft e).stage =
        { s.stage with lastPartLeft := true, push := .moving, pusher := .driving } := by
      have hpart : v.isLastPart e = true := by
        unfold State.isLastPart
        rw [hp, hv, hr]
        simp [hst, hnum]
      unfold State.notePartLeft State.tryPush
      rw [if_pos hpart]
      simp [hv, htimer, hst, hpush, hpusher]
    refine ⟨_, exec_frameSendEnd_eq acked hq hn ho, hlast _ ?_⟩
    split <;> simp
  · simp only [exec, execFrameSendEnd]
    have : s.line.onLine = none := by
      unfold LineUnit.onLine
      rw [List.find?_eq_none]
      intro x hx
      simp [hn x hx]
    rw [this]

end Sys2Proof.Machine
end


section
/-! PROOFS. The roster as the statements speak of it and as the model computes it (R104, R178 to R180): who shows what, where the line
ends, when roll call is complete, and which stations breach the layout. -/

namespace Sys2Proof.Machine

/-! ## The smallest of a list -/

theorem smallest_eq_none {l : List Nat} : smallest l = none ↔ l = [] := by
  cases l with
  | nil => simp [smallest]
  | cons x xs =>
    simp only [smallest]
    split <;> simp

theorem smallest_mem {l : List Nat} {k : Nat} (h : smallest l = some k) : k ∈ l ∧ ∀ x ∈ l, k ≤ x := by
  induction l generalizing k with
  | nil => simp [smallest] at h
  | cons x xs ih =>
    simp only [smallest] at h
    split at h
    · next hn =>
      obtain rfl := Option.some.inj h
      rw [smallest_eq_none.1 hn]
      simp
    · next y hy =>
      obtain rfl := Option.some.inj h
      obtain ⟨hmem, hle⟩ := ih hy
      refine ⟨?_, fun z hz => ?_⟩
      · rcases min_choice x y with h | h <;> rw [h] <;> simp [hmem]
      · rcases List.mem_cons.1 hz with rfl | hz
        · exact min_le_left _ _
        · exact (min_le_right _ _).trans (hle z hz)

theorem smallest_eq_some {l : List Nat} {k : Nat} : smallest l = some k ↔ k ∈ l ∧ ∀ x ∈ l, k ≤ x :=
  ⟨smallest_mem, fun ⟨hm, hl⟩ => smallest_least l k hm hl⟩

theorem mem_aboveSmallest {l : List Nat} {k : Nat} : k ∈ aboveSmallest l ↔ k ∈ l ∧ ∃ m ∈ l, m < k := by
  unfold aboveSmallest
  split
  · next m hm =>
    obtain ⟨hmem, hle⟩ := smallest_mem hm
    rw [List.mem_filter, decide_eq_true_iff]
    exact and_congr_right fun _ => ⟨fun h => ⟨m, hmem, h⟩, fun ⟨x, hx, hlt⟩ => (hle x hx).trans_lt hlt⟩
  · next hn =>
    rw [smallest_eq_none.1 hn]
    simp

/-! ## Who shows what (R178) -/

theorem State.mem_presentWith {s : State} {f : Nat → PeerIdentity → Bool} {k : Nat} :
    k ∈ s.presentWith f ↔ k ∈ stationNumbers ∧ s.Shows k fun i => f k i = true := by
  unfold State.presentWith State.Shows
  rw [List.mem_filter]
  refine and_congr_right fun _ => ?_
  cases (s.rosterEntry k).identity <;> simp

theorem State.presentWith_eq_nil {s : State} {f : Nat → PeerIdentity → Bool} :
    s.presentWith f = [] ↔ ∀ k ∈ stationNumbers, ¬ s.Shows k fun i => f k i = true := by
  rw [List.eq_nil_iff_forall_not_mem]
  refine forall_congr' fun k => ?_
  rw [State.mem_presentWith, not_and]

theorem State.present_iff {s : State} {k : Nat} : s.present k = true ↔ s.Shows k fun _ => True := by
  simp [State.present, State.Shows, Option.isSome_iff_exists]

/-! ## The line's end and a complete roll call (R179) -/

theorem State.outfeedStation_eq_some {s : State} {n : Nat} : s.outfeedStation = some n ↔ s.EndsAt n := by
  unfold State.outfeedStation State.EndsAt
  rw [smallest_eq_some]
  simp only [State.mem_presentWith]
  constructor
  · rintro ⟨⟨hn, hs⟩, hle⟩
    exact ⟨hn, hs, fun m hm hlt hsm => absurd (hle m ⟨hm, hsm⟩) (by omega)⟩
  · rintro ⟨hn, hs, hle⟩
    exact ⟨⟨hn, hs⟩, fun m ⟨hm, hsm⟩ => by by_contra hlt; exact hle m hm (by omega) hsm⟩

theorem State.completeTo_iff {s : State} {n : Nat} :
    s.CompleteTo n ↔ s.outfeedStation = some n ∧ s.rollCallComplete = true := by
  unfold State.CompleteTo
  rw [← State.outfeedStation_eq_some]
  refine and_congr_right fun hn => ?_
  unfold State.rollCallComplete
  rw [hn]
  simp only [List.all_eq_true, Bool.or_eq_true, decide_eq_true_eq, State.present_iff]
  refine forall₂_congr fun m _ => ?_
  rw [or_iff_not_imp_left, not_lt]

theorem State.rollCallComplete_iff {s : State} : s.rollCallComplete = true ↔ ∃ n, s.CompleteTo n := by
  constructor
  · intro h
    cases hn : s.outfeedStation with
    | none => simp [State.rollCallComplete, hn] at h
    | some n => exact ⟨n, State.completeTo_iff.2 ⟨hn, h⟩⟩
  · rintro ⟨n, hn⟩
    exact (State.completeTo_iff.1 hn).2

/-! ## Layout breaches (R104, R180) -/

theorem State.mem_mapBreaches {s : State} {n k : Nat} : k ∈ s.mapBreaches n ↔ k ∈ stationNumbers ∧ s.MapBreach n k := by
  unfold State.mapBreaches State.MapBreach
  cases hp : s.program? with
  | none => simp
  | some p =>
    simp only [List.mem_filter, Option.some.injEq, exists_eq_left']
    refine and_congr_right fun _ => ?_
    have hpull : ((s.rosterEntry (spareOf p k)).identity.map (·.role) = some .pull) ↔ s.Shows (spareOf p k) (·.role = .pull) :=
      Option.map_eq_some_iff
    simp only [State.mapBreach, segmentEmpty, Bool.and_eq_true, Bool.or_eq_true, Bool.not_eq_true', decide_eq_false_iff_not,
      decide_eq_true_eq, hpull, not_lt]

theorem State.mem_completeBreaches {s : State} {n k : Nat} (hn : n ∈ stationNumbers) :
    k ∈ s.completeBreaches n ↔ k ∈ stationNumbers ∧
      ((k = 1 ∧ ¬s.Shows 1 (·.infeed = true)) ∨
        (k = n ∧ ∀ m ∈ stationNumbers, m ≤ n → ¬s.Shows m (·.role = .head)) ∨ s.MapBreach n k) := by
  have hfirst : (s.presentWith fun k i => decide (k = 1) && i.infeed) = [] ↔ ¬s.Shows 1 (·.infeed = true) := by
    rw [State.presentWith_eq_nil]
    constructor
    · rintro h ⟨i, hi, hf⟩
      exact h 1 (by decide) ⟨i, hi, by simp [hf]⟩
    · rintro h m hm ⟨i, hi, hf⟩
      simp only [Bool.and_eq_true, decide_eq_true_eq] at hf
      obtain ⟨rfl, hf⟩ := hf
      exact h ⟨i, hi, hf⟩
  have hhead : (s.presentWith fun k i => decide (k ≤ n) && decide (i.role = .head)) = [] ↔
      ∀ m ∈ stationNumbers, m ≤ n → ¬s.Shows m (·.role = .head) := by
    rw [State.presentWith_eq_nil]
    refine forall₂_congr fun m _ => ?_
    constructor
    · rintro h hle ⟨i, hi, hr⟩
      exact h ⟨i, hi, by simp [hle, hr]⟩
    · rintro h ⟨i, hi, hf⟩
      simp only [Bool.and_eq_true, decide_eq_true_eq] at hf
      exact h hf.1 ⟨i, hi, hf.2⟩
  have hone {p : Prop} [Decidable p] {x : Nat} : k ∈ (if p then [x] else []) ↔ k = x ∧ p := by
    split <;> simp_all
  unfold State.completeBreaches
  rw [List.mem_append, List.mem_append, State.mem_mapBreaches, hone, hone, hfirst, hhead]
  have h1 : (1 : Nat) ∈ stationNumbers := by decide
  constructor
  · rintro ((⟨rfl, h⟩ | ⟨rfl, h⟩) | ⟨hk, h⟩)
    · exact ⟨h1, .inl ⟨rfl, h⟩⟩
    · exact ⟨hn, .inr (.inl ⟨rfl, h⟩)⟩
    · exact ⟨hk, .inr (.inr h)⟩
  · rintro ⟨hk, h | h | h⟩
    · exact .inl (.inl h)
    · exact .inl (.inr h)
    · exact .inr ⟨hk, h⟩

/-- R180: the stations found are those in breach. -/
theorem State.mem_layoutBreaches {s : State} {k : Nat} : k ∈ s.layoutBreaches ↔ s.LayoutBreach k := by
  have hinfeed : k ∈ (s.presentWith fun k i => i.infeed && decide (k ≠ 1)) ↔
      k ∈ stationNumbers ∧ s.Shows k (·.infeed = true) ∧ k ≠ 1 := by
    rw [State.mem_presentWith]
    refine and_congr_right fun _ => ?_
    unfold State.Shows
    simp only [Bool.and_eq_true, decide_eq_true_eq]
    exact ⟨fun ⟨i, hi, hf, hk⟩ => ⟨⟨i, hi, hf⟩, hk⟩, fun ⟨⟨i, hi, hf⟩, hk⟩ => ⟨i, hi, hf, hk⟩⟩
  have habove {f : PeerIdentity → Bool} : k ∈ aboveSmallest (s.presentWith fun _ i => f i) ↔
      k ∈ stationNumbers ∧ s.Shows k (f · = true) ∧ ∃ m ∈ stationNumbers, m < k ∧ s.Shows m (f · = true) := by
    rw [mem_aboveSmallest]
    simp only [State.mem_presentWith]
    exact ⟨fun ⟨⟨h1, h2⟩, m, ⟨h3, h4⟩, h5⟩ => ⟨h1, h2, m, h3, h5, h4⟩, fun ⟨h1, h2, m, h3, h5, h4⟩ => ⟨⟨h1, h2⟩, m, ⟨h3, h4⟩, h5⟩⟩
  have hpull : k ∈ aboveSmallest (s.presentWith fun _ i => decide (i.role = .pull)) ↔
      k ∈ stationNumbers ∧ s.Shows k (·.role = .pull) ∧ ∃ m ∈ stationNumbers, m < k ∧ s.Shows m (·.role = .pull) := by
    simpa only [decide_eq_true_eq] using habove (f := fun i => decide (i.role = .pull))
  have hbeyond : k ∈ (match s.outfeedStation with
      | some n => s.presentWith fun k _ => decide (n < k)
      | none => []) ↔ k ∈ stationNumbers ∧ (s.Shows k fun _ => True) ∧ ∃ n, s.EndsAt n ∧ n < k := by
    cases hn : s.outfeedStation with
    | none =>
      have hne : ∀ n, ¬s.EndsAt n := fun n h => by simp [State.outfeedStation_eq_some.2 h] at hn
      simp [hne]
    | some n =>
      have hends := State.outfeedStation_eq_some.1 hn
      dsimp only
      rw [State.mem_presentWith]
      refine and_congr_right fun _ => ?_
      constructor
      · rintro ⟨i, hi, hlt⟩
        exact ⟨⟨i, hi, trivial⟩, n, hends, by simpa using hlt⟩
      · rintro ⟨⟨i, hi, -⟩, m, hm, hlt⟩
        rw [State.outfeedStation_eq_some.2 hm] at hn
        obtain rfl := Option.some.inj hn
        exact ⟨i, hi, by simpa using hlt⟩
  have hwhole : k ∈ (match s.rollCallComplete, s.outfeedStation with
      | true, some n => s.completeBreaches n
      | _, _ => []) ↔ k ∈ stationNumbers ∧ ∃ n, s.CompleteTo n ∧
        ((k = 1 ∧ ¬s.Shows 1 (·.infeed = true)) ∨
          (k = n ∧ ∀ m ∈ stationNumbers, m ≤ n → ¬s.Shows m (·.role = .head)) ∨ s.MapBreach n k) := by
    simp only [State.completeTo_iff]
    cases hc : s.rollCallComplete with
    | false => simp
    | true =>
      cases hn : s.outfeedStation with
      | none => simp
      | some n =>
        dsimp only
        rw [State.mem_completeBreaches (State.outfeedStation_eq_some.1 hn).1]
        simp
  unfold State.layoutBreaches State.LayoutBreach
  dsimp only
  rw [List.mem_append, List.mem_append, List.mem_append, List.mem_append]
  refine (or_congr (or_congr (or_congr (or_congr hinfeed habove) hbeyond) hpull) hwhole).trans ?_
  constructor
  · rintro ((((⟨hk, h⟩ | ⟨hk, h⟩) | ⟨hk, h⟩) | ⟨hk, h⟩) | ⟨hk, h⟩)
    · exact ⟨hk, .inl h⟩
    · exact ⟨hk, .inr (.inl h)⟩
    · exact ⟨hk, .inr (.inr (.inl h))⟩
    · exact ⟨hk, .inr (.inr (.inr (.inl h)))⟩
    · exact ⟨hk, .inr (.inr (.inr (.inr h)))⟩
  · rintro ⟨hk, h | h | h | h | h⟩
    · exact .inl (.inl (.inl (.inl ⟨hk, h⟩)))
    · exact .inl (.inl (.inl (.inr ⟨hk, h⟩)))
    · exact .inl (.inl (.inr ⟨hk, h⟩))
    · exact .inl (.inr ⟨hk, h⟩)
    · exact .inr ⟨hk, h⟩

end Sys2Proof.Machine
end


section
/-! PROOFS. Roll call (R178 to R180): what a judgement of the roster leaves of its three entries, the timer's expiry, and what follows a
peer's PRESENT frame and a frame under this station's own number. -/

namespace Sys2Proof.Machine

/-! ## The roll-call timer's expiry (R179) -/

theorem State.raiseAlarm_rollCallTimer (i : Nat) (d : Detail) (s : State) :
    (s.raiseAlarm i d).line.rollCallTimer = s.line.rollCallTimer := by
  unfold State.raiseAlarm State.putEntry
  split <;> simp

theorem Settles.sameLine {s t : State} (h : Settles s t) : SameLine s t := ⟨h.straps, h.loader, h.line.roster⟩

theorem SameLine.present {s t : State} (h : SameLine s t) (k : Nat) : t.present k = s.present k := by
  unfold State.present
  rw [h.identity]

/-- R179: the lowest absent station. -/
theorem State.lowestAbsent_eq {s : State} {k : Nat} (h1 : 1 ≤ k) (h8 : k ≤ 8) (ha : s.present k = false)
    (hlow : ∀ j, 1 ≤ j → j < k → s.present j = true) : s.lowestAbsent = k := by
  unfold State.lowestAbsent stationNumbers
  interval_cases k <;> simp [ha, hlow]

/-- R179: a PRESENT frame asked for with room stands in the queue. -/
theorem State.sendPresent_holds {s : State} (hid : s.programId?.isSome = true) (hq : s.line.queue.length < 16) :
    ∃ e ∈ s.sendPresent.line.queue, ∃ q, e.body = .present q ∧ q.station = s.straps.station := by
  obtain ⟨id, hid⟩ := Option.isSome_iff_exists.1 hid
  unfold State.sendPresent
  rw [hid]
  obtain ⟨e, he, hb⟩ := LineUnit.request_holds 0
    (body := .present ⟨s.straps.station, s.straps.role, s.straps.infeed, s.straps.outfeed, id, s.knownSet⟩) (l := s.line)
    (by simp [TxBody.frameClass]) hq
  exact ⟨e, he, _, hb, rfl⟩

/-- Settles O30, by the timer and by whether ROSTER_GAP is present. -/
theorem rollCallTimerAsksAgain : Obligations.RollCallTimerAsksAgain := by
  intro s hshape
  refine ⟨fun ms htimer hst hinc => ?_, fun h => ?_⟩
  · obtain ⟨u, hu⟩ : ∃ u : State, u = { s.sendPresent with
        line := { s.sendPresent.line with rollCallTimer := .running 2000 } } := ⟨_, rfl⟩
    have hexec : exec .rollCallTimerExpiry s = .next (if u.conditionOf Source.rosterGap then u
        else u.raiseAlarm Source.rosterGap (.station u.lowestAbsent)) := by
      simp only [exec, execRollCallTimerExpiry]
      rw [htimer]
      exact congrArg _ ((if_pos ⟨hst, hinc⟩).trans (by rw [hu]; rfl))
    have hsettles : Settles s u := by
      rw [hu]
      exact (Settles.sendPresent s).trans (.rollCallTimer _ _)
    have halarms : u.alarms = s.alarms := by simp [hu]
    have hcontrol : u.control = s.control := by simp [hu]
    have hpresent (hid : s.programId?.isSome = true) (hq : s.line.queue.length < 16) :
        ∃ e ∈ u.line.queue, ∃ q, e.body = .present q ∧ q.station = s.straps.station := by
      rw [hu]
      exact State.sendPresent_holds hid hq
    refine ⟨_, hexec, ?_⟩
    by_cases hgap : s.conditionOf Source.rosterGap = true
    · rw [if_pos (by rw [State.conditionOf, halarms]; exact hgap)]
      exact ⟨by rw [hu], by rw [hcontrol, hst], by rw [State.conditionOf, halarms]; exact hgap, fun _ => halarms,
        fun h => by simp [hgap] at h, hpresent⟩
    · have hraise := State.raiseAlarm_condition (i := Source.rosterGap) (s := u) (by decide)
        (by rw [halarms, hshape.alarms]; decide) (AlarmUnit.disabled_of_not_note (by decide) _) (.station u.lowestAbsent)
      rw [if_neg (by rw [State.conditionOf, halarms]; exact hgap)]
      refine ⟨by rw [State.raiseAlarm_rollCallTimer, hu], by simp [hcontrol, hst], hraise.2.1, fun h => absurd h hgap,
        fun _ => ⟨hraise.1, fun k h1 h8 ha hlow => ?_⟩, fun hid hq => ?_⟩
      · rw [hraise.2.2, State.lowestAbsent_eq h1 h8 (by rw [hsettles.sameLine.present]; exact ha)
          fun j hj hjk => by rw [hsettles.sameLine.present]; exact hlow j hj hjk]
      · obtain ⟨e, he, q, hb, hq⟩ := hpresent hid hq
        exact ⟨e, (u.raiseAlarm_asked _ _).firm e he (by rw [hb]; rfl), q, hb, hq⟩
  · simp only [exec, execRollCallTimerExpiry]
    split
    · next ms htimer =>
      rcases h with h | h | h
      · simp [h] at htimer
      · simp [h] at htimer
      · rw [if_neg (fun c => h c.1)]
    · rfl

/-! ## A frame under this station's own number (R171) -/

theorem State.hear_self {s : State} {target : Nat} (h1 : 1 ≤ s.straps.station) (h8 : s.straps.station ≤ 8)
    (ht : target = 0 ∨ target = s.straps.station) (handle : State → State) :
    s.hear s.straps.station target handle = (s.answer true).duplicate := by
  unfold State.hear
  rw [if_neg (by omega), if_neg (by omega), if_pos rfl]

/-- R171: every kind of frame under the station's own number is a duplicate. -/
theorem exec_own_frame {s : State} {c : Instr} (h1 : 1 ≤ s.straps.station) (h8 : s.straps.station ≤ 8)
    (hc : let k := s.straps.station
      c = .stopFrame k ∨ c = .restartFrame k ∨ (∃ p, c = .presentFrame k p) ∨ (∃ p, c = .alarmFrame k p) ∨
        (∃ p, c = .stateFrame k p) ∨ c = .lineStartFrame k ∨ (∃ r, c = .pullResultFrame k r) ∨
        (∃ p, c = .offerFrame k k p) ∨ (∃ p, c = .takeFrame k k p) ∨ (∃ p, c = .refuseFrame k k p) ∨
        (∃ p, c = .arrivedFrame k k p) ∨ (∃ p, c = .recordFrame k k p)) :
    exec c s = .next (s.answer true).duplicate := by
  have hb (handle : State → State) := State.hear_self h1 h8 (.inl rfl) handle
  have ha (handle : State → State) := State.hear_self h1 h8 (.inr rfl) handle
  rcases hc with rfl | rfl | ⟨p, rfl⟩ | ⟨p, rfl⟩ | ⟨p, rfl⟩ | rfl | ⟨r, rfl⟩ | ⟨p, rfl⟩ | ⟨p, rfl⟩ | ⟨p, rfl⟩ | ⟨p, rfl⟩ | ⟨p, rfl⟩
  · exact congrArg _ (hb _)
  · exact congrArg _ (hb _)
  · exact congrArg _ (hb _)
  · exact congrArg _ (hb _)
  · exact congrArg _ (hb _)
  · exact congrArg _ (hb _)
  · exact congrArg _ (hb _)
  · exact congrArg _ (ha _)
  · exact congrArg _ (ha _)
  · exact congrArg _ (ha _)
  · exact congrArg _ (ha _)
  · exact congrArg _ (ha _)

/-! ## A judgement of the roster (R180) -/

/-- R180: an entry as a judgement with finding `x` leaves it. -/
structure AlarmEntry.Finds (e : AlarmEntry) (x : Option Nat) : Prop where
  found : ∀ k, x = some k → e.state ≠ .clear ∧ e.condition = true ∧ e.detail = .station k
  absent : x = none → e.condition = false

theorem State.judgeFinding_finds {i : Nat} {s : State} (hv : isEvent i = false) (hc : localClass i = .stop)
    (hl : i < s.alarms.entries.length) (x : Option Nat) : ((s.judgeFinding i x).alarms.entry i).Finds x := by
  unfold State.judgeFinding
  cases x with
  | none => exact ⟨by simp, fun _ => by simpa [State.conditionOf] using s.conditionGone_condition i⟩
  | some k =>
    have h := State.raiseAlarm_condition hv hl (AlarmUnit.disabled_of_stop _ hc) (.station k)
    refine ⟨fun m hm => ?_, by simp⟩
    obtain rfl := Option.some.inj hm
    exact h

theorem State.judgeFinding_entry_ne {i j : Nat} (x : Option Nat) (s : State) (h : i ≠ j) :
    (s.judgeFinding i x).alarms.entry j = s.alarms.entry j := by
  unfold State.judgeFinding
  split
  · exact State.raiseAlarm_entry_ne _ _ h
  · exact State.conditionGone_entry_ne _ h

/-- R179, R180: the three entries stand as the roster asks. -/
structure State.Judged (s : State) : Prop where
  mismatch : (s.alarms.entry Source.programMismatch).Finds s.mismatch
  layout : (s.alarms.entry Source.lineLayout).Finds (smallest s.layoutBreaches)
  gap : s.rollCallComplete = true → s.conditionOf Source.rosterGap = false

/-- What changes neither the roster nor the three entries keeps the judgement. -/
theorem State.Judged.of_same {s t : State} (h : s.Judged) (hl : SameLine s t)
    (he : ∀ j, j = Source.programMismatch ∨ j = Source.lineLayout ∨ j = Source.rosterGap → t.alarms.entry j = s.alarms.entry j) :
    t.Judged := by
  refine ⟨?_, ?_, fun hc => ?_⟩
  · rw [he _ (.inl rfl), hl.mismatch]
    exact h.mismatch
  · rw [he _ (.inr (.inl rfl)), hl.layoutBreaches]
    exact h.layout
  · rw [State.conditionOf, he _ (.inr (.inr rfl))]
    exact h.gap (hl.rollCallComplete ▸ hc)

/-- R180: a judgement outside BOOT. -/
theorem State.judgeRoster_judged {s : State} (hb : s.control.station ≠ .boot) (hl : s.alarms.entries.length = 40) :
    s.judgeRoster.Judged := by
  obtain ⟨u, hu⟩ : ∃ u, u = s.judgeFinding Source.programMismatch s.mismatch := ⟨_, rfl⟩
  obtain ⟨v, hv⟩ : ∃ v, v = u.judgeFinding Source.lineLayout (smallest u.layoutBreaches) := ⟨_, rfl⟩
  have hj : s.judgeRoster = v.judgeGap := by
    unfold State.judgeRoster
    rw [if_neg hb, hv, hu]
  have hsu : SameLine s u := by rw [hu]; exact (Settles.judgeFinding (by decide) _ s).sameLine
  have huv : SameLine u v := by rw [hv]; exact (Settles.judgeFinding (by decide) _ u).sameLine
  have hvt : SameLine v v.judgeGap := (Settles.judgeGap v).sameLine
  have hgap_ne {j : Nat} (h : Source.rosterGap ≠ j) : v.judgeGap.alarms.entry j = v.alarms.entry j := by
    unfold State.judgeGap
    split
    · exact State.conditionGone_entry_ne _ h
    · rfl
  have hlu : u.alarms.entries.length = 40 := by rw [hu]; simpa using hl
  rw [hj]
  refine ⟨?_, ?_, fun hc => ?_⟩
  · rw [hgap_ne (by decide), hv, State.judgeFinding_entry_ne _ _ (by decide), ← hv, (hsu.trans (huv.trans hvt)).mismatch, hu]
    exact State.judgeFinding_finds (by decide) (by decide) (by rw [hl]; decide) _
  · rw [hgap_ne (by decide), (huv.trans hvt).layoutBreaches, hv]
    exact State.judgeFinding_finds (by decide) (by decide) (by rw [hlu]; decide) _
  · rw [hvt.rollCallComplete] at hc
    unfold State.judgeGap
    rw [hc]
    split
    · simp
    · next h => simpa using h

/-! ### What keeps a judgement -/

theorem State.Judged.setStation {s : State} (h : s.Judged) (st : StationState) : (s.setStation st).Judged :=
  h.of_same (Settles.setStation st s).sameLine fun j _ => by simp

theorem State.Judged.tryReady {s : State} (h : s.Judged) : s.tryReady.Judged := by
  refine h.of_same (Settles.tryReady s).sameLine fun j _ => ?_
  unfold State.tryReady
  split <;> simp

theorem State.Judged.judgeCover {s : State} (h : s.Judged) : s.judgeCover.Judged := by
  refine h.of_same (Settles.judgeCover s).sameLine fun j hj => State.judgeCover_entry_ne s ?_
  rintro rfl
  rcases hj with h | h | h <;> exact absurd h (by decide)

theorem State.Judged.enterRollCall {s : State} (hl : s.alarms.entries.length = 40) : s.enterRollCall.Judged := by
  unfold State.enterRollCall
  refine State.Judged.tryReady (State.judgeRoster_judged ?_ ?_)
  · simp
  · simpa using hl

theorem State.enterStopped_entry_ne {j : Nat} (s : State) (h : Source.wireLow ≠ j) :
    s.enterStopped.alarms.entry j = s.alarms.entry j := by
  have hdebit (r : State) : r.debit.alarms.entry j = r.alarms.entry j := by
    unfold State.debit State.judgeStock
    (repeat' split)
    · exact State.raiseAlarm_entry_ne _ _ h
    · rfl
    · rfl
    · rfl
  have habort (r : State) : r.abortWire.alarms.entry j = r.alarms.entry j := by
    unfold State.abortWire
    dsimp only
    (repeat' split)
    · rw [hdebit]
      simp
    · rfl
    · rfl
  unfold State.enterStopped
  simp [habort]

theorem State.Judged.settle {s : State} (h : s.Judged) (hl : s.alarms.entries.length = 40) : s.settle.Judged := by
  have hstop {r : State} (hr : r.Judged) : r.settleStop.Judged := by
    unfold State.settleStop
    split
    · refine hr.of_same (Settles.enterStopped r).sameLine fun j hj => State.enterStopped_entry_ne r ?_
      rintro rfl
      rcases hj with h | h | h <;> exact absurd h (by decide)
    · exact hr
  unfold State.settle State.leaveStopped
  split
  · refine hstop ?_
    split
    · exact h.setStation _
    · split
      · exact h.setStation _
      · exact .enterRollCall hl
  · exact hstop h

/-! ### A judgement read by its stations -/

theorem AlarmEntry.Finds.of_smallest {e : AlarmEntry} {l : List Nat} (h : e.Finds (smallest l)) :
    (∀ j ∈ l, e.state ≠ .clear ∧ e.condition = true ∧ ((∀ m, m < j → m ∉ l) → e.detail = .station j)) ∧
    (l = [] → e.condition = false) := by
  refine ⟨fun j hj => ?_, fun hl => h.absent (by rw [hl]; rfl)⟩
  cases hs : smallest l with
  | none => simp [smallest_eq_none.1 hs] at hj
  | some k =>
    obtain ⟨h1, h2, h3⟩ := h.found k hs
    obtain ⟨hk, hle⟩ := smallest_mem hs
    refine ⟨h1, h2, fun hlow => ?_⟩
    have hjk : j = k := by
      have := hle j hj
      by_contra hne
      exact hlow k (by omega) hk
    rw [h3, hjk]

/-! ### The timer -/

theorem State.judgeRoster_rollCallTimer (s : State) : s.judgeRoster.line.rollCallTimer = s.line.rollCallTimer := by
  have hfind (i : Nat) (x : Option Nat) (r : State) : (r.judgeFinding i x).line.rollCallTimer = r.line.rollCallTimer := by
    unfold State.judgeFinding
    split
    · exact State.raiseAlarm_rollCallTimer _ _ _
    · simp
  unfold State.judgeRoster State.judgeGap
  split
  · rfl
  · dsimp only
    split <;> simp [hfind]

theorem State.judgeCover_rollCallTimer (s : State) : s.judgeCover.line.rollCallTimer = s.line.rollCallTimer := by
  unfold State.judgeCover State.endCoverWait
  (repeat' split) <;> simp

theorem State.answerPresent_rollCallTimer (b : Bool) (known : List Nat) (s : State) :
    (s.answerPresent b known).line.rollCallTimer = s.line.rollCallTimer := by
  unfold State.answerPresent State.sendSummary State.sendPresent
  (repeat' (split <;> try dsimp only)) <;> simp

/-- R179: entering STOPPED from ROLLCALL stops the timer. -/
theorem State.enterStopped_rollCallTimer {s : State} (h : s.control.station = .rollcall) :
    s.enterStopped.line.rollCallTimer = .stopped := by
  have hdebit (r : State) : r.debit.line.rollCallTimer = r.line.rollCallTimer := by
    unfold State.debit State.judgeStock
    (repeat' split)
    · exact State.raiseAlarm_rollCallTimer _ _ _
    · rfl
    · rfl
    · rfl
  have habort (r : State) : r.abortWire.line.rollCallTimer = r.line.rollCallTimer := by
    unfold State.abortWire
    (repeat' (split <;> try dsimp only)) <;> simp [hdebit]
  have hset (st : StationState) (r : State) : (r.setStation st).line.rollCallTimer = r.line.rollCallTimer := by
    unfold State.setStation
    split <;> simp
  have hroll : s.stopRollCall.line.rollCallTimer = .stopped := by
    unfold State.stopRollCall
    rw [if_pos h]
  unfold State.enterStopped
  rw [hset]
  simp [habort, hroll]

theorem State.settle_ne_boot {s : State} (h : s.control.station ≠ .boot) : s.settle.control.station ≠ .boot := by
  have hstop {r : State} (hr : r.control.station ≠ .boot) : r.settleStop.control.station ≠ .boot := by
    unfold State.settleStop
    split
    · simp
    · exact hr
  unfold State.settle
  split
  · exact hstop s.leaveStopped_station.2
  · exact hstop h

/-! ### What a changed roster brings in ROLLCALL -/

/-- R20, R179: of a station in ROLLCALL, what hearing of the roster makes of it. -/
theorem State.rosterHeard_of_rollcall {s : State} (k : Nat) (h : s.control.station = .rollcall) :
    (s.judgeRoster.alarms.stopStands = true → (s.rosterHeard k).alarms.stopStands = true ∧
      (s.rosterHeard k).line.rollCallTimer = .stopped) ∧
    (s.judgeRoster.alarms.stopStands = false → (s.rosterHeard k).alarms.stopStands = false ∧
      (s.rollCallComplete = true →
        (s.rosterHeard k).control.station = .ready ∧ (s.rosterHeard k).line.rollCallTimer = .stopped) ∧
      (s.rollCallComplete = false →
        (s.rosterHeard k).control.station = .rollcall ∧ (s.rosterHeard k).line.rollCallTimer = s.line.rollCallTimer)) := by
  obtain ⟨w, hw⟩ : ∃ w, w = s.judgeRoster := ⟨_, rfl⟩
  obtain ⟨y, hy⟩ : ∃ y, y = if w.tryReady.ownSpare = k then w.tryReady.judgeCover else w.tryReady := ⟨_, rfl⟩
  have hheard : s.rosterHeard k = y.settle := by rw [hy, hw]; rfl
  have hstation : w.control.station = .rollcall := by rw [hw]; simpa using h
  have htimer : w.line.rollCallTimer = s.line.rollCallTimer := by rw [hw]; exact s.judgeRoster_rollCallTimer
  have hcomplete : w.rollCallComplete = s.rollCallComplete := by rw [hw]; exact (Settles.judgeRoster s).sameLine.rollCallComplete
  have hcontrol : y.control = w.tryReady.control := by
    rw [hy]
    split
    · unfold State.judgeCover State.endCoverWait
      (repeat' split) <;> simp
    · rfl
  have hline : y.line.rollCallTimer = w.tryReady.line.rollCallTimer := by
    rw [hy]
    split
    · exact State.judgeCover_rollCallTimer _
    · rfl
  have hstands : y.alarms.stopStands = w.alarms.stopStands := by
    rw [hy]
    split <;> simp
  rw [hheard, ← hw]
  refine ⟨fun hs => ?_, fun hs => ?_⟩
  · have hready : w.tryReady = w := by
      unfold State.tryReady
      rw [if_neg (by simp [hs])]
    have henter : y.settle = y.enterStopped :=
      State.settle_enters (by rw [hcontrol, hready, hstation]; simp) (by rw [hcontrol, hready, hstation]; simp) (by rwa [hstands])
    rw [henter]
    refine ⟨by simpa using hstands.trans hs, State.enterStopped_rollCallTimer ?_⟩
    rw [hcontrol, hready, hstation]
  · by_cases hc : s.rollCallComplete = true
    · have hready : w.tryReady = State.setStation .ready { w with line := { w.line with rollCallTimer := .stopped } } := by
        unfold State.tryReady
        rw [if_pos ⟨hstation, hcomplete.trans hc, hs⟩]
      have hsettle : y.settle = y := by
        refine State.settle_of_none ?_ (by rwa [hstands])
        rw [hcontrol, hready]
        simp
      rw [hsettle]
      refine ⟨by rwa [hstands], fun _ => ⟨?_, ?_⟩, fun hn => by simp [hc] at hn⟩
      · rw [hcontrol, hready]
        simp
      · rw [hline, hready]
        unfold State.setStation
        split <;> simp
    · have hready : w.tryReady = w := by
        unfold State.tryReady
        rw [if_neg (by simp [hcomplete, hc])]
      have hsettle : y.settle = y := by
        refine State.settle_of_none ?_ (by rwa [hstands])
        rw [hcontrol, hready, hstation]
        simp
      rw [hsettle]
      refine ⟨by rwa [hstands], fun h => absurd h hc, fun _ => ⟨?_, ?_⟩⟩
      · rw [hcontrol, hready, hstation]
      · rw [hline, hready, htimer]

/-- R180: after a peer's roster entry was heard of, the three entries stand as the roster asks. -/
theorem State.rosterHeard_judged {s : State} (k : Nat) (hb : s.control.station ≠ .boot) (hl : s.alarms.entries.length = 40) :
    (s.rosterHeard k).Judged := by
  have hready : s.judgeRoster.tryReady.Judged := (State.judgeRoster_judged hb hl).tryReady
  unfold State.rosterHeard
  dsimp only
  split
  · exact hready.judgeCover.settle (by simpa using hl)
  · exact hready.settle (by simpa using hl)

theorem State.rosterHeard_ne_boot {s : State} (k : Nat) (hb : s.control.station ≠ .boot) : (s.rosterHeard k).control.station ≠ .boot := by
  have hready : s.judgeRoster.tryReady.control.station ≠ .boot := by
    unfold State.tryReady
    split
    · simp
    · simpa using hb
  unfold State.rosterHeard
  dsimp only
  refine State.settle_ne_boot ?_
  split
  · unfold State.judgeCover State.endCoverWait
    (repeat' split) <;> simpa using hready
  · exact hready

/-- Settles O31: a duplicate's STOP, kind by kind, and the judgement a PRESENT frame brings. -/
theorem ownNumberAndRosterAreJudged : Obligations.OwnNumberAndRosterAreJudged := by
  constructor
  · intro s c hshape h1 h8 k hc
    rw [exec_own_frame h1 h8 hc]
    refine ⟨fun hb => ?_, fun hb => ⟨_, rfl, ?_⟩⟩
    · unfold State.duplicate
      rw [if_pos (show (s.answer true).control.station = .boot from hb)]
      rfl
    · have hstops := State.duplicate_stops (s := s.answer true) hshape.alarms hb
      have hlow : ∀ j ∈ settledSources, j < 32 := by decide
      refine ⟨hstops.line.2, hstops.station, hstops.started.1, hstops.started.2, hstops.raised, hstops.entry _ ?_ fun hm => ?_,
        hstops.line.1, hstops.report, hstops.trims, hstops.stage⟩
      · show 31 + s.straps.station ≠ 1
        omega
      · have := hlow _ hm
        omega
  · intro s k p hshape hk hb
    obtain ⟨u, hu⟩ : ∃ u, u = (s.answer true).setRoster k { s.line.roster.getD (k - 1) .absent with identity := some (.ofPresent p) } :=
      ⟨_, rfl⟩
    have hkeep : u = { s with line := u.line, screen := u.screen } := by
      rw [hu, State.setRoster_eq]
      rfl
    have hut : u.line.rollCallTimer = s.line.rollCallTimer := by
      rw [hu, State.setRoster_line (s := s.answer true) hshape.roster hk.1 hk.2.1]
      rfl
    obtain ⟨v, hv⟩ : ∃ v, v = u.answerPresent (s.line.roster.getD (k - 1) .absent).identity.isNone p.known := ⟨_, rfl⟩
    have hexec := exec_presentFrame_eq p hk
    dsimp only at hexec
    rw [← hu, State.outsideBoot_pos (by rw [hkeep]; exact hb), ← hv] at hexec
    have hcontrol : v.control = s.control := by
      rw [hv, hkeep]
      simp
    have hlen : v.alarms.entries.length = 40 := by
      rw [hv, hkeep]
      simpa using hshape.alarms
    have hvt : v.line.rollCallTimer = s.line.rollCallTimer := by
      rw [hv, State.answerPresent_rollCallTimer, hut]
    have hbv : v.control.station ≠ .boot := by rwa [hcontrol]
    obtain ⟨t, ht⟩ : ∃ t, t = v.rosterHeard k := ⟨_, rfl⟩
    have hjudged : t.Judged := by rw [ht]; exact State.rosterHeard_judged k hbv hlen
    have hloader : t.loader = s.loader := by rw [ht, (Settles.rosterHeard k v).loader, hv, hkeep]; simp
    have hvline : SameLine v t := by rw [ht]; exact (Settles.rosterHeard k v).sameLine
    rw [← ht] at hexec
    refine ⟨t, hexec, fun _ => ⟨fun id hid => ?_, fun j hj => ?_, fun hj => ?_, fun n hn => ?_, fun hs => ?_, fun hst hs => ?_,
      fun hst hs => ⟨fun n hn => ?_, fun hn => ?_⟩⟩⟩
    · have hmismatch : t.mismatch = smallest (t.presentWith fun _ i => decide (i.programId ≠ id)) := by
        unfold State.mismatch
        rw [show t.programId? = some id by rw [State.programId?, hloader]; exact hid]
      have hfinds := hjudged.mismatch
      rw [hmismatch] at hfinds
      obtain ⟨hfound, hnone⟩ := hfinds.of_smallest
      have hmem (j : Nat) : j ∈ t.presentWith (fun _ i => decide (i.programId ≠ id)) ↔
          j ∈ stationNumbers ∧ t.Shows j (·.programId ≠ id) := by
        simpa only [decide_eq_true_eq] using State.mem_presentWith (s := t) (f := fun _ i => decide (i.programId ≠ id)) (k := j)
      refine ⟨fun j hj hs => ?_, fun hno => hnone ?_⟩
      · obtain ⟨h1, h2, h3⟩ := hfound j ((hmem j).2 ⟨hj, hs⟩)
        exact ⟨h1, h2, fun hlow => h3 fun m hm hc => hlow m ((hmem m).1 hc).1 hm ((hmem m).1 hc).2⟩
      · rw [List.eq_nil_iff_forall_not_mem]
        exact fun j hj => hno j ((hmem j).1 hj).1 ((hmem j).1 hj).2
    · obtain ⟨h1, h2, h3⟩ := hjudged.layout.of_smallest.1 j (State.mem_layoutBreaches.2 hj)
      exact ⟨h1, h2, fun hlow => h3 fun m hm hc => hlow m hm (State.mem_layoutBreaches.1 hc)⟩
    · refine hjudged.layout.of_smallest.2 ?_
      rw [List.eq_nil_iff_forall_not_mem]
      exact fun j hb => hj j (State.mem_layoutBreaches.1 hb)
    · exact hjudged.gap (State.completeTo_iff.1 hn).2
    · have hinv : t.StopInv := by rw [ht]; exact State.settle_stopInv _
      exact (hinv (by rw [ht]; exact State.rosterHeard_ne_boot k hbv)).2 hs
    · have hroll := State.rosterHeard_of_rollcall k (s := v) (by rw [hcontrol, hst])
      rw [← ht] at hroll
      cases hj : v.judgeRoster.alarms.stopStands with
      | true => exact (hroll.1 hj).2
      | false => exact absurd hs (by rw [(hroll.2 hj).1]; simp)
    · have hroll := State.rosterHeard_of_rollcall k (s := v) (by rw [hcontrol, hst])
      rw [← ht] at hroll
      have hj : v.judgeRoster.alarms.stopStands = false := by
        by_contra hj
        exact absurd hs (by rw [(hroll.1 (by simpa using hj)).1]; simp)
      exact (hroll.2 hj).2.1 (hvline.rollCallComplete ▸ (State.completeTo_iff.1 hn).2)
    · have hroll := State.rosterHeard_of_rollcall k (s := v) (by rw [hcontrol, hst])
      rw [← ht] at hroll
      have hj : v.judgeRoster.alarms.stopStands = false := by
        by_contra hj
        exact absurd hs (by rw [(hroll.1 (by simpa using hj)).1]; simp)
      have hinc : v.rollCallComplete = false := by
        rw [← hvline.rollCallComplete, Bool.eq_false_iff]
        exact fun hc => (State.rollCallComplete_iff.1 hc).elim hn
      rw [← hvt]
      exact (hroll.2 hj).2.2 hinc

end Sys2Proof.Machine
end


section
/-! PROOFS. Arrivals, offers and the ends of a handoff (R46 to R49, R53, R55): what a request can add to the queue, and what taking and
discarding a strip change. -/

namespace Sys2Proof.Machine

/-! ## What joins the transmit queue -/

/-- R174: each frame of a queue after a request was there before or carries what was asked for. -/
theorem LineUnit.mem_request {target : Nat} {body : TxBody} {l : LineUnit} {e : TxEntry}
    (h : e ∈ (l.request target body).queue) : e ∈ l.queue ∨ e.body = body := by
  have hmerge : ∀ q : List TxEntry, e ∈ mergeFrame body q → e ∈ q ∨ e.body = body := by
    intro q
    induction q with
    | nil => simp [mergeFrame]
    | cons x q ih =>
      unfold mergeFrame
      split
      · rintro (_ | ⟨_, hq⟩)
        · exact .inr rfl
        · exact .inl (.tail _ hq)
      · rintro (_ | ⟨_, hq⟩)
        · exact .inl (.head _)
        · exact (ih hq).imp_left (.tail _)
  have hnew : ∀ q : List TxEntry, q.Sublist l.queue → e ∈ q ++ [(⟨target, body, none, false⟩ : TxEntry)] →
      e ∈ l.queue ∨ e.body = body := by
    intro q hq he
    rcases List.mem_append.1 he with he | he
    · exact .inl (hq.subset he)
    · exact .inr (by rw [List.mem_singleton.1 he])
  rcases l.request_cases target body with ⟨-, hr⟩ | ⟨-, -, hr⟩ | ⟨-, -, hr⟩ | ⟨-, -, -, hr⟩ | ⟨-, -, -, hr⟩ <;> rw [hr] at h
  · exact hmerge _ h
  · exact hnew _ (.refl _) h
  · exact .inl h
  · exact hnew _ (dropFirst_sublist _ _) h
  · exact .inl h

/-- No frame but STATE and ALARM frames has joined the queue. -/
def LineUnit.NewsOnly (l m : LineUnit) : Prop := ∀ e ∈ m.queue, e.body.isFirm = true → e ∈ l.queue

theorem LineUnit.NewsOnly.refl (l : LineUnit) : l.NewsOnly l := fun _ h _ => h

theorem LineUnit.NewsOnly.request {l m : LineUnit} (h : l.NewsOnly m) (target : Nat) {body : TxBody} (hb : body.isFirm = false) :
    l.NewsOnly (m.request target body) := by
  intro e he hf
  rcases LineUnit.mem_request he with he | he
  · exact h e he hf
  · rw [he, hb] at hf
    contradiction

theorem State.raiseAlarm_newsOnly {l : LineUnit} (i : Nat) (d : Detail) {s : State} (h : l.NewsOnly s.line) :
    l.NewsOnly (s.raiseAlarm i d).line := by
  unfold State.raiseAlarm State.putEntry LineUnit.afterAlarm
  dsimp only
  split
  · exact h
  · have hnews (b : Bool) (e : AlarmEntry) :
        l.NewsOnly (match (if b then some (alarmBody i e) else none) with
          | some x => s.line.request 0 x
          | none => s.line) := by
      cases b
      · exact h
      · exact h.request 0 rfl
    split
    · exact hnews _ _
    · exact (hnews _ _).request 0 rfl

theorem State.setStage_newsOnly {l : LineUnit} (st : StageState) {s : State} (h : l.NewsOnly s.line) :
    l.NewsOnly (s.setStage st).line := by
  unfold State.setStage
  split
  · exact h
  · exact h.request 0 rfl

theorem LineUnit.length_afterAlarm (old new : AlarmUnit) (news : Option TxBody) (l : LineUnit) :
    (l.afterAlarm old new news).queue.length ≤ l.queue.length + 2 := by
  have hnews : ∀ m : LineUnit, (m.request 0 .state).queue.length ≤ m.queue.length + 1 := LineUnit.length_request 0 .state
  unfold LineUnit.afterAlarm
  dsimp only
  cases news with
  | none =>
    have := hnews l
    split <;> dsimp only <;> omega
  | some b =>
    have h1 := LineUnit.length_request 0 b l
    have h2 := hnews (l.request 0 b)
    split <;> dsimp only <;> omega

theorem State.length_raiseAlarm (i : Nat) (d : Detail) (s : State) :
    (s.raiseAlarm i d).line.queue.length ≤ s.line.queue.length + 2 := by
  unfold State.raiseAlarm
  split
  · omega
  · exact LineUnit.length_afterAlarm _ _ _ _

theorem State.length_setStage (st : StageState) (s : State) : (s.setStage st).line.queue.length ≤ s.line.queue.length + 1 := by
  unfold State.setStage
  split
  · omega
  · exact LineUnit.length_request _ _ _

/-! ## Arrivals (R53, R55) -/

theorem AlarmUnit.disabled_of_level {a : AlarmUnit} {i : Nat} (h : (a.entry i).level ≠ 0) : a.disabled i = false := by
  simp [AlarmUnit.disabled, h]

theorem State.takeStrip_line (r : StripRecord) (c : Nat) (s : State) : (s.takeStrip r c).line = (s.setStage .loaded).line := rfl

/-- R12: the alarm an untracked strip raises. -/
theorem State.takeUntracked_shows {s : State} (hl : s.alarms.entries.length = 40) (serial : Serial) (q c : Nat)
    (hlevel : (s.alarms.entry Source.untrackedStrip).level ≠ 0) :
    ((s.takeUntracked serial q c).alarms.entry Source.untrackedStrip).state = .active ∧
    ((s.takeUntracked serial q c).alarms.entry Source.untrackedStrip).detail = .lineSeq q :=
  State.raiseAlarm_event (by decide) (by simpa using AlarmUnit.disabled_of_level hlevel) (by simp [hl]; decide) _

theorem State.takeUntracked_length (serial : Serial) (q c : Nat) (s : State) :
    (s.takeUntracked serial q c).line.queue.length ≤ s.line.queue.length + 3 := by
  have h1 := (s.takeStrip (untrackedRecord serial q) c).length_raiseAlarm Source.untrackedStrip (.lineSeq q)
  have h2 := s.length_setStage .loaded
  rw [State.takeStrip_line] at h1
  unfold State.takeUntracked
  omega

theorem State.takeUntracked_control (serial : Serial) (q c : Nat) (s : State) : (s.takeUntracked serial q c).control = s.control := by
  unfold State.takeUntracked
  rw [State.raiseAlarm_control_of_not_hold _ _ (by decide)]
  simp

/-- R174: an ARRIVED frame asked for with room stands in the queue. -/
theorem LineUnit.request_arrived (target : Nat) (p : ArrivedPayload) {l : LineUnit} (hq : l.queue.length < 16) :
    (⟨target, .arrived p, none, false⟩ : TxEntry) ∈ (l.request target (.arrived p)).queue := by
  have hc : (TxBody.arrived p).frameClass = 4 := rfl
  rcases l.request_cases target (.arrived p) with ⟨h, -⟩ | ⟨-, -, he⟩ | ⟨h, -⟩ | ⟨-, h, -⟩ | ⟨-, h, -⟩
  · obtain ⟨e, -, he⟩ := List.any_eq_true.1 h
    simp [TxEntry.mergesWith] at he
  · rw [he]
    exact List.mem_append_right _ (List.mem_singleton.2 rfl)
  all_goals omega

/-- Settles O38, by the stage state and by whether the assembly is complete. -/
theorem arrivalGivesStageARecord : Obligations.ArrivalGivesStageARecord := by
  refine ⟨fun s k a hshape hst hk ha => ?_, fun s hshape hst => ?_, fun s h1 h2 h3 => ?_⟩
  · have hexec : exec .arrival s = .next (s.arriveReceiving k a) := by
      show Host.Outcome.next _ = _
      simp only [hst, hk, ha]
    refine ⟨_, hexec, ?_⟩
    unfold State.arriveReceiving
    cases hr : a.record? with
    | some r =>
      have hlen := s.length_setStage .loaded
      refine ⟨by simp, by simp, by simp, by simp, by simp, by simp, by simp, fun x hx => ⟨by simpa using hx, by simp⟩,
        fun h => by simp at h, fun hq => ⟨_, LineUnit.request_arrived _ _ ?_, rfl, rfl⟩, by apply State.ext <;> simp⟩
      rw [State.takeStrip_line]
      omega
    | none =>
      have hlen := s.takeUntracked_length k.offer.serial k.offer.lineSeq 1
      have hcontrol := s.takeUntracked_control k.offer.serial k.offer.lineSeq 1
      refine ⟨by simp [State.takeUntracked], by simp [State.takeUntracked], by simp [State.takeUntracked],
        by simp [State.takeUntracked], by simp [State.takeUntracked], by simp [State.takeUntracked],
        by simp [State.takeUntracked], fun x hx => by simp at hx, fun _ => ⟨by simp [State.takeUntracked, untrackedRecord],
          State.takeUntracked_shows hshape.alarms _ _ _⟩,
        fun hq => ⟨_, LineUnit.request_arrived _ _ (by dsimp only; omega), rfl, rfl⟩,
        by apply State.ext <;> simp [hcontrol]⟩
  · have hexec : exec .arrival s = .next s.arriveEmpty := by
      show Host.Outcome.next _ = _
      simp only [hst]
    refine ⟨_, hexec, ?_⟩
    unfold State.arriveEmpty
    cases hn : s.stage.note with
    | some n =>
      have hlen := s.takeUntracked_length n.serial n.lineSeq 1
      have hcontrol := s.takeUntracked_control n.serial n.lineSeq 1
      refine ⟨by simp [State.takeUntracked], by simp [State.takeUntracked], by simp [State.takeUntracked],
        by simp [State.takeUntracked], by simp [State.takeUntracked], fun hlevel => (State.takeUntracked_shows hshape.alarms _ _ _ hlevel).1,
        fun x hx => ?_, fun h => by simp at h, by apply State.ext <;> simp [hcontrol]⟩
      obtain rfl : n = x := by simpa using hx
      exact ⟨by simp [State.takeUntracked, untrackedRecord],
        fun hq => ⟨_, LineUnit.request_arrived _ _ (by omega), rfl, rfl⟩⟩
    | none =>
      have hcontrol := s.takeUntracked_control unknownSerial 0 1
      have hnews : s.line.NewsOnly (s.takeUntracked unknownSerial 0 1).line := by
        refine State.raiseAlarm_newsOnly _ _ ?_
        rw [State.takeStrip_line]
        exact State.setStage_newsOnly _ (.refl _)
      refine ⟨by simp [State.takeUntracked], by simp [State.takeUntracked], by simp [State.takeUntracked],
        by simp [State.takeUntracked], by simp [State.takeUntracked], fun hlevel => (State.takeUntracked_shows hshape.alarms _ _ _ hlevel).1,
        fun x hx => by simp at hx, fun _ => ⟨by simp [State.takeUntracked, untrackedRecord, unknownSerial], fun e he p hp => ?_⟩,
        by apply State.ext <;> simp [hcontrol]⟩
      exact hnews e he (by rw [hp]; rfl)
  · show Host.Outcome.next _ = _
    congr 1
    split <;> simp_all

/-! ## Offers and the end of a handoff (R46, R47, R49) -/

theorem State.runOrPaused_iff (s : State) :
    s.runOrPaused = true ↔ s.control.station = .run ∨ s.control.station = .paused := by
  simp [State.runOrPaused]

/-- R46: what an OFFER waits for, each by itself. -/
theorem State.mayOffer_iff {s : State} {r : StripRecord} (hr : s.stage.record = some r) :
    s.mayOffer = true ↔ s.stage.state = .finished ∧ s.straps.outfeed = false ∧
      (s.control.station = .run ∨ s.control.station = .paused) ∧ s.stage.permit = true ∧ s.stage.indexMotion = none ∧
      s.pull.cycle = .idle ∧
      ∀ e ∈ s.line.queue ++ s.line.waiting, ∀ x, e.body = .pullResult x → x.serial ≠ r.serial ∨ x.lineSeq ≠ r.lineSeq := by
  have hleft : s.resultsLeft = false ↔
      ∀ e ∈ s.line.queue ++ s.line.waiting, ∀ x, e.body = .pullResult x → x.serial ≠ r.serial ∨ x.lineSeq ≠ r.lineSeq := by
    unfold State.resultsLeft
    rw [hr]
    simp only [List.any_eq_false]
    refine forall₂_congr fun e _ => ?_
    split
    · next x hx =>
      simp only [hx, TxBody.pullResult.injEq, decide_eq_true_eq, forall_eq']
      exact not_and_or
    · next hx => exact ⟨fun _ x h => absurd h (hx x), fun _ => by simp⟩
  unfold State.mayOffer
  simp only [Bool.and_eq_true, decide_eq_true_eq, Bool.not_eq_true', Option.isNone_iff_eq_none, State.runOrPaused_iff, hleft,
    and_assoc]

theorem exec_arrivedFrame_eq {s : State} {k : Nat} (p : ArrivedPayload) (hk : s.IsPeer k) (hb : s.control.station ≠ .boot) :
    exec (.arrivedFrame k s.straps.station p) s = .next
      (if s.stage.state = .handing ∧ k = s.straps.station + 1 ∧ p.offerNumber = s.stage.offerNumber ∧ p.lineSeq = s.recordSeq then
        (s.answer true).closeHandoff
      else s.answer true) :=
  congrArg _ (State.hear_own_outside hk hb _)

theorem exec_refuseFrame_eq {s : State} {k : Nat} (p : RefusePayload) (hk : s.IsPeer k) (hb : s.control.station ≠ .boot) :
    exec (.refuseFrame k s.straps.station p) s = .next
      (if s.stage.state = .offering ∧ k = s.straps.station + 1 ∧ p.offerNumber = s.stage.offerNumber then
        (s.answer true).offerClosed .stopped
      else s.answer true) :=
  congrArg _ (State.hear_own_outside hk hb _)

/-- Settles O39: the offer by its conditions, and each answer by its number. -/
theorem offerIsMadeAndAnswered : Obligations.OfferIsMadeAndAnswered := by
  refine ⟨fun s r hr => ⟨fun hst ho hrun hp hi hc hres => ?_, fun h => ?_⟩, fun s p h8 h0 hb => ?_, fun s => ⟨fun h => ?_, fun h => ?_⟩,
    fun s p h8 h0 hb => ?_⟩
  · have hmay := (State.mayOffer_iff hr).2 ⟨hst, ho, hrun, hp, hi, hc, hres⟩
    have hexec : exec .offerSend s = .next
        (State.setStage .offering (State.send (s.straps.station + 1) (.offer (offerOf (nextOffer s.stage.offerNumber) r))
          (s.setStageUnit fun g => { g with
            offerNumber := nextOffer s.stage.offerNumber, permit := false, offerTimer := .running s.offerTimeout }))) := by
      show Host.Outcome.next _ = _
      simp only [hr, hmay, if_true]
    refine ⟨_, hexec, ?_, ?_, by apply State.ext <;> simp⟩
    · simp [nextOffer]
    · unfold State.setStage
      rw [if_neg (by simp [hst])]
      rfl
  · have hmay : s.mayOffer = false := by
      rw [Bool.eq_false_iff]
      intro hm
      obtain ⟨h1, h2, h3, h4, -, h6, -⟩ := (State.mayOffer_iff hr).1 hm
      rcases h with h | h | h | h | h
      · exact h h1
      · exact absurd (h.symm.trans h2) (by decide)
      · exact absurd (h.symm.trans h4) (by decide)
      · exact h3.elim h.1 h.2
      · exact h h6
    show Host.Outcome.next _ = _
    simp [hr, hmay]
  · have hpeer : s.IsPeer (s.straps.station + 1) := ⟨by omega, by omega, by omega⟩
    rw [exec_refuseFrame_eq p hpeer hb]
    refine ⟨fun hst hn => ?_, fun h => ?_⟩
    · rw [if_pos ⟨hst, rfl, hn⟩]
      exact ⟨_, rfl, by simp, by apply State.ext <;> simp⟩
    · rw [if_neg (by tauto)]
      rfl
  · exact ⟨s.offerClosed .expired, congrArg _ (if_pos h), by simp, by apply State.ext <;> simp⟩
  · exact congrArg _ (if_neg h)
  · have hpeer : s.IsPeer (s.straps.station + 1) := ⟨by omega, by omega, by omega⟩
    rw [exec_arrivedFrame_eq p hpeer hb]
    refine ⟨fun hst hp => ?_, fun h => ?_⟩
    · rw [if_pos ⟨hst, rfl, by rw [hp], by rw [hp]⟩]
      unfold State.closeHandoff
      exact ⟨_, rfl, by simp, by simp, by simp, by simp, by simp, by simp [Pusher.released],
        by apply State.ext <;> simp⟩
    · refine congrArg _ (if_neg ?_)
      rintro ⟨h1, -, h3, h4⟩
      rcases h with h | h
      · exact h h1
      · exact h (by cases p; simp_all)

end Sys2Proof.Machine
end


section
/-! PROOFS. The three timers of the stage (R40, R50, R54), and what a RESUME press does to a handoff that has timed out: a settling of
the station state touches the stage at most where a STOP ends the work. -/

namespace Sys2Proof.Machine

/-! ## What a STOP leaves of the stage -/

/-- The stage of `t` is that of `s` but for the column and the index motion, and the record, which stays too unless the stage is
LOADED. -/
structure StageAsideWork (s t : State) : Prop where
  stage : t.stage = { s.stage with
    record := t.stage.record, column := t.stage.column, indexMotion := t.stage.indexMotion, working := t.stage.working }
  record : s.stage.state ≠ .loaded → t.stage.record = s.stage.record

theorem StageAsideWork.of_stage {s t : State} (h : t.stage = s.stage) : StageAsideWork s t := ⟨by rw [h], fun _ => by rw [h]⟩

theorem StageAsideWork.trans {s t u : State} (h : StageAsideWork s t) (k : StageAsideWork t u) : StageAsideWork s u where
  stage := by rw [k.stage, h.stage]
  record hs := (k.record (by rwa [h.stage])).trans (h.record hs)

theorem State.enterStopped_aside (s : State) : StageAsideWork s s.enterStopped := by
  refine ⟨?_, State.enterStopped_record⟩
  have habort := (State.abortWire_stage s.stopRollCall).1
  have hroll : s.stopRollCall.stage = s.stage := by simp
  unfold State.enterStopped
  simp only [State.setStation_frame, State.haltElevators_frame]
  rcases State.haltIndex_cases s.stopRollCall.abortWire.abandonPull with ⟨-, he⟩ | ⟨-, he⟩ <;> rw [he] <;>
    simp only [State.abandonPull_frame] <;> rw [habort, hroll]

theorem State.settleStop_aside (s : State) : StageAsideWork s s.settleStop := by
  unfold State.settleStop
  split
  · exact s.enterStopped_aside
  · exact .of_stage rfl

/-- R24, R25: what a settling of the station state leaves of the stage. -/
theorem State.settle_aside (s : State) : StageAsideWork s s.settle := by
  unfold State.settle
  split
  · exact (StageAsideWork.of_stage (by simp)).trans (State.settleStop_aside _)
  · exact s.settleStop_aside

/-! ## What a RESUME press releases (R50, R54) -/

theorem State.releaseInput_of_not_waiting {s : State} (h : s.elevator.input.activity ≠ .waitingResume) : s.releaseInput = s :=
  if_neg fun c => h c.1

theorem State.releaseOutput_of_not_waiting {s : State} (x : StripSensors) (h : s.elevator.output.activity ≠ .waitingResume) :
    s.releaseOutput x = s := if_neg fun c => h c.1

/-- A press with both elevators out of WAITING_RESUME releases the two sides of a handoff alone. -/
theorem State.releaseWaiting_of_elevators {s : State} (x : StripSensors) (hin : s.elevator.input.activity ≠ .waitingResume)
    (hout : s.elevator.output.activity ≠ .waitingResume) : s.releaseWaiting x = (s.resumeSender x).resumeReceiver := by
  have helevator : (s.resumeSender x).resumeReceiver.elevator = s.elevator := by simp
  unfold State.releaseWaiting
  rw [State.releaseInput_of_not_waiting (by rwa [helevator]), State.releaseOutput_of_not_waiting _ (by rwa [helevator])]

/-- R50: a RESUME press reads the sender's sensors once the timer has expired and HANDOFF_TIMEOUT no longer stands ACTIVE. -/
theorem State.resumeSender_handing {s : State} (x : StripSensors) (hst : s.stage.state = .handing)
    (ht : s.stage.transferTimer = .expired) (ha : s.isActive Source.handoffTimeout = false) :
    (x.exit = true → s.resumeSender x = s) ∧ (x.exit = false → x.arrival = true → s.resumeSender x = s.takeBack) ∧
    (x.exit = false → x.arrival = false → s.resumeSender x = s.emptyStage) := by
  unfold State.resumeSender
  rw [if_pos ⟨hst, ht, ha⟩]
  refine ⟨fun he => ?_, fun he ha => ?_, fun he ha => ?_⟩
  · rw [he]
  · rw [he, ha]
  · rw [he, ha]

theorem State.resumeSender_of_not {s : State} (x : StripSensors)
    (h : s.stage.state ≠ .handing ∨ s.stage.transferTimer ≠ .expired ∨ s.isActive Source.handoffTimeout = true) :
    s.resumeSender x = s := if_neg fun ⟨h1, h2, h3⟩ => by simp_all

theorem State.resumeReceiver_of_not {s : State}
    (h : s.stage.state ≠ .receiving ∨ s.stage.transferTimer ≠ .expired ∨ s.isActive Source.handoffTimeout = true) :
    s.resumeReceiver = s := if_neg fun ⟨h1, h2, h3⟩ => by simp_all

/-- R54: what giving a transfer up leaves on the stage. -/
theorem State.giveUpTransfer_stage (s : State) :
    s.giveUpTransfer.stage.state = .empty ∧ s.giveUpTransfer.stage.assembly = none ∧ s.giveUpTransfer.stage.kept = none ∧
    s.giveUpTransfer.stage.transferTimer = .stopped ∧
    s.giveUpTransfer.stage.note = s.stage.kept.map fun k => ⟨k.sender, k.offer.offerNumber, k.offer.serial, k.offer.lineSeq⟩ := by
  unfold State.giveUpTransfer
  simp

/-- R23: the state in which a RESUME press finds what waits for it. -/
def State.atRelease (s : State) : State := (s.pressKey .resume).tableResumed.resumeStep

theorem exec_resumeKey_atRelease {s : State} (x : StripSensors) (h : s.control.station ≠ .boot) :
    exec (.resumeKey x) s = .next (s.atRelease.releaseWaiting x).settle := exec_resumeKey_eq x h

theorem State.atRelease_frame (s : State) :
    s.atRelease.straps = s.straps ∧ s.atRelease.loader = s.loader ∧ s.atRelease.stage = s.stage ∧
    s.atRelease.elevator = s.elevator ∧ s.atRelease.pull = s.pull ∧ s.atRelease.report = s.report := by
  unfold State.atRelease State.tableResumed
  simp

theorem State.atRelease_alarms (s : State) : s.atRelease.alarms = (s.pressKey .resume).tableResumed.alarms := by
  unfold State.atRelease
  simp

/-- R23: an entry keeps a release waiting exactly while it stands ACTIVE above the mask. -/
theorem State.atRelease_isActive {i : Nat} (hi : i < 40) (s : State) :
    s.atRelease.isActive i = true ↔ (s.alarms.entry i).state = .active ∧ s.alarms.mask < (s.alarms.entry i).level := by
  unfold State.isActive
  rw [decide_eq_true_iff, State.atRelease_alarms, State.pressKey_tableResumed_entry _ hi]
  refine ⟨resumed_active, fun h => ?_⟩
  rw [resumed_of_active h.1 h.2]
  exact h.1

/-! ## The dwell limit and the transfer timers (R40, R50, R54) -/

theorem exec_dwellLimitReached_eq {s : State} (hrun : s.stage.dwell.isRunning = true) (hr : s.stage.dwell.reached = false) :
    exec .dwellLimitReached s = .next
      (((s.setStageUnit fun g => { g with dwell := { g.dwell with reached := true } }).raiseAlarm Source.dwellLimit
        (.lineSeq s.recordSeq)).setDwellFlag) := congrArg _ (if_pos ⟨hrun, hr⟩)

/-- R33, R174: no alarm makes a frame wait for room. -/
theorem State.raiseAlarm_waiting (i : Nat) (d : Detail) (s : State) : (s.raiseAlarm i d).line.waiting = s.line.waiting := by
  have hafter (old new : AlarmUnit) (e : AlarmEntry) (b : Bool) (l : LineUnit) :
      (l.afterAlarm old new (if b then some (alarmBody i e) else none)).waiting = l.waiting := by
    have hstate (m : LineUnit) : (m.request 0 .state).waiting = m.waiting := LineUnit.request_waiting 0 (by decide) m
    have halarm : (l.request 0 (alarmBody i e)).waiting = l.waiting :=
      LineUnit.request_waiting 0 (by simp [alarmBody, TxBody.frameClass]) l
    unfold LineUnit.afterAlarm
    cases b <;> dsimp only [Bool.false_eq_true, if_true, if_false] <;> split <;> simp [hstate, halarm]
  unfold State.raiseAlarm
  split
  · rfl
  · exact hafter _ _ _ _ _

/-- R29, R21: a raise of an event of class HOLD. -/
theorem State.raiseAlarm_holdEvent {i : Nat} {s : State} (hi : i < s.alarms.entries.length) (hv : isEvent i = true)
    (hc : localClass i = .hold) (d : Detail) :
    ((s.raiseAlarm i d).alarms.entry i).state = .active ∧ ((s.raiseAlarm i d).alarms.entry i).detail = d ∧
    (s.raiseAlarm i d).control = { s.control with holdRequest := true } := by
  have hd : s.alarms.disabled i = false := AlarmUnit.disabled_of_not_note (by rw [hc]; decide) _
  obtain ⟨hs, hdetail⟩ := State.raiseAlarm_event hv hd hi d
  refine ⟨hs, hdetail, ?_⟩
  have hhold : (s.raiseAlarm i d).control.holdRequest = true := s.raiseAlarm_holds hv hc d
  apply Control.ext <;> simp [hhold]

/-- Settles O36: each timer by the stage state, and a RESUME press by what HANDOFF_TIMEOUT's entry and the sensors say. -/
theorem stageTimersExpire : Obligations.StageTimersExpire := by
  intro s hshape
  refine ⟨fun hrun hreach => ?_, fun h => ?_, fun ms hms => ⟨fun hst => ?_, fun hst => ?_⟩, fun h => ?_, fun p hb hin hout => ?_⟩
  · refine ⟨_, exec_dwellLimitReached_eq hrun hreach, ?_⟩
    obtain ⟨u, hu⟩ : ∃ u, u = s.setStageUnit fun g => { g with dwell := { g.dwell with reached := true } } := ⟨_, rfl⟩
    have halarms : u.alarms = s.alarms := by rw [hu]; rfl
    have hstage : u.stage = { s.stage with dwell := { s.stage.dwell with reached := true } } := by rw [hu]; rfl
    have hsame : u = { s with stage := u.stage } := by rw [hu]; rfl
    rw [← hu]
    obtain ⟨hstate, hcond, hdetail⟩ := State.raiseAlarm_condition (s := u) (i := Source.dwellLimit) (by decide)
      (by rw [halarms, hshape.alarms]; decide) (AlarmUnit.disabled_of_not_note (by decide) _) (.lineSeq s.recordSeq)
    obtain ⟨v, hv⟩ : ∃ v, v = u.raiseAlarm Source.dwellLimit (.lineSeq s.recordSeq) := ⟨_, rfl⟩
    rw [← hv] at hstate hcond hdetail ⊢
    have hvs : v.stage = u.stage := by simp [hv]
    have hflag : v.setDwellFlag.stage = { v.stage with record := v.setDwellFlag.stage.record } := by
      unfold State.setDwellFlag
      split <;> rfl
    have hflagAlarms : v.setDwellFlag.alarms = v.alarms := by simp
    refine ⟨?_, by rwa [hflagAlarms], fun r hr => ?_, ?_, ?_, fun hst => ?_, fun hst => ?_⟩
    · unfold State.conditionOf at hcond ⊢
      rwa [hflagAlarms]
    · rw [hflagAlarms, hdetail]
      simp [State.recordSeq, hr]
    · rw [hv, hsame]
      apply State.ext <;> simp
    · rw [hflag, hvs, hstage]
    · rw [(SameStrip.setDwellFlag v).frozen, hvs, hstage]
      simp [State.dwellMayChange, State.pullMayChange, hvs, hstage, hst]
    · unfold State.setDwellFlag
      rw [if_pos]
      · rw [State.setStageUnit_stage, hvs, hstage]
      · simp [State.dwellMayChange, State.pullMayChange, hvs, hstage]
        tauto
  · refine congrArg _ (if_neg fun c => ?_)
    rcases h with h | h
    · exact absurd (h.symm.trans c.1) (by decide)
    · exact absurd (h.symm.trans c.2) (by decide)
  · obtain ⟨u, hu⟩ : ∃ u : State, u = { s with
        stage := { s.stage with
          transferTimer := .expired
          closeWhenLeft := false
          push := if s.stage.push = .moving then .stopped else s.stage.push
          pusher := s.stage.pusher.released }
        line := s.line.dropParts s.stage.offerNumber } := ⟨_, rfl⟩
    have hexec : exec .senderTransferTimeout s = .next (u.raiseAlarm Source.handoffTimeout (.station (s.straps.station + 1))) := by
      show Host.Outcome.next _ = _
      simp only [hms, hst, if_true, hu]
    obtain ⟨hstate, hdetail, hcontrol⟩ := State.raiseAlarm_holdEvent (s := u) (i := Source.handoffTimeout)
      (by rw [hu]; exact hshape.alarms ▸ (by decide : 7 < 40)) (by decide) (by decide) (.station (s.straps.station + 1))
    obtain ⟨t, ht⟩ : ∃ t, t = u.raiseAlarm Source.handoffTimeout (.station (s.straps.station + 1)) := ⟨_, rfl⟩
    have hnews : u.line.NewsOnly t.line := ht ▸ State.raiseAlarm_newsOnly _ _ (.refl _)
    have hwait : t.line.waiting = u.line.waiting := ht ▸ State.raiseAlarm_waiting _ _ _
    have hline : u.line = s.line.dropParts s.stage.offerNumber := by rw [hu]
    rw [← ht] at hexec hstate hdetail hcontrol
    refine ⟨t, hexec, ?_, hstate, hdetail, ?_, fun e he p hp => ?_, fun e he p hp => ?_, ?_⟩
    · simp [ht, hu, Pusher.released]
    · rw [hcontrol, hu]
    · rw [hwait, hline] at he
      have hno := LineUnit.none_waits_of_dropped he
      rw [TxEntry.isPartOf_iff.2 ⟨p, hp⟩] at hno
      contradiction
    · have hq := hnews e he (by rw [hp]; rfl)
      rw [hline] at hq
      exact LineUnit.part_of_dropped hq (TxEntry.isPartOf_iff.2 ⟨p, hp⟩)
    · rw [ht, hu]
      apply State.ext <;> simp
  · obtain ⟨u, hu⟩ : ∃ u : State, u = s.setStageUnit fun g => { g with transferTimer := .expired } := ⟨_, rfl⟩
    have hexec : exec .receiverTransferTimeout s = .next (u.raiseAlarm Source.handoffTimeout (.station (s.straps.station - 1))) := by
      show Host.Outcome.next _ = _
      simp only [hms, hst, if_true, hu]
    obtain ⟨hstate, hdetail, hcontrol⟩ := State.raiseAlarm_holdEvent (s := u) (i := Source.handoffTimeout)
      (by rw [hu]; exact hshape.alarms ▸ (by decide : 7 < 40)) (by decide) (by decide) (.station (s.straps.station - 1))
    refine ⟨_, hexec, by simp [hu], hstate, hdetail, ?_, ?_⟩
    · rw [hcontrol, hu]
      rfl
    · rw [hu]
      apply State.ext <;> simp
  · constructor <;> show Host.Outcome.next _ = _ <;> rcases h with h | h <;> rw [h]
  · obtain ⟨u, hu⟩ : ∃ u, u = s.atRelease := ⟨_, rfl⟩
    obtain ⟨-, -, hstage, helevator, -, -⟩ := s.atRelease_frame
    have hactive := s.atRelease_isActive (i := Source.handoffTimeout) (by decide)
    rw [← hu] at hstage helevator hactive
    have hexec := exec_resumeKey_atRelease p hb
    rw [← hu, State.releaseWaiting_of_elevators p (by rwa [helevator]) (by rwa [helevator])] at hexec
    have haside := State.settle_aside (u.resumeSender p).resumeReceiver
    refine ⟨_, hexec, fun hgone hexp => ⟨fun hst => ?_, fun hst => ?_⟩, fun hstays => ?_⟩
    · have hnot : u.isActive Source.handoffTimeout = false := by
        rw [Bool.eq_false_iff]
        intro h
        have := hactive.1 h
        rcases hgone with h | h
        · exact h this.1
        · omega
      obtain ⟨hwait, hback, hempty⟩ := State.resumeSender_handing p (s := u) (by rwa [hstage]) (by rwa [hstage]) hnot
      have hsender (v : State) (hv : u.resumeSender p = v) (hne : v.stage.state ≠ .receiving) :
          (u.resumeSender p).resumeReceiver = v := by
        rw [hv, State.resumeReceiver_of_not (.inl hne)]
      refine ⟨fun he => ?_, fun he ha => ?_, fun he ha => ?_⟩
      · have hr := hsender _ (hwait he) (by rw [hstage, hst]; decide)
        rw [hr] at haside ⊢
        rw [haside.record (by rw [hstage, hst]; decide), haside.stage, hstage]
        exact ⟨hst, rfl, hexp, rfl⟩
      · have hr := hsender _ (hback he ha) (by simp)
        rw [hr] at haside ⊢
        rw [haside.record (by simp), haside.stage]
        simp [hstage]
      · have hr := hsender _ (hempty he ha) (by simp)
        rw [hr] at haside ⊢
        rw [haside.record (by simp), haside.stage]
        simp
    · have hnot : u.isActive Source.handoffTimeout = false := by
        rw [Bool.eq_false_iff]
        intro h
        have := hactive.1 h
        rcases hgone with h | h
        · exact h this.1
        · omega
      have hr : (u.resumeSender p).resumeReceiver = u.giveUpTransfer := by
        rw [State.resumeSender_of_not p (.inl (by rw [hstage, hst]; decide))]
        exact if_pos ⟨by rwa [hstage], by rwa [hstage], hnot⟩
      rw [hr] at haside ⊢
      rw [haside.stage, ← hstage]
      exact u.giveUpTransfer_stage
    · have hno : u.stage.transferTimer ≠ .expired ∨ u.isActive Source.handoffTimeout = true :=
        hstays.symm.imp (fun h => by rwa [hstage]) hactive.2
      have hr : (u.resumeSender p).resumeReceiver = u := by
        rw [State.resumeSender_of_not p (.inr hno), State.resumeReceiver_of_not (.inr hno)]
      rw [hr] at haside ⊢
      refine ⟨?_, fun hl => (haside.record (by rwa [hstage])).trans (by rw [hstage]), ?_, ?_, ?_, ?_, ?_⟩ <;>
        rw [haside.stage, hstage]

end Sys2Proof.Machine
end


section
/-! PROOFS. The visit of a heater zone (R59 to R61): the two steps of a visit, each with what it leaves of the other zones, and the
judgement of the zone's cause, of the pause request and of the two alarms. -/

namespace Sys2Proof.Machine

/-! ## Places of a list -/

theorem getElem?_modifyAt {α : Type} (f : α → α) (i j : Nat) (l : List α) :
    (modifyAt f i l)[j]? = if i = j then l[j]?.map f else l[j]? := by
  induction l generalizing i j with
  | nil => simp [modifyAt]
  | cons x xs ih =>
    cases i with
    | zero => cases j <;> simp [modifyAt]
    | succ i => cases j <;> simp [modifyAt, ih]

/-! ## What a zone's entry is after each step -/

/-- R59: the state after the reading is stored. -/
def State.visited (valid : Bool) (x : Int) (s : State) : State :=
  { s with
    heat := { s.heat with
      zones := modifyAt (ZoneState.visited (readingCounts valid x) x) (s.heat.nextZone - 1) s.heat.zones
      nextZone := nextZone s.heat.nextZone }
    screen := s.screen.raise .zoneSample }

theorem exec_zoneVisit_eq (valid : Bool) (x : Int) (s : State) :
    exec (.zoneVisit valid x) s = .next
      (if s.loader.loaded = .loading then s.visited valid x else (s.visited valid x).judgeZone s.heat.nextZone) := rfl

theorem State.visited_zone {s : State} {z : Nat} (hl : s.heat.zones.length = 6) (hz : s.heat.nextZone = z) (h1 : 1 ≤ z) (h6 : z ≤ 6)
    (valid : Bool) (x : Int) : (s.visited valid x).heat.zone z = (s.heat.zone z).visited (readingCounts valid x) x := by
  have hi : z - 1 < s.heat.zones.length := by omega
  unfold State.visited HeatMonitor.zone
  simp only [List.getD_eq_getElem?_getD, hz, getElem?_modifyAt, List.getElem?_eq_getElem hi, Option.getD_some, Option.map_some, if_true]

theorem State.visited_zone_ne {s : State} {j : Nat} (h1 : 1 ≤ s.heat.nextZone) (hj1 : 1 ≤ j) (hj : j ≠ s.heat.nextZone)
    (valid : Bool) (x : Int) : (s.visited valid x).heat.zone j = s.heat.zone j := by
  unfold State.visited HeatMonitor.zone
  simp only [List.getD_eq_getElem?_getD, getElem?_modifyAt]
  rw [if_neg (by omega)]

/-- R60: the state after the cause is stored. -/
def State.caused (z : Nat) (s : State) : State :=
  { s with heat := { s.heat with
    zones := s.heat.zones.set (z - 1) { s.heat.zone z with cause := s.causeOf z (s.heat.zone z) } } }

/-- R61: the zone that HEAT_PAUSE is raised for, where a judgement gave an enabled zone a new cause. -/
def State.freshZone (z : Nat) (s : State) : Option Nat :=
  if s.causeOf z (s.heat.zone z) ≠ (s.heat.zone z).cause ∧ s.causeOf z (s.heat.zone z) ≠ .none then some z else none

theorem State.judgeZone_eq (z : Nat) (s : State) : s.judgeZone z = ((s.caused z).judgePause (s.freshZone z)).judgeSensor z := rfl

theorem State.caused_zone {s : State} {z : Nat} (hl : s.heat.zones.length = 6) (h1 : 1 ≤ z) (h6 : z ≤ 6) :
    (s.caused z).heat.zone z = { s.heat.zone z with cause := s.causeOf z (s.heat.zone z) } := by
  have hi : z - 1 < s.heat.zones.length := by omega
  obtain ⟨e, he⟩ : ∃ e : ZoneState, e = { s.heat.zone z with cause := s.causeOf z (s.heat.zone z) } := ⟨_, rfl⟩
  unfold State.caused
  rw [← he]
  unfold HeatMonitor.zone
  simp [List.getD_eq_getElem?_getD, hi]

theorem State.caused_zone_ne {z j : Nat} (hz : 1 ≤ z) (hj1 : 1 ≤ j) (hj : j ≠ z) (s : State) :
    (s.caused z).heat.zone j = s.heat.zone j := by
  unfold State.caused HeatMonitor.zone
  simp only [List.getD_eq_getElem?_getD, List.getElem?_set]
  rw [if_neg (by omega)]

theorem State.judgeSensor_heat (z : Nat) (s : State) : (s.judgeSensor z).heat = s.heat := by
  unfold State.judgeSensor
  (repeat' split) <;> simp

/-- R60, R61: what a judgement leaves of the heat monitor. -/
theorem State.judgeZone_heat (z : Nat) (s : State) :
    (s.judgeZone z).heat = { (s.caused z).heat with pauseRequest := (s.caused z).pauseJudged } := by
  rw [State.judgeZone_eq, State.judgeSensor_heat, State.judgePause_heat]

/-! ## Causes and the pause request (R60, R61) -/

theorem readingCounts_iff (valid : Bool) (x : Int) : readingCounts valid x = true ↔ valid = true ∧ -40 ≤ x ∧ x ≤ 500 := by
  simp [readingCounts]

theorem judgedCause_disabled {g : ZoneSetting} (c : Int) (z : ZoneState) (h : g.enabled = false) : judgedCause g c z = .none := by
  simp [judgedCause, h]

theorem judgedCause_invalid {g : ZoneSetting} (c : Int) {z : ZoneState} (h : g.enabled = true) (hi : z.lastInvalid = true) :
    judgedCause g c z = .cold := by
  simp [judgedCause, h, hi]

/-- R60: the cause after a valid reading of an enabled zone. -/
theorem judgedCause_valid {g : ZoneSetting} (c : Int) {z : ZoneState} {r : Int} (h : g.enabled = true) (hi : z.lastInvalid = false)
    (hr : z.reading = some r) :
    judgedCause g c z =
      if g.tHigh < r then .hot else if r < g.tLow then .cold else if inBand g c r then .none else z.cause := by
  unfold judgedCause
  rw [if_neg (by simp [h]), hi, hr]

/-- R61: the monitor's findings read the loaded program and the zones alone. -/
theorem State.zoneFindings_congr {s t : State} (hl : t.loader = s.loader) (hz : t.heat.zones = s.heat.zones) :
    t.anyCause = s.anyCause ∧ t.allRecovered = s.allRecovered ∧ t.sensorBad = s.sensorBad := by
  have hzone : t.heat.zone = s.heat.zone := by
    funext j
    simp [HeatMonitor.zone, hz]
  have hset : t.zoneSetting = s.zoneSetting := by
    funext j
    simp [State.zoneSetting, State.program?, hl]
  have hcool : t.coolOff = s.coolOff := by simp [State.coolOff, State.setting, State.program?, hl]
  refine ⟨?_, ?_, ?_⟩
  · simp [State.anyCause, State.zoneEnabled, hzone, hset]
  · simp [State.allRecovered, State.recovered, State.zoneEnabled, hzone, hset, hcool]
  · funext j
    simp [State.sensorBad, State.zoneEnabled, hzone, hset]

theorem State.anyCause_of_zone {s : State} {z : Nat} (h1 : 1 ≤ z) (h6 : z ≤ 6) (he : s.zoneEnabled z = true)
    (hc : (s.heat.zone z).cause ≠ .none) : s.anyCause = true := by
  refine List.any_eq_true.2 ⟨z, ?_, by simp [he, hc]⟩
  interval_cases z <;> simp [zoneNumbers]

/-! ## The two alarms (R61) -/

theorem State.judgeSensor_entry_ne {i : Nat} (z : Nat) (s : State) (h : Source.zoneSensor ≠ i) :
    (s.judgeSensor z).alarms.entry i = s.alarms.entry i := by
  unfold State.judgeSensor
  split
  · exact State.raiseAlarm_entry_ne _ _ h
  · split
    · exact State.conditionGone_entry_ne _ h
    · rfl

theorem State.judgePause_entry_ne {i : Nat} (x : Option Nat) (s : State) (h : Source.heatPause ≠ i) :
    (s.judgePause x).alarms.entry i = s.alarms.entry i := by
  unfold State.judgePause
  dsimp only
  split
  · exact State.raiseAlarm_entry_ne _ _ h
  · rfl
  · split
    · exact State.conditionGone_entry_ne _ h
    · rfl

theorem State.raiseAlarm_shows {i : Nat} {s : State} (hv : isEvent i = false) (hl : s.alarms.entries.length = 40) (hi : i < 40)
    (hlevel : (s.alarms.entry i).level ≠ 0) (d : Detail) : (s.raiseAlarm i d).ShowsCondition i d :=
  State.raiseAlarm_condition hv (by rw [hl]; exact hi) (AlarmUnit.disabled_of_level hlevel) d

/-- R61: HEAT_PAUSE at a new cause. -/
theorem State.judgePause_shows {s : State} {z : Nat} (hl : s.alarms.entries.length = 40) (hj : s.pauseJudged = true)
    (hlevel : (s.alarms.entry Source.heatPause).level ≠ 0) :
    (s.judgePause (some z)).ShowsCondition Source.heatPause (.zone z) := by
  unfold State.judgePause
  simp only [hj]
  exact State.raiseAlarm_shows (by decide) (by exact hl) (by decide) (by exact hlevel) _

/-- R61: HEAT_PAUSE's condition ends with the pause request. -/
theorem State.judgePause_ends {s : State} (x : Option Nat) (hj : s.pauseJudged = false) (hp : s.heat.pauseRequest = true) :
    (s.judgePause x).conditionOf Source.heatPause = false := by
  unfold State.judgePause
  dsimp only
  rw [hj]
  dsimp only
  rw [if_pos hp]
  exact State.conditionGone_condition _ _

/-- R61: ZONE_SENSOR at an invalid reading of an enabled zone. -/
theorem State.judgeSensor_shows {s : State} {z : Nat} (hl : s.alarms.entries.length = 40) (hbad : s.sensorBad z = true)
    (hlevel : (s.alarms.entry Source.zoneSensor).level ≠ 0) : (s.judgeSensor z).ShowsCondition Source.zoneSensor (.zone z) := by
  unfold State.judgeSensor
  rw [if_pos hbad]
  exact State.raiseAlarm_shows (by decide) hl (by decide) hlevel _

theorem State.conditionOf_congr {s t : State} {i : Nat} (h : t.alarms.entry i = s.alarms.entry i) : t.conditionOf i = s.conditionOf i := by
  unfold State.conditionOf
  rw [h]

/-- Settles O32: the reading is stored, and outside the load the zone's cause, the pause request and the alarms are judged in turn. -/
theorem zoneVisitJudgesZone : Obligations.ZoneVisitJudgesZone := by
  intro s valid x hshape h1 h6 z old g counts
  have hcounts : readingCounts valid x = true ↔ counts := readingCounts_iff valid x
  have hnext : nextZone z = if z = 6 then 1 else z + 1 := by
    unfold nextZone
    split <;> split <;> omega
  obtain ⟨u, hu⟩ : ∃ u, u = s.visited valid x := ⟨_, rfl⟩
  have huz : u.heat.zone z = old.visited (readingCounts valid x) x := hu ▸ State.visited_zone hshape.zones rfl h1 h6 valid x
  have hune (j : Nat) (hj1 : 1 ≤ j) (hj : j ≠ z) : u.heat.zone j = s.heat.zone j := hu ▸ State.visited_zone_ne h1 hj1 hj valid x
  have hul : u.heat.zones.length = 6 := by
    rw [hu]
    exact (length_modifyAt _ _ _).trans hshape.zones
  have hreads (v : ZoneState) (hv : v.reading = (u.heat.zone z).reading ∧ v.lastInvalid = (u.heat.zone z).lastInvalid) :
      (counts → v.reading = some x ∧ v.lastInvalid = false) ∧ (¬counts → v.reading = old.reading ∧ v.lastInvalid = true) := by
    rw [hv.1, hv.2, huz]
    refine ⟨fun hc => ?_, fun hc => ?_⟩
    · simp [ZoneState.visited, hcounts.2 hc]
    · simp [ZoneState.visited, Bool.eq_false_iff.2 (mt hcounts.1 hc)]
  have hexec := exec_zoneVisit_eq valid x s
  rw [← hu] at hexec
  by_cases hload : s.loader.loaded = .loading
  · rw [if_pos hload] at hexec
    obtain ⟨hc, hn⟩ := hreads _ ⟨rfl, rfl⟩
    refine ⟨u, hexec, by rw [hu]; rfl, by rw [hu]; exact hnext, hune, hc, hn, fun _ => ⟨?_, by rw [hu]; rfl, by rw [hu]; rfl⟩,
      fun h => absurd hload h⟩
    rw [huz]
    rfl
  · rw [if_neg hload] at hexec
    obtain ⟨v, hv⟩ : ∃ v, v = u.caused z := ⟨_, rfl⟩
    obtain ⟨t, ht⟩ : ∃ t, t = u.judgeZone z := ⟨_, rfl⟩
    have hheat : t.heat = { v.heat with pauseRequest := v.pauseJudged } := by rw [ht, hv, State.judgeZone_heat]
    have hloader : t.loader = v.loader := by rw [ht, hv]; simp [State.caused]
    obtain ⟨hany, hall, hbad⟩ := State.zoneFindings_congr hloader (by rw [hheat] : t.heat.zones = v.heat.zones)
    have hzone (j : Nat) : t.heat.zone j = v.heat.zone j := by rw [hheat]; rfl
    have hvz : v.heat.zone z = { u.heat.zone z with cause := u.causeOf z (u.heat.zone z) } := hv ▸ State.caused_zone hul h1 h6
    have hvne (j : Nat) (hj1 : 1 ≤ j) (hj : j ≠ z) : v.heat.zone j = u.heat.zone j := hv ▸ State.caused_zone_ne h1 hj1 hj u
    have hcause : (v.heat.zone z).cause = judgedCause g s.coolOff (old.visited (readingCounts valid x) x) := by
      rw [hvz, huz, hu]
      rfl
    have hvalarms : v.alarms = s.alarms := by rw [hv, hu]; rfl
    have hvrequest : v.heat.pauseRequest = s.heat.pauseRequest := by rw [hv, hu]; rfl
    have hvsetting : v.zoneSetting z = g := by rw [hv, hu]; rfl
    have hjudge : t = (v.judgePause (u.freshZone z)).judgeSensor z := by rw [ht, hv, State.judgeZone_eq]
    have hpause : (v.judgePause (u.freshZone z)).alarms.entries.length = 40 := by simp [hvalarms, hshape.alarms]
    have hentry : t.alarms.entry Source.heatPause = (v.judgePause (u.freshZone z)).alarms.entry Source.heatPause := by
      rw [hjudge]
      exact State.judgeSensor_entry_ne _ _ (by decide)
    obtain ⟨hc, hn⟩ := hreads (v.heat.zone z) (by rw [hvz]; exact ⟨rfl, rfl⟩)
    rw [← ht] at hexec
    refine ⟨t, hexec, ?_, ?_, fun j hj1 hj => ?_, by rwa [hzone], by rwa [hzone], fun h => absurd h hload, fun _ => ?_⟩
    · rw [ht, hu]
      apply State.ext <;> simp [State.visited]
    · rw [hheat, hv, hu]
      exact hnext
    · rw [hzone, hvne j hj1 hj, hune j hj1 hj]
    · simp only [hzone]
      refine ⟨fun hg => ?_, fun hg hnc => ?_, fun hg hcs hle => ?_, fun ha => ?_, fun ha hr => ?_, fun ha hr => ?_,
        fun hnew hne hlevel => ?_, fun hp hq => ?_, fun hg hnc hlevel => ?_⟩
      · rw [hcause, judgedCause_disabled _ _ hg]
      · rw [hcause, judgedCause_invalid _ hg (by simp [ZoneState.visited, Bool.eq_false_iff.2 (mt hcounts.1 hnc)])]
      · rw [hcause, judgedCause_valid (r := x) _ hg (by simp [ZoneState.visited, hcounts.2 hcs]) (by simp [ZoneState.visited, hcounts.2 hcs])]
        have hkept : (old.visited (readingCounts valid x) x).cause = old.cause := rfl
        rw [hkept]
        refine ⟨fun h => if_pos h, fun h => ?_, fun hlo hhi hb1 hb2 => ?_, fun hlo hhi hb => ?_⟩
        · rw [if_neg (by omega), if_pos h]
        · rw [if_neg (by omega), if_neg (by omega), if_pos (by simp [inBand]; omega)]
        · rw [if_neg (by omega), if_neg (by omega), if_neg (by simp [inBand]; omega)]
      · rw [hheat]
        simp [State.pauseJudged, ← hany, ha]
      · rw [hheat]
        simp [State.pauseJudged, ← hany, ha, ← hall, hr]
      · rw [hheat]
        simp [State.pauseJudged, ← hany, ha, ← hall, hr, hvrequest]
      · have henabled : v.zoneEnabled z = true := by
          unfold State.zoneEnabled
          rw [hvsetting]
          by_contra hg
          exact hne (by rw [hcause, judgedCause_disabled _ _ (by simpa using hg)])
        have hjudged : v.pauseJudged = true := by
          simp [State.pauseJudged, State.anyCause_of_zone h1 h6 henabled hne]
        have hfresh : u.freshZone z = some z := by
          have hold : (u.heat.zone z).cause = old.cause := by rw [huz]; rfl
          have hu' : (v.heat.zone z).cause = u.causeOf z (u.heat.zone z) := by rw [hvz]
          unfold State.freshZone
          rw [if_pos]
          rw [← hu', hold]
          exact ⟨hnew, hne⟩
        rw [State.conditionOf_congr hentry, hentry, hfresh]
        exact State.judgePause_shows (by rw [hvalarms, hshape.alarms]) hjudged (by rwa [hvalarms])
      · rw [State.conditionOf_congr hentry]
        refine State.judgePause_ends _ ?_ (by rw [hvrequest, hp])
        rw [hheat] at hq
        exact hq
      · have hw := State.zoneFindings_congr (s := v) (t := v.judgePause (u.freshZone z)) (by simp) (by simp)
        rw [hjudge]
        refine State.judgeSensor_shows hpause ?_ ?_
        · rw [hw.2.2]
          unfold State.sensorBad State.zoneEnabled
          rw [hvsetting, hg, (hn hnc).2]
          rfl
        · rw [State.judgePause_entry_ne _ _ (by decide), hvalarms]
          exact hlevel

end Sys2Proof.Machine
end


section
/-! PROOFS. The searches, the cut, the loop and the tail of a wire (R70 to R79): what a request to reject leaves of the wire sequencer,
the alarm and the REJECT that a failed search or stitch brings together, and the completion of a wire. -/

namespace Sys2Proof.Machine

/-! ## A REJECT, with and without its alarm -/

/-- R4: what a REJECT asked for on a LOADED stage does to the wire sequencer: its count. -/
theorem State.requestReject_wire_loaded {u : Nat} {e : UnitEntry} (cause : RejectCause) {s : State} (h : s.unit? u = some e)
    (hl : s.stage.state = .loaded) :
    (s.requestReject u cause).wire = { s.wire with
      unitsRejected := if e.status = .isOpen then bump 99999999 s.wire.unitsRejected else s.wire.unitsRejected } := by
  rcases State.requestReject_cases cause h with ⟨-, ho, he⟩ | ⟨hn, he⟩
  · rw [he, if_pos ho]
    rfl
  · rw [he, if_neg (hn.resolve_left fun c => c hl)]

theorem State.setting_congr {α : Type} {s t : State} (h : t.loader = s.loader) (f : Program → α) (d : α) :
    t.setting f d = s.setting f d := by
  unfold State.setting State.program?
  rw [h]

theorem State.head_congr {s t : State} (h : t.loader = s.loader) (f : HeadSettings → Nat) : t.head f = s.head f :=
  State.setting_congr h _ _

/-- `v` is `s` after the HOLD event `i` was raised for wire `w` of unit `u`, and the unit's entry `e` asked to be REJECT. -/
structure RaisedReject (i u w : Nat) (e : UnitEntry) (cause : RejectCause) (s v : State) : Prop where
  unit : v.unit? u = some { e with status := if e.status = .isOpen then .reject cause else e.status }
  wire : v.wire = { s.wire with
    unitsRejected := if e.status = .isOpen then bump 99999999 s.wire.unitsRejected else s.wire.unitsRejected }
  ports : v.ports = s.ports
  control : v.control = { s.control with holdRequest := true }
  energy : v.energy = s.energy
  loader : v.loader = s.loader
  state : (v.alarms.entry i).state = .active
  detail : (v.alarms.entry i).detail = .unitWire u w

theorem State.raisedReject {i u w : Nat} {e : UnitEntry} (cause : RejectCause) {s : State} (hi : i < s.alarms.entries.length)
    (hv : isEvent i = true) (hc : localClass i = .hold) (hl : s.stage.state = .loaded) (he : s.unit? u = some e) :
    RaisedReject i u w e cause s ((s.raiseAlarm i (.unitWire u w)).requestReject u cause) := by
  obtain ⟨hstate, hdetail, hcontrol⟩ := State.raiseAlarm_holdEvent hi hv hc (.unitWire u w)
  obtain ⟨r, hr⟩ : ∃ r, r = s.raiseAlarm i (.unitWire u w) := ⟨_, rfl⟩
  rw [← hr] at hstate hdetail hcontrol ⊢
  have hrecord : r.unit? u = some e := (State.unit?_congr (by rw [hr]; simp) u).trans he
  have hloaded : r.stage.state = .loaded := by rw [hr]; simpa using hl
  exact {
    unit := State.requestReject_unit cause hrecord hloaded
    wire := by
      rw [State.requestReject_wire_loaded cause hrecord hloaded]
      simp [hr]
    ports := by simp [hr]
    control := by simpa using hcontrol
    energy := by simp [hr]
    loader := by simp [hr]
    state := by simpa using hstate
    detail := by simpa using hdetail }

/-! ## What a debit leaves (R79) -/

theorem State.debit_idle {s : State} {f : WireInFlight} (hf : s.wire.inFlight = some f) :
    s.debit.wireIdle.wire = { s.wire with
      cycle := .idle
      awaits := .none
      inFlight := none
      stock := if f.debit = .due then s.wire.stock - f.use else s.wire.stock } := by
  rw [State.wireIdle_wire, State.debit_wire hf]
  split <;> rfl

/-- R79: a debit that leaves the stock under the threshold leaves WIRE_LOW's condition present. -/
theorem State.debit_wireLow {s : State} {f : WireInFlight} (hl : s.alarms.entries.length = 40) (hf : s.wire.inFlight = some f)
    (hd : f.debit = .due) (hlow : s.wire.stock - f.use < s.head (·.lowStock))
    (hlevel : (s.alarms.entry Source.wireLow).level ≠ 0) : s.debit.conditionOf Source.wireLow = true := by
  obtain ⟨u, hu⟩ : ∃ u : State, u = { s with wire := { s.wire with
      stock := s.wire.stock - f.use, inFlight := some { f with debit := .taken } } } := ⟨_, rfl⟩
  have hdebit : s.debit = u.judgeStock := by
    unfold State.debit
    simp only [hf, hd, if_true, hu]
  have hstock : u.wire.stock < u.head (·.lowStock) := by rw [hu]; exact hlow
  have halarms : u.alarms = s.alarms := by rw [hu]
  rw [hdebit]
  unfold State.judgeStock
  split
  · exact (State.raiseAlarm_shows (by decide) (by rw [halarms, hl]) (by decide) (by rwa [halarms]) _).2.1
  · next h => simpa [hstock] using h

/-- Settles O45, phase by phase: each contact and each limit, the return after a missing die, and the end of a cut. -/
theorem searchesFindBothBonds : Obligations.SearchesFindBothBonds := by
  refine ⟨fun s f hf hc => ?_, fun s f x hf ha => ⟨fun hc => ?_, fun hc => ?_⟩, ?_, fun s hc ha => congrArg _ (if_pos ⟨hc, ha⟩),
    fun s f hshape hf ha hc => ?_⟩
  · have hexec : exec .toFirstInPosition s = .next (s.startSearch f.bondClass .first .searchFirst) := by
      show Host.Outcome.next _ = _
      simp only [hf, hc, if_true]
    exact hexec
  · have hexec : exec (.searchFirstContact x) s = .next (State.startBond f.bondClass .first x
        { s with wire := { s.wire with cycle := .bondFirst, inFlight := some { f with bondEntered := true } } }) := by
      show Host.Outcome.next _ = _
      simp only [hf, hc, ha, and_self, if_true]
    exact ⟨_, _, hexec, rfl, rfl, rfl, rfl, rfl, rfl, rfl, rfl, rfl⟩
  · have hexec : exec (.searchSecondContact x) s = .next (State.startBond f.bondClass .second x
        { s with wire := { s.wire with cycle := .bondSecond } }) := by
      show Host.Outcome.next _ = _
      simp only [hf, hc, ha, and_self, if_true]
    exact ⟨_, _, hexec, rfl, rfl, rfl, rfl, rfl, rfl, rfl, rfl, rfl⟩
  · intro s f hshape hf ha hl e he rejected count
    refine ⟨fun hc => ?_, fun hc => ?_⟩
    · obtain ⟨u, hu⟩ : ∃ u, u = s.requestReject f.unit .noSurface := ⟨_, rfl⟩
      obtain ⟨v, hv⟩ : ∃ v, v = u.raiseAlarm Source.missingDie (.unitWire f.unit f.wire) := ⟨_, rfl⟩
      have hexec : exec .searchFirstLimit s = .next { v with
          wire := { v.wire with awaits := .missingDieReturn }, ports := { v.ports with z := .moveTo (v.head (·.searchHeight)) } } := by
        show Host.Outcome.next _ = _
        simp only [hf, hc, ha, and_self, if_true, hv, hu]
      have hrecord : v.stage.record = u.stage.record := by simp [hv]
      have hloader : v.loader = s.loader := by simp [hv, hu]
      refine ⟨_, hexec, ?_, ?_, ?_, ?_, ?_, fun hlevel => ?_⟩
      · refine (State.unit?_congr (s := v) rfl _).trans ((State.unit?_congr hrecord _).trans ?_)
        rw [hu]
        exact State.requestReject_unit _ he hl
      · have hwire : v.wire = u.wire := by simp [hv]
        dsimp only
        rw [hwire, hu, State.requestReject_wire_loaded _ he hl]
      · dsimp only
        rw [State.head_congr hloader, hv, hu]
        simp
      · dsimp only
        rw [hv, State.raiseAlarm_control_of_not_hold _ _ (by decide), hu]
        simp
      · simp [hv, hu]
      · dsimp only
        rw [hv]
        exact State.raiseAlarm_event (by decide) (AlarmUnit.disabled_of_level (by simpa [hu] using hlevel))
          (by simp [hu, hshape.alarms]; decide) _
    · obtain ⟨v, hv⟩ : ∃ v, v = (s.raiseAlarm Source.searchFail2 (.unitWire f.unit f.wire)).requestReject f.unit .noSurface := ⟨_, rfl⟩
      have hexec : exec .searchSecondLimit s = .next v.startCut := by
        show Host.Outcome.next _ = _
        simp only [hf, hc, ha, and_self, if_true, hv]
      have hreject : RaisedReject Source.searchFail2 f.unit f.wire e .noSurface s v :=
        hv ▸ State.raisedReject _ (by rw [hshape.alarms]; decide) (by decide) (by decide) hl he
      refine ⟨_, hexec, hreject.unit, ?_, ?_, hreject.control, hreject.energy, hreject.state, hreject.detail⟩
      · rw [State.startCut_wire, hreject.wire]
      · rw [State.startCut_ports, hreject.ports, State.head_congr hreject.loader]
  · refine ⟨s.debit.wireIdle, congrArg _ (if_pos ⟨hc, ha⟩), State.debit_idle hf, by simp, fun hd hlow hlevel => ?_⟩
    exact State.debit_wireLow hshape.alarms hf hd hlow hlevel

/-! ## The completion of a wire (R5, R7, R78) -/

theorem modifyAt_eq_set {α : Type} (f : α → α) {i : Nat} {l : List α} {x : α} (h : l[i]? = some x) : modifyAt f i l = l.set i (f x) := by
  induction l generalizing i with
  | nil => simp at h
  | cons y ys ih =>
    cases i with
    | zero =>
      obtain rfl : y = x := by simpa using h
      rfl
    | succ i => simp [modifyAt, ih (by simpa using h)]

theorem segmentComplete_iff (p : Program) (k : Nat) (g : Progress) :
    segmentComplete p k g = true ↔ (segmentOf p k).last < (segmentOf p k).first ∨ g.next = (segmentOf p k).last + 1 := by
  simp [segmentComplete, segmentEmpty]

/-- R5: every carried segment is complete, each by itself. -/
theorem allComplete_iff (p : Program) (k : Nat) (l : List Progress) :
    allComplete p k l = true ↔ ∀ j x, l[j]? = some x → segmentComplete p (k + j) x = true := by
  induction l generalizing k with
  | nil => simp [allComplete]
  | cons y ys ih =>
    rw [allComplete, Bool.and_eq_true, ih]
    refine ⟨fun ⟨hy, hys⟩ j x hj => ?_, fun h => ⟨h 0 y rfl, fun j x hj => ?_⟩⟩
    · cases j with
      | zero =>
        obtain rfl : y = x := by simpa using hj
        exact hy
      | succ j =>
        have := hys j x (by simpa using hj)
        rwa [show k + (j + 1) = k + 1 + j by omega]
    · have := h (j + 1) x (by simpa using hj)
      rwa [show k + (j + 1) = k + 1 + j by omega] at this

/-- R7: the progress entry after a completion, by what its attribution says. -/
theorem Progress.completed_eq (g : Progress) (k w first : Nat) :
    Progress.completed g k w first =
      if g.startedBy = 0 then ⟨g.next + 1, k, k, first⟩
      else if k ≠ g.startedBy ∧ g.finishedBy = g.startedBy then ⟨g.next + 1, g.startedBy, k, w⟩
      else ⟨g.next + 1, g.startedBy, g.finishedBy, g.split⟩ := by
  unfold Progress.completed
  dsimp only
  (repeat' split) <;> rfl

/-- R78: what a completion on an OPEN unit of a LOADED stage does. -/
theorem State.completeWire_open {s : State} {f : WireInFlight} {p : Program} {e : UnitEntry} (hp : s.program? = some p)
    (he : s.unit? f.unit = some e) (hl : s.stage.state = .loaded) (ho : e.status = .isOpen) :
    let e' := UnitEntry.completed p e s.straps.station f.wire f.segment
    (s.completeWire f).unit? f.unit = some e' ∧
    (s.completeWire f).wire = { s.wire with
      wiresBonded := bump 99999999 s.wire.wiresBonded
      unitsDone := if e'.status = .done then bump 99999999 s.wire.unitsDone else s.wire.unitsDone } := by
  intro e'
  have hc : s.completeWire f = { s.setUnit f.unit e' with
      wire := { s.wire with
        wiresBonded := bump Config.runningCap s.wire.wiresBonded
        unitsDone := if decide (e'.status = .done) then bump Config.runningCap s.wire.unitsDone else s.wire.unitsDone }
      screen := if decide (e'.status = .done) then (s.screen.raise .wireDone).raise .unitChange else s.screen.raise .wireDone } := by
    unfold State.completeWire
    simp only [hp, he, ho, State.workMayChange, hl, decide_true, and_self, if_true]
    rfl
  rw [hc]
  refine ⟨(State.unit?_congr (s := s.setUnit f.unit e') rfl _).trans (State.unit?_setUnit_self _ he), ?_⟩
  dsimp only
  by_cases hd : e'.status = .done <;> simp [hd, Config.runningCap]

theorem State.completeWire_closed {s : State} {f : WireInFlight} {e : UnitEntry} (he : s.unit? f.unit = some e)
    (ho : e.status ≠ .isOpen) : s.completeWire f = s := by
  unfold State.completeWire
  split
  · next e' _ he' =>
    obtain rfl : e = e' := by rw [he] at he'; exact Option.some.inj he'
    exact if_neg fun h => ho h.2
  · rfl

/-- Settles O46: the lift and the tail rise by continuity, and the completion by the unit's status. -/
theorem loopAndTailCompleteWire : Obligations.LoopAndTailCompleteWire := by
  refine ⟨?_, ?_⟩
  · intro s f e hshape hf hl he rejected count
    refine ⟨fun hc ha => ⟨?_, ?_⟩, fun hc ha => ?_, fun hc ha => ⟨?_, ?_⟩⟩
    · have hexec : exec (.loopLiftInPosition true) s = .next (s.startLoop f) := by
        show Host.Outcome.next _ = _
        simp only [hf, hc, ha, and_self, if_true]
      exact ⟨_, hexec, rfl, rfl, rfl⟩
    · obtain ⟨v, hv⟩ : ∃ v, v = (s.raiseAlarm Source.nonStick1 (.unitWire f.unit f.wire)).requestReject f.unit .nonStick1 := ⟨_, rfl⟩
      have hexec : exec (.loopLiftInPosition false) s = .next v.startCut := by
        show Host.Outcome.next _ = _
        simp only [hf, hc, ha, and_self, if_true, Bool.false_eq_true, if_false, hv]
      have hreject : RaisedReject Source.nonStick1 f.unit f.wire e .nonStick1 s v :=
        hv ▸ State.raisedReject _ (by rw [hshape.alarms]; decide) (by decide) (by decide) hl he
      refine ⟨_, hexec, hreject.unit, ?_, ?_, hreject.control, hreject.state, hreject.detail⟩
      · rw [State.startCut_wire, hreject.wire]
      · rw [State.startCut_ports, hreject.ports, State.head_congr hreject.loader]
    · have hexec : exec .loopMotionInPosition s = .next (s.startSearch f.bondClass .second .searchSecond) := by
        show Host.Outcome.next _ = _
        simp only [hf, hc, ha, and_self, if_true]
      exact hexec
    · have hexec : exec (.tailRiseInPosition true) s = .next s.startTear := by
        show Host.Outcome.next _ = _
        simp only [hf, hc, ha, and_self, if_true]
      exact ⟨_, hexec, rfl, rfl, rfl⟩
    · obtain ⟨v, hv⟩ : ∃ v, v = (s.raiseAlarm Source.nonStick2 (.unitWire f.unit f.wire)).requestReject f.unit .nonStick2 := ⟨_, rfl⟩
      have hexec : exec (.tailRiseInPosition false) s = .next v.startTear := by
        show Host.Outcome.next _ = _
        simp only [hf, hc, ha, and_self, if_true, Bool.false_eq_true, if_false, hv]
      have hreject : RaisedReject Source.nonStick2 f.unit f.wire e .nonStick2 s v :=
        hv ▸ State.raisedReject _ (by rw [hshape.alarms]; decide) (by decide) (by decide) hl he
      refine ⟨_, hexec, hreject.unit, ?_, ?_, hreject.control, hreject.state, hreject.detail⟩
      · rw [State.startTear_wire, hreject.wire]
      · rw [State.startTear_ports, hreject.ports, State.head_congr hreject.loader]
  · intro s f p e g hshape hf hp hl he h1 hg hc ha k first g1 all
    obtain ⟨u, hu⟩ : ∃ u, u = s.debit := ⟨_, rfl⟩
    obtain ⟨v, hv⟩ : ∃ v, v = u.completeWire f := ⟨_, rfl⟩
    have hexec : exec .tailingEnd s = .next { v with
        wire := { v.wire with cycle := .flaming, awaits := .fire }, ports := { v.ports with fire := true } } := by
      show Host.Outcome.next _ = _
      simp only [hf, hc, ha, and_self, if_true, hv, hu]
    have hstage : u.stage = s.stage := by simp [hu]
    have hunit : u.unit? f.unit = some e := (State.unit?_congr (by rw [hstage]) _).trans he
    have hprogram : u.program? = some p := by
      rw [← hp]
      simp [State.program?, hu]
    have hwire : u.wire = if f.debit = .due then
        { s.wire with stock := s.wire.stock - f.use, inFlight := some { f with debit := .taken } } else s.wire := by
      rw [hu, State.debit_wire hf]
    have hcounts : u.wire.wiresBonded = s.wire.wiresBonded ∧ u.wire.unitsDone = s.wire.unitsDone ∧
        u.wire.ballReady = s.wire.ballReady ∧
        u.wire.stock = if f.debit = .due then s.wire.stock - f.use else s.wire.stock := by
      rw [hwire]
      split <;> exact ⟨rfl, rfl, rfl, rfl⟩
    obtain ⟨hbonded, hdone, hball, hstock⟩ := hcounts
    have hrest : v.wire.stock = u.wire.stock ∧ v.wire.ballReady = u.wire.ballReady := by
      by_cases ho : e.status = .isOpen
      · rw [hv, (State.completeWire_open hprogram hunit (by rwa [hstage]) ho).2]
        exact ⟨rfl, rfl⟩
      · rw [hv, State.completeWire_closed hunit ho]
        exact ⟨rfl, rfl⟩
    refine ⟨_, hexec, rfl, rfl, ?_, hrest.1.trans hstock, hrest.2.trans hball, by simp [hv, hu], fun ho => ?_, fun ho => ?_⟩
    · simp [hv, hu]
    · obtain ⟨e', he'⟩ : ∃ e', e' = UnitEntry.completed p e u.straps.station f.wire f.segment := ⟨_, rfl⟩
      have hopen := State.completeWire_open hprogram hunit (by rwa [hstage]) ho
      dsimp only at hopen
      rw [← he', ← hv] at hopen
      have hprogress : modifyAt (fun g => Progress.completed g u.straps.station f.wire (segmentOf p f.segment).first)
          (f.segment - 1) e.progress = e.progress.set (f.segment - 1) g1 := by
        rw [modifyAt_eq_set _ hg, Progress.completed_eq]
        simp [hu, g1, k, first]
      have hentry : e' = { e with
          progress := e.progress.set (f.segment - 1) g1
          status := if allComplete p 1 (e.progress.set (f.segment - 1) g1) then .done else e.status } := by
        rw [he']
        unfold UnitEntry.completed
        dsimp only
        rw [hprogress]
      have hall : allComplete p 1 (e.progress.set (f.segment - 1) g1) = true ↔ all := by
        rw [allComplete_iff]
        refine forall₃_congr fun j x _ => ?_
        rw [segmentComplete_iff, Nat.add_comm 1 j]
      refine ⟨?_, fun ha => ?_, fun hna => ?_⟩
      · show v.wire.wiresBonded = _
        rw [hopen.2, hbonded]
      · rw [if_pos (hall.2 ha)] at hentry
        refine ⟨?_, ?_⟩
        · rw [← hentry]
          exact hopen.1
        · show v.wire.unitsDone = _
          rw [hopen.2, hdone]
          exact if_pos (by rw [hentry])
      · rw [if_neg (mt hall.1 hna)] at hentry
        refine ⟨?_, ?_⟩
        · rw [show ({ e with progress := e.progress.set (f.segment - 1) g1 } : UnitEntry) = e' from hentry.symm]
          exact hopen.1
        · show v.wire.unitsDone = _
          rw [hopen.2, hdone]
          exact if_neg (by rw [hentry, ho]; simp)
    · have hclosed : v = u := hv.trans (State.completeWire_closed hunit ho)
      exact ⟨by simpa [hclosed] using hstage, by simpa [hclosed] using hbonded, by simpa [hclosed] using hdone⟩

end Sys2Proof.Machine
end


section
/-! PROOFS. The stage's choice of work and cover (R41 to R44): the columns looked through in order, the leave step, and cover wait, which a
changed roster entry of the spare alone may end. -/

namespace Sys2Proof.Machine

/-! ## Numbers in order -/

theorem countFrom_eq (i n : Nat) : countFrom i n = List.range' i n := by
  induction n generalizing i with
  | zero => rfl
  | succ n ih => rw [countFrom, ih, List.range'_succ]

/-- R41: the lowest column with work. -/
theorem State.workColumn_eq_some {s : State} {c : Nat} (h1 : 1 ≤ c) (hc : c ≤ s.columns) (hw : s.columnHasWork c = true)
    (hlow : ∀ j, 1 ≤ j → j < c → s.columnHasWork j = false) : s.workColumn = some c := by
  unfold State.workColumn
  rw [countFrom_eq, List.find?_range'_eq_some]
  exact ⟨hw, List.mem_range'_1.2 ⟨h1, by omega⟩, fun j hj1 hj => by simp [hlow j hj1 hj]⟩

theorem State.workColumn_eq_none {s : State} (h : ∀ c, 1 ≤ c → c ≤ s.columns → s.columnHasWork c = false) : s.workColumn = none := by
  unfold State.workColumn
  rw [countFrom_eq, List.find?_eq_none]
  intro c hc
  obtain ⟨h1, h2⟩ := List.mem_range'_1.1 hc
  simp [h c h1 (by omega)]

/-! ## What gives a column work (R65, R106) -/

theorem State.worksSegment_iff (s : State) (p : Program) (k : Nat) :
    s.worksSegment p k = true ↔ s.straps.role = .head ∧ s.control.head = .headIn ∧
      (k = s.straps.station ∨ (k < s.straps.station ∧ spareOf p k = s.straps.station)) := by
  simp [State.worksSegment, and_assoc]

/-- R65, R106: this station has work on segment `k` with progress `g`. -/
def State.WireLeft (s : State) (p : Program) (k : Nat) (g : Progress) : Prop :=
  s.worksSegment p k = true ∧ segmentComplete p k g = false

/-- R65: `(w, k)` is the lowest next wire of a unit whose segments from `k₀` upward have the progress listed. -/
structure State.LowestIs (s : State) (p : Program) (k₀ : Nat) (l : List Progress) (w k : Nat) : Prop where
  stands : ∃ g, k₀ ≤ k ∧ l[k - k₀]? = some g ∧ s.WireLeft p k g ∧ g.next = w
  least : ∀ j x, k₀ ≤ j → l[j - k₀]? = some x → s.WireLeft p j x → w ≤ x.next

theorem getElem?_cons_above {α : Type} {y : α} {ys : List α} {j k : Nat} (h : k + 1 ≤ j) : (y :: ys)[j - k]? = ys[j - (k + 1)]? := by
  rw [show j - k = (j - (k + 1)) + 1 by omega]
  rfl

/-- R65: what the search through a unit's segments finds. -/
theorem State.lowestWire_spec (s : State) (p : Program) (k₀ : Nat) (l : List Progress) :
    (∀ w k, s.lowestWire p k₀ l = some (w, k) → s.LowestIs p k₀ l w k) ∧
    (s.lowestWire p k₀ l = none → ∀ j x, k₀ ≤ j → l[j - k₀]? = some x → ¬s.WireLeft p j x) := by
  induction l generalizing k₀ with
  | nil => exact ⟨fun w k h => by simp [State.lowestWire] at h, fun _ j x _ hx => by simp at hx⟩
  | cons y ys ih =>
    obtain ⟨ihsome, ihnone⟩ := ih (k₀ + 1)
    have hcases (Q : Nat → Progress → Prop) (hy : Q k₀ y) (hys : ∀ j x, k₀ + 1 ≤ j → ys[j - (k₀ + 1)]? = some x → Q j x) (j : Nat)
        (x : Progress) (hj : k₀ ≤ j) (hx : (y :: ys)[j - k₀]? = some x) : Q j x := by
      by_cases hjk : j = k₀
      · subst hjk
        obtain rfl : y = x := by simpa using hx
        exact hy
      · exact hys j x (by omega) (by rwa [← getElem?_cons_above (by omega)])
    have hlift {w k : Nat} (h : s.LowestIs p (k₀ + 1) ys w k) : ∃ g, k₀ ≤ k ∧ (y :: ys)[k - k₀]? = some g ∧ s.WireLeft p k g ∧ g.next = w := by
      obtain ⟨g, hk, hg, hleft, hw⟩ := h.stands
      exact ⟨g, by omega, by rwa [getElem?_cons_above hk], hleft, hw⟩
    rw [State.lowestWire]
    by_cases hleft : s.WireLeft p k₀ y
    · have hhead : ∃ g, k₀ ≤ k₀ ∧ (y :: ys)[k₀ - k₀]? = some g ∧ s.WireLeft p k₀ g ∧ g.next = y.next :=
        ⟨y, le_refl _, by simp, hleft, rfl⟩
      simp only [hleft.1, hleft.2, Bool.not_false, Bool.and_true, if_true]
      cases hl : s.lowestWire p (k₀ + 1) ys with
      | none =>
        refine ⟨fun w k h => ?_, fun h => by simp at h⟩
        obtain ⟨rfl, rfl⟩ : y.next = w ∧ k₀ = k := by simpa using h
        exact ⟨hhead, hcases _ (fun _ => le_refl _) fun j x hj hx hjl => absurd hjl (ihnone hl j x hj hx)⟩
      | some a =>
        obtain ⟨v, i⟩ := a
        have hlow := ihsome v i hl
        refine ⟨fun w k h => ?_, fun h => by dsimp only at h; split at h <;> contradiction⟩
        dsimp only at h
        split at h
        · next hlt =>
          obtain ⟨rfl, rfl⟩ : v = w ∧ i = k := by simpa using h
          exact ⟨hlift hlow, hcases _ (fun _ => hlt.le) hlow.least⟩
        · next hle =>
          obtain ⟨rfl, rfl⟩ : y.next = w ∧ k₀ = k := by simpa using h
          exact ⟨hhead, hcases _ (fun _ => le_refl _) fun j x hj hx hjl => (not_lt.1 hle).trans (hlow.least j x hj hx hjl)⟩
    · have hnot : (s.worksSegment p k₀ && !segmentComplete p k₀ y) = false := by
        rw [Bool.eq_false_iff]
        intro h
        simp only [Bool.and_eq_true, Bool.not_eq_true'] at h
        exact hleft h
      simp only [hnot, Bool.false_eq_true, if_false]
      exact ⟨fun w k h => ⟨hlift (ihsome w k h), hcases _ (fun h => absurd h hleft) (ihsome w k h).least⟩,
        fun h => hcases _ hleft (ihnone h)⟩

/-- R65: a station that works no segment finds no wire. -/
theorem State.lowestWire_of_idle {s : State} {p : Program} (h : ∀ k, s.worksSegment p k = false) (l : List Progress) (k₀ : Nat) :
    s.lowestWire p k₀ l = none := by
  cases hl : s.lowestWire p k₀ l with
  | none => rfl
  | some a =>
    obtain ⟨g, -, -, hleft, -⟩ := ((s.lowestWire_spec p k₀ l).1 a.1 a.2 hl).stands
    simp [h, State.WireLeft] at hleft

/-- R41, R106: a HEAD with its head OUT, and an untracked record, give no column work. -/
theorem State.columnHasWork_of_none {s : State} (h : (s.straps.role = .head ∧ s.control.head = .headOut) ∨ s.tracked? = none) (c : Nat) :
    s.columnHasWork c = false := by
  rcases h with ⟨hr, hh⟩ | ht
  · have hworks (p : Program) (k : Nat) : s.worksSegment p k = false := by simp [State.worksSegment, hh]
    have hunit (p : Program) (t : TrackedPart) (u : Nat) : s.wireOnUnit p t u = none := by
      unfold State.wireOnUnit
      simp only [State.lowestWire_of_idle (hworks p), Option.map_none]
      (repeat' split) <;> rfl
    have hwire : s.nextWire c = none := by
      unfold State.nextWire
      split
      · exact List.findSome?_eq_none_iff.2 fun u _ => hunit _ _ u
      · rfl
    unfold State.columnHasWork
    rw [hr]
    simp [hwire]
  · have hrecord : ∀ r, s.stage.record = some r → r.tracked = none := fun r hr => by simpa [State.tracked?, hr] using ht
    have hwire : s.nextWire c = none := by
      unfold State.nextWire
      rw [ht]
      split <;> simp_all
    have hpull : s.nextPull c = none := by
      unfold State.nextPull
      split
      · next r _ hr => simp [hrecord r hr]
      · rfl
    have hheld : s.auditHeld c = false := by
      unfold State.auditHeld
      rw [ht]
      split <;> simp_all
    unfold State.columnHasWork
    split
    · simp [hwire]
    · simp [hpull, hheld]

/-! ## Cover (R43, R44) -/

theorem State.coverBy_iff (s : State) (k : Nat) :
    s.coverBy k = true ↔ k ≠ 0 ∧ ∃ i, (s.rosterEntry k).identity = some i ∧
      ∃ r, (s.rosterEntry k).report = some r ∧ r.head = .headIn ∧ r.station ≠ .stopped := by
  unfold State.coverBy
  rcases s.rosterEntry k with ⟨_ | i, _ | r⟩ <;> simp

/-- R43: cover is needed, each condition by itself. -/
theorem State.coverNeeded_iff (s : State) :
    s.coverNeeded = true ↔ s.straps.role = .head ∧ s.control.head = .headOut ∧
      ∃ p tk, s.program? = some p ∧ s.tracked? = some tk ∧
        (segmentOf p s.straps.station).first ≤ (segmentOf p s.straps.station).last ∧
        ∃ e ∈ tk.table, e.status = .isOpen ∧ ∃ g, e.progress[s.straps.station - 1]? = some g ∧
          g.next ≠ (segmentOf p s.straps.station).last + 1 := by
  unfold State.coverNeeded
  cases hp : s.program? with
  | none => simp
  | some p =>
    cases ht : s.tracked? with
    | none => simp
    | some tk =>
      have hwork (hne : (segmentOf p s.straps.station).first ≤ (segmentOf p s.straps.station).last) :
          s.ownWorkLeft p tk = true ↔ ∃ e ∈ tk.table, e.status = .isOpen ∧ ∃ g, e.progress[s.straps.station - 1]? = some g ∧
            g.next ≠ (segmentOf p s.straps.station).last + 1 := by
        unfold State.ownWorkLeft
        rw [List.any_eq_true]
        refine exists_congr fun e => and_congr_right fun _ => ?_
        rw [Bool.and_eq_true, decide_eq_true_iff]
        refine and_congr_right fun _ => ?_
        cases e.progress[s.straps.station - 1]? with
        | none => simp
        | some g => simp [segmentComplete, segmentEmpty, hne]
      simp only [Bool.and_eq_true, decide_eq_true_eq, Bool.not_eq_true', segmentEmpty, decide_eq_false_iff_not, not_lt,
        Option.some.injEq, exists_and_left, exists_eq_left', and_assoc]
      refine and_congr_right fun _ => and_congr_right fun _ => and_congr_right fun hne => ?_
      simpa only [exists_and_left] using hwork hne

theorem State.columnDone_cover (s : State) :
    s.columnDone.coverNeeded = s.coverNeeded ∧ s.columnDone.ownSpare = s.ownSpare ∧
    (∀ k, s.columnDone.coverBy k = s.coverBy k) ∧ s.columnDone.stage = { s.stage with working := s.columnDone.stage.working } ∧
    s.columnDone = { s with stage := s.columnDone.stage, screen := s.columnDone.screen } := by
  unfold State.columnDone
  split <;> exact ⟨rfl, rfl, fun _ => rfl, rfl, rfl⟩

/-- R43: a leave step with the cover it needs, or with none needed. -/
theorem State.leaveStep_leaves {s : State} (h : s.coverNeeded = false ∨ s.coverBy s.ownSpare = true) :
    s.leaveStep = s.endCoverWait.setStage .finished := by
  unfold State.leaveStep
  rw [if_neg]
  rcases h with h | h <;> simp [h]

/-- R43: a leave step that lacks the cover it needs. -/
theorem State.leaveStep_waits {s : State} (hn : s.coverNeeded = true) (hc : s.coverBy s.ownSpare = false) :
    s.leaveStep = if s.stage.coverWait then s
      else (s.setStageUnit fun g => { g with coverWait := true }).raiseAlarm Source.noCover (.station s.ownSpare) := by
  unfold State.leaveStep
  rw [if_pos (by simp [hn, hc])]

theorem exec_stageChooseWork_eq {s : State} (hl : s.stage.state = .loaded) (hi : s.stage.indexMotion = none) (hw : s.wire.cycle = .idle)
    (hp : s.pull.cycle = .idle) :
    exec .stageChooseWork s = .next
      (match s.control.station, s.workColumn with
      | .run, some c =>
        if c = s.stage.column then s.setStageUnit fun g => { g with working := true } else s.columnDone.startIndex c
      | .run, none => s.columnDone.leaveStep
      | .paused, none => s.columnDone.leaveStep
      | _, _ => s) :=
  congrArg _ (if_neg (by simp [hl, hi, State.cycleInFlight, hw, hp]))

/-! ### What a judgement of cover reads, and what leaves it as it was -/

structure KeepsCover (s t : State) : Prop where
  straps : t.straps = s.straps
  loader : t.loader = s.loader
  roster : t.line.roster = s.line.roster
  head : t.control.head = s.control.head
  state : t.stage.state = s.stage.state
  wait : t.stage.coverWait = s.stage.coverWait
  entry : t.alarms.entry Source.noCover = s.alarms.entry Source.noCover

namespace KeepsCover

theorem of_settles {s t : State} (h : Settles s t) (hhead : t.control.head = s.control.head)
    (hwait : t.stage.coverWait = s.stage.coverWait) (hentry : t.alarms.entry Source.noCover = s.alarms.entry Source.noCover) :
    KeepsCover s t := ⟨h.straps, h.loader, h.line.roster, hhead, h.stage.1, hwait, hentry⟩

theorem refl (s : State) : KeepsCover s s := ⟨rfl, rfl, rfl, rfl, rfl, rfl, rfl⟩

theorem trans {s t u : State} (h : KeepsCover s t) (k : KeepsCover t u) : KeepsCover s u :=
  ⟨k.straps.trans h.straps, k.loader.trans h.loader, k.roster.trans h.roster, k.head.trans h.head, k.state.trans h.state,
    k.wait.trans h.wait, k.entry.trans h.entry⟩

theorem judgeRoster (s : State) : KeepsCover s s.judgeRoster := by
  refine of_settles (.judgeRoster s) (by simp) (by simp) ?_
  unfold State.judgeRoster State.judgeGap
  split
  · rfl
  · dsimp only
    split
    · rw [State.conditionGone_entry_ne _ (by decide), State.judgeFinding_entry_ne _ _ (by decide),
        State.judgeFinding_entry_ne _ _ (by decide)]
    · rw [State.judgeFinding_entry_ne _ _ (by decide), State.judgeFinding_entry_ne _ _ (by decide)]

theorem tryReady (s : State) : KeepsCover s s.tryReady := by
  refine of_settles (.tryReady s) (by simp) (by simp) ?_
  unfold State.tryReady
  split <;> simp

theorem setStation (st : StationState) (s : State) : KeepsCover s (s.setStation st) :=
  of_settles (.setStation st s) (by simp) (by simp) (by simp)

theorem sendPresent (s : State) : KeepsCover s s.sendPresent :=
  of_settles (.sendPresent s) (by simp) (by simp) (by simp)

theorem enterRollCall (s : State) : KeepsCover s s.enterRollCall := by
  have htimer (r : State) : KeepsCover r { r with line := { r.line with rollCallTimer := .running Config.rollCallTime } } :=
    ⟨rfl, rfl, rfl, rfl, rfl, rfl, rfl⟩
  exact (setStation .rollcall s).trans ((sendPresent _).trans ((htimer _).trans ((judgeRoster _).trans (.tryReady _))))

theorem leaveStopped (s : State) : KeepsCover s s.leaveStopped := by
  unfold State.leaveStopped
  split
  · exact .setStation _ _
  · split
    · exact .setStation _ _
    · exact .enterRollCall _

theorem settleStop (s : State) : KeepsCover s s.settleStop := by
  unfold State.settleStop
  split
  · exact of_settles (.enterStopped s) (by simp) (by rw [(State.enterStopped_aside s).stage])
      (State.enterStopped_entry_ne s (by decide))
  · exact .refl s

theorem settle (s : State) : KeepsCover s s.settle := by
  unfold State.settle
  split
  · exact (leaveStopped s).trans (.settleStop _)
  · exact .settleStop s

theorem answerPresent (b : Bool) (known : List Nat) (s : State) : KeepsCover s (s.answerPresent b known) :=
  of_settles (.answerPresent b known s) (by simp) (by simp) (by simp)

theorem ownSpare {s t : State} (h : KeepsCover s t) : t.ownSpare = s.ownSpare := by
  unfold State.ownSpare
  rw [h.straps, State.setting_congr h.loader]

theorem coverBy {s t : State} (h : KeepsCover s t) {k : Nat} (hk : s.IsPeer k) : t.coverBy k = s.coverBy k := by
  have hentry : t.rosterEntry k = s.rosterEntry k := by
    unfold State.rosterEntry
    rw [h.straps, if_neg hk.2.2, if_neg hk.2.2, h.roster]
  unfold State.coverBy
  rw [hentry]

end KeepsCover

/-- R44: cover is judged where the entry heard of is the spare's, and by it alone with the head OUT. -/
theorem State.rosterHeard_cover {s : State} {k : Nat} (hk : s.IsPeer k) (hb : s.control.station ≠ .boot)
    (hw : s.stage.coverWait = true) (hh : s.control.head = .headOut) :
    (s.rosterHeard k).stage.state = s.stage.state ∧
    (k = s.ownSpare → s.coverBy k = true →
      (s.rosterHeard k).stage.coverWait = false ∧ (s.rosterHeard k).conditionOf Source.noCover = false) ∧
    (k ≠ s.ownSpare ∨ s.coverBy k = false →
      (s.rosterHeard k).stage.coverWait = true ∧ (s.rosterHeard k).alarms.entry Source.noCover = s.alarms.entry Source.noCover) := by
  obtain ⟨v, hv⟩ : ∃ v, v = s.judgeRoster.tryReady := ⟨_, rfl⟩
  have hkeep : KeepsCover s v := hv ▸ (KeepsCover.judgeRoster s).trans (.tryReady _)
  have hvb : v.control.station ≠ .boot := by
    rw [hv]
    unfold State.tryReady
    split
    · simp
    · simpa using hb
  have hheard : s.rosterHeard k = (if v.ownSpare = k then v.judgeCover else v).settle := by rw [hv]; rfl
  refine ⟨(Settles.rosterHeard k s).stage.1, fun hs hc => ?_, fun h => ?_⟩
  · have hjudge : v.judgeCover = v.endCoverWait := by
      unfold State.judgeCover
      rw [if_pos ⟨hvb, .inr (by rw [hkeep.ownSpare, ← hs, hkeep.coverBy hk, hc])⟩]
    rw [hheard, if_pos (by rw [hkeep.ownSpare, hs]), hjudge]
    have hend := KeepsCover.settle v.endCoverWait
    refine ⟨hend.wait.trans (by simp), (State.conditionOf_congr hend.entry).trans ?_⟩
    unfold State.endCoverWait
    rw [if_pos (hkeep.wait.trans hw)]
    exact State.conditionGone_condition _ _
  · have hstays : (if v.ownSpare = k then v.judgeCover else v) = v := by
      split
      · next hs =>
        have hc : v.coverBy v.ownSpare = false := by
          rw [hs, hkeep.coverBy hk]
          exact h.resolve_left fun hn => hn (by rw [← hs, hkeep.ownSpare])
        unfold State.judgeCover
        rw [if_neg]
        rw [hkeep.head, hh, hc]
        simp
      · rfl
    rw [hheard, hstays]
    have hend := hkeep.trans (KeepsCover.settle v)
    exact ⟨hend.wait.trans hw, hend.entry⟩

/-- A peer's roster entry as it was set, cover read from it. -/
theorem State.coverBy_setRoster {s : State} {k : Nat} (hs : s.line.roster.length = 8) (hk : s.IsPeer k) (e : RosterEntry) :
    (s.setRoster k e).coverBy k = true ↔
      ∃ i, e.identity = some i ∧ ∃ r, e.report = some r ∧ r.head = .headIn ∧ r.station ≠ .stopped := by
  rw [State.coverBy_iff, State.rosterEntry_setRoster hs hk]
  exact and_iff_right (by have := hk.1; omega)

theorem State.rosterEntry_peer {s : State} {k : Nat} (hk : s.IsPeer k) : s.rosterEntry k = s.line.roster.getD (k - 1) .absent := by
  unfold State.rosterEntry
  rw [if_neg hk.2.2, if_neg (by have := hk.1; omega)]

theorem State.mirrorFromState_keepsCover {s : State} {k : Nat} (hk : s.IsPeer k) (p : StatePayload) :
    KeepsCover s (s.mirrorFromState k p) where
  straps := by simp
  loader := by simp
  roster := (State.mirrorFromState_asked k p s).roster
  head := by simp
  state := by simp
  wait := by simp
  entry := by
    unfold State.mirrorFromState
    split
    · exact State.mirror_entry_ne (by have := (mirror_bounds hk).1; intro h; have : (15 : Nat) = 31 + k := h; omega) none s
    · rfl

theorem State.stageHears_keepsCover (k : Nat) (p : StatePayload) (s : State) : KeepsCover s (s.stageHears k p) := by
  have hstage : (s.stageHears k p).stage = { s.stage with permit := (s.stageHears k p).stage.permit } := by
    unfold State.stageHears
    (repeat' (split <;> try dsimp only)) <;> rfl
  exact ⟨by simp, by simp, (State.stageHears_asked k p s).roster, by simp, by rw [hstage], by rw [hstage], by simp⟩

/-- Settles O37: the columns in order, the leave step by cover, and the two frames that change the spare's roster entry. -/
theorem stageWorksLowestColumn : Obligations.StageWorksLowestColumn := by
  refine ⟨fun s hshape hl hi hw hp => ⟨fun hrun c h1 hc hwork hlow => ?_, fun hrun hnone => ?_, fun hr hpd => ?_⟩, fun s h => ?_,
    fun s => ⟨fun c hc => ?_, fun hn => ?_⟩, fun s c h => State.columnHasWork_of_none h c, State.coverNeeded_iff, State.coverBy_iff,
    fun s k p hshape hk hb hl hw hh => ?_, fun s k p hshape hk hb hl hw hh hspare => ?_⟩
  · have hexec := exec_stageChooseWork_eq hl hi hw hp
    simp only [hrun, State.workColumn_eq_some h1 hc hwork hlow] at hexec
    refine ⟨fun he => ?_, fun he => ?_⟩
    · rw [if_pos he] at hexec
      exact hexec
    · rw [if_neg he] at hexec
      obtain ⟨-, -, -, hstage, hsame⟩ := s.columnDone_cover
      refine ⟨_, hexec, ?_, ?_, ?_⟩
      · unfold State.startIndex
        dsimp only
        rw [hstage]
      · unfold State.startIndex
        dsimp only
        rw [hsame]
      · unfold State.startIndex
        rw [hsame]
  · have hexec : exec .stageChooseWork s = .next s.columnDone.leaveStep := by
      have hexec := exec_stageChooseWork_eq hl hi hw hp
      rw [State.workColumn_eq_none hnone] at hexec
      rcases hrun with hrun | hrun <;> rw [hrun] at hexec <;> exact hexec
    obtain ⟨hneed, hown, hcover, hstage, hsame⟩ := s.columnDone_cover
    obtain ⟨u, hu⟩ : ∃ u, u = s.columnDone := ⟨_, rfl⟩
    rw [← hu] at hneed hown hcover hstage hsame hexec
    refine ⟨fun h => ⟨_, hexec, ?_, ?_⟩, fun hn hc => ⟨_, hexec, ?_, fun hwait => ?_, fun hwait => ?_⟩⟩
    · rw [State.leaveStep_leaves (by rwa [hneed, hown, hcover]), State.setStage_stage, State.endCoverWait_stage, hstage]
    · rw [State.leaveStep_leaves (by rwa [hneed, hown, hcover])]
      rw [hsame]
      apply State.ext <;> simp
    · rw [State.leaveStep_waits (by rwa [hneed]) (by rwa [hown, hcover])]
      split
      · next hwait =>
        rw [hstage] at hwait ⊢
        rw [← show s.stage.coverWait = true from hwait]
      · have hraise (r : State) (d : Detail) : (r.raiseAlarm Source.noCover d).stage = r.stage := by simp
        rw [hraise, State.setStageUnit_stage, hstage]
    · rw [State.leaveStep_waits (by rwa [hneed]) (by rwa [hown, hcover]), if_pos (by rwa [hstage]), hsame]
    · rw [State.leaveStep_waits (by rwa [hneed]) (by rwa [hown, hcover]), if_neg (by rw [hstage]; simp [hwait]), hown]
      refine State.raiseAlarm_condition (by decide) ?_ (AlarmUnit.disabled_of_not_note (by decide) _) _
      rw [hsame]
      exact hshape.alarms ▸ (by decide : 15 < 40)
  · rw [exec_stageChooseWork_eq hl hi hw hp]
    congr 1
    split <;> simp_all
  · exact congrArg _ (if_pos (h.imp_right .inl))
  · show Host.Outcome.next _ = _
    simp only [hc]
    rfl
  · show Host.Outcome.next _ = _
    simp only [hn]
  · obtain ⟨u, hu⟩ : ∃ u, u = (s.answer true).setRoster k { s.line.roster.getD (k - 1) .absent with report := some p } := ⟨_, rfl⟩
    have hkeep : u = { s with line := u.line, screen := u.screen } := by
      rw [hu, State.setRoster_eq]
      rfl
    have hexec := exec_stateFrame_eq p hk
    rw [← hu, State.outsideBoot_pos (by rw [hkeep]; exact hb)] at hexec
    have hpeer : u.IsPeer k := by rw [hkeep]; exact hk
    obtain ⟨v, hv⟩ : ∃ v, v = (u.stageHears k p).mirrorFromState k p := ⟨_, rfl⟩
    have huv : KeepsCover u v :=
      hv ▸ (State.stageHears_keepsCover k p u).trans (State.mirrorFromState_keepsCover (by simpa [State.IsPeer] using hpeer) p)
    have hvpeer : v.IsPeer k := by unfold State.IsPeer; rw [huv.straps]; exact hpeer
    obtain ⟨hstate, hfound, hlacks⟩ := State.rosterHeard_cover hvpeer
      (by rw [show v.control.station = u.control.station by simp [hv], hkeep]; exact hb)
      (by rw [huv.wait, hkeep]; exact hw) (by rw [huv.head, hkeep]; exact hh)
    have hspare : v.ownSpare = s.ownSpare := huv.ownSpare.trans (by rw [hkeep]; rfl)
    have hcover : v.coverBy k = true ↔ (s.rosterEntry k).identity.isSome = true ∧ p.head = .headIn ∧ p.station ≠ .stopped := by
      rw [huv.coverBy hpeer, hu, State.coverBy_setRoster (s := s.answer true) hshape.roster hk, State.rosterEntry_peer hk,
        Option.isSome_iff_exists]
      simp
    have hexec : exec (.stateFrame k p) s = .next (v.rosterHeard k) := hexec.trans (by rw [hv]; rfl)
    refine ⟨_, hexec, ?_, fun hs hin hst hid => hfound (by rw [hspare, hs]) (hcover.2 ⟨hid, hin, hst⟩), fun h => ?_⟩
    · rw [hstate, huv.state, hkeep]
      exact hl
    · rw [show s.alarms.entry Source.noCover = v.alarms.entry Source.noCover by rw [huv.entry, hkeep]]
      refine hlacks (h.imp (fun hn => by rwa [hspare]) fun h => ?_)
      rw [Bool.eq_false_iff, Ne, hcover]
      rintro ⟨h1, h2, h3⟩
      rcases h with h | h | h
      · rw [h] at h2
        contradiction
      · exact h3 h
      · rw [h] at h1
        contradiction
  · obtain ⟨u, hu⟩ : ∃ u, u = (s.answer true).setRoster k { s.line.roster.getD (k - 1) .absent with identity := some (.ofPresent p) } :=
      ⟨_, rfl⟩
    have hkeep : u = { s with line := u.line, screen := u.screen } := by
      rw [hu, State.setRoster_eq]
      rfl
    obtain ⟨v, hv⟩ : ∃ v, v = u.answerPresent (s.line.roster.getD (k - 1) .absent).identity.isNone p.known := ⟨_, rfl⟩
    have hexec := exec_presentFrame_eq p hk
    dsimp only at hexec
    rw [← hu, State.outsideBoot_pos (by rw [hkeep]; exact hb), ← hv] at hexec
    have hpeer : u.IsPeer k := by rw [hkeep]; exact hk
    have huv : KeepsCover u v := hv ▸ .answerPresent _ _ _
    obtain ⟨hstate, hfound, hlacks⟩ := State.rosterHeard_cover (by unfold State.IsPeer; rw [huv.straps]; exact hpeer)
      (by rw [show v.control.station = u.control.station by simp [hv], hkeep]; exact hb)
      (by rw [huv.wait, hkeep]; exact hw) (by rw [huv.head, hkeep]; exact hh)
    have hown : v.ownSpare = s.ownSpare := huv.ownSpare.trans (by rw [hkeep]; rfl)
    have hcover : v.coverBy k = true ↔ ∃ r, (s.rosterEntry k).report = some r ∧ r.head = .headIn ∧ r.station ≠ .stopped := by
      rw [huv.coverBy hpeer, hu, State.coverBy_setRoster (s := s.answer true) hshape.roster hk, State.rosterEntry_peer hk]
      simp
    refine ⟨_, hexec, ?_, fun h => hfound (by rw [hown, hspare]) (hcover.2 h), fun h => ?_⟩
    · rw [hstate, huv.state, hkeep]
      exact hl
    · rw [show s.alarms.entry Source.noCover = v.alarms.entry Source.noCover by rw [huv.entry, hkeep]]
      exact hlacks (.inr (by rwa [Bool.eq_false_iff, Ne, hcover]))

end Sys2Proof.Machine
end


section
/-! PROOFS. The next wire of a column and the start of its cycle (R65 to R69, R77, R106): the search through a column's units, the conditions
of a start, and what the fire of a flame-off decides. -/

namespace Sys2Proof.Machine

/-! ## The next wire (R65) -/

theorem columnUnits_eq (rows c : Nat) : columnUnits rows c = (List.range rows).map fun r => (c - 1) * rows + 1 + r := by
  rw [columnUnits, countFrom_eq, List.range'_eq_map_range]

theorem State.wireOnUnit_eq_some {s : State} {p : Program} {t : TrackedPart} {u v w k : Nat} (h : s.wireOnUnit p t v = some (u, w, k)) :
    u = v ∧ ∃ e, t.unit? u = some e ∧ e.status = .isOpen ∧ s.LowestIs p 1 e.progress w k := by
  unfold State.wireOnUnit at h
  split at h
  · next e he =>
    split at h
    · next ho =>
      obtain ⟨⟨w', k'⟩, hl, heq⟩ := Option.map_eq_some_iff.1 h
      obtain ⟨rfl, rfl, rfl⟩ : v = u ∧ w' = w ∧ k' = k := by simpa using heq
      exact ⟨rfl, e, he, ho, (s.lowestWire_spec p 1 e.progress).1 _ _ hl⟩
    · simp at h
  · simp at h

theorem State.wireOnUnit_eq_none {s : State} {p : Program} {t : TrackedPart} {u : Nat} {e : UnitEntry} (h : s.wireOnUnit p t u = none)
    (he : t.unit? u = some e) (ho : e.status = .isOpen) (j : Nat) (x : Progress) (h1 : 1 ≤ j) (hx : e.progress[j - 1]? = some x) :
    ¬s.WireLeft p j x := by
  unfold State.wireOnUnit at h
  rw [he] at h
  simp only [ho, if_true, Option.map_eq_none_iff] at h
  exact (s.lowestWire_spec p 1 e.progress).2 h j x h1 hx

/-! ## The start of a cycle (R67 to R69) -/

theorem State.wireMayStart_iff (s : State) :
    s.wireMayStart = true ↔ s.control.station = .run ∧ s.control.holdRequest = false ∧ s.heat.pauseRequest = false ∧
      s.control.restartWaiting = false ∧ s.stage.indexMotion = none ∧ s.control.head = .headIn ∧ s.stage.state = .loaded := by
  simp [State.wireMayStart, State.cycleMayStart, and_assoc]

/-- R67: a start that is not due. -/
theorem exec_wireCycleStart_of_not {s : State} (h : s.wire.cycle ≠ .idle ∨ s.wireMayStart = false) : exec .wireCycleStart s = .next s :=
  congrArg _ (if_neg fun ⟨h1, h2⟩ => h.elim (fun h => h h1) fun h => by simp [h] at h2)

theorem exec_wireCycleStart_eq {s : State} {p : Program} {u w k : Nat} {row : WireRow} (hc : s.wire.cycle = .idle)
    (hm : s.wireMayStart = true) (hp : s.program? = some p) (hw : s.currentWire = some (u, w, k)) (hr : wireRow? p w = some row) :
    exec .wireCycleStart s = .next
      (if s.wire.stock < (wireInFlight p row u w k false).use then
        (s.setHead .headOut).raiseAlarm Source.wireEnd (.unitWire u w)
      else if s.wire.ballReady then
        State.enterToFirst (wireInFlight p row u w k false) { s with stage := { s.stage with working := true } }
      else State.enterLead (wireInFlight p row u w k false) { s with stage := { s.stage with working := true } }) := by
  refine congrArg _ ((if_pos ⟨hc, hm⟩).trans ?_)
  simp only [hp, hw, hr, Option.getD_some]

theorem State.setting_of_program {α : Type} {s : State} {p : Program} (hp : s.program? = some p) (f : Program → α) (d : α) :
    s.setting f d = f p := by
  unfold State.setting
  rw [hp]

theorem State.head_of_program {s : State} {p : Program} (hp : s.program? = some p) (f : HeadSettings → Nat) : s.head f = f p.head :=
  State.setting_of_program hp _ _

/-! ## The end of a flame-off (R68, R69, R77) -/

theorem exec_flameOffEnd_eq {s : State} {f : WireInFlight} (hf : s.wire.inFlight = some f) (hc : s.wire.cycle = .flaming)
    (ha : s.wire.awaits = .fire) :
    exec (.flameOffEnd true) s = .next
      (if f.lead && s.wireMayStart then (s.flameDone true).enterToFirst f else (s.flameDone true).wireIdle) ∧
    exec (.flameOffEnd false) s = .next ((s.flameDone false).wireIdle.raiseAlarm Source.flameFail (.unitWire f.unit f.wire)) := by
  constructor <;> show Host.Outcome.next _ = _ <;> simp only [hf, hc, ha, and_self, if_true, Bool.false_eq_true, if_false]
  rfl

/-- Settles O44: the next wire by the search, the start by its conditions, the stock and the ball, and the flame-off by its spark. -/
theorem wireCycleStartsWithBall : Obligations.WireCycleStartsWithBall := by
  refine ⟨?_, fun s p k g => ⟨s.worksSegment_iff p k, segmentComplete_iff p k g⟩, columnUnits_eq, ?_, fun s h => ?_, fun s hc ha => ?_,
    fun s f hshape hf hc ha => ?_⟩
  · intro s p tk c hp ht left done
    have hleft (e : UnitEntry) (k : Nat) (g : Progress) :
        left e k g ↔ e.status = .isOpen ∧ e.progress[k - 1]? = some g ∧ s.WireLeft p k g := Iff.rfl
    have hdone {v : Nat} (hv : s.wireOnUnit p tk v = none) : done v := fun e he k g h1 h =>
      State.wireOnUnit_eq_none hv he h.1 k g h1 h.2.1 h.2.2
    have hnext : s.nextWire c = (columnUnits p.rows c).findSome? (s.wireOnUnit p tk) := by
      unfold State.nextWire
      simp only [hp, ht]
    rw [hnext]
    refine ⟨fun u w k h => ?_, fun h v hv => hdone (List.findSome?_eq_none_iff.1 h v hv)⟩
    obtain ⟨pre, v, post, hsplit, hv, hpre⟩ := List.findSome?_eq_some_iff.1 h
    obtain ⟨rfl, e, he, ho, hlow⟩ := State.wireOnUnit_eq_some hv
    obtain ⟨g, h1, hg, hwl, hw⟩ := hlow.stands
    exact ⟨⟨pre, post, hsplit, fun x hx => hdone (hpre x hx)⟩, e, g, he, h1, ⟨ho, hg, hwl⟩, hw,
      fun j x hj hx => hlow.least j x hj hx.2.1 hx.2.2⟩
  · intro s p u w k row hshape hp hc hl hi hw hr hrun hin
    constructor
    · intro hh hpause hre span use flight
      have hm := (State.wireMayStart_iff s).2 ⟨hrun, hh, hpause, hre, hi, hin, hl⟩
      have hexec := exec_wireCycleStart_eq hc hm hp hw hr
      have huse : (wireInFlight p row u w k false).use = use := rfl
      have hprogram : ∀ g : StageUnit, State.program? { s with stage := g } = some p := fun g => hp
      rw [huse] at hexec
      refine ⟨fun hlow => ?_, fun hle hball => ?_, fun hle hball => ?_⟩
      · rw [if_pos hlow] at hexec
        refine ⟨_, hexec, ?_, fun hlevel => ?_, ?_⟩
        · rw [State.raiseAlarm_control_of_not_hold _ _ (by decide), State.setHead_control]
        · exact State.raiseAlarm_shows (by decide) (by simpa using hshape.alarms) (by decide) (by simpa using hlevel) _
        · apply State.ext <;> simp
      · rw [if_neg (by omega), if_pos hball] at hexec
        rw [hexec]
        unfold State.enterToFirst State.flightRow State.originY State.rows
        simp only [hprogram, State.head_of_program (hprogram _), State.setting_of_program (hprogram _), Option.bind_some,
          show wireRow? p (wireInFlight p row u w k false).wire = some row from hr, Option.getD_some]
        rfl
      · rw [if_neg (by omega), if_neg (by simp [hball])] at hexec
        rw [hexec]
        unfold State.enterLead
        simp only [State.head_of_program (hprogram _)]
        rfl
    · intro h
      refine exec_wireCycleStart_of_not (.inr ?_)
      rw [Bool.eq_false_iff, Ne, State.wireMayStart_iff]
      rintro ⟨-, h1, h2, h3, -⟩
      simp [h1, h2, h3] at h
  · refine exec_wireCycleStart_of_not ?_
    by_contra hn
    push Not at hn
    obtain ⟨h1, -, -, -, h5, h6, h7⟩ := (State.wireMayStart_iff s).1 (by simpa using hn.2)
    simp [h1, h5, h6, h7, hn.1] at h
  · exact congrArg _ (if_pos ⟨hc, ha⟩)
  · obtain ⟨htrue, hfalse⟩ := exec_flameOffEnd_eq hf hc ha
    refine ⟨fun hlead hm => ?_, fun h => ?_, ?_⟩
    · rw [if_pos (by simp [hlead, hm])] at htrue
      exact ⟨_, htrue, rfl, rfl, rfl⟩
    · rw [if_neg (by rcases h with h | h <;> simp [h])] at htrue
      exact htrue
    · obtain ⟨u, hu⟩ : ∃ u, u = (s.flameDone false).wireIdle := ⟨_, rfl⟩
      rw [← hu] at hfalse
      obtain ⟨hstate, hdetail, hcontrol⟩ := State.raiseAlarm_holdEvent (s := u) (i := Source.flameFail)
        (by rw [hu]; exact hshape.alarms ▸ (by decide : 12 < 40)) (by decide) (by decide) (.unitWire f.unit f.wire)
      refine ⟨_, hfalse, by simp [hu], by simp [hu], hstate, hdetail, ?_, by simp [hu], by simp [hu]⟩
      rw [hcontrol, hu]
      rfl

end Sys2Proof.Machine
end


section
/-! PROOFS. The elevators (R135 to R138, R141, R142, R146): what passing a slot, reaching one and a new magazine do to an elevator, and the
condition that stands once a magazine is spent or full. -/

namespace Sys2Proof.Machine

/-! ## Slots passed (R141, R146) -/

/-- R141, R146: the target after slot `n` of a magazine of `slots` slots. -/
def placeAfter (slots n : Nat) : Place := if n < slots then .slot (n + 1) else .exchange

@[simp] theorem State.nextInput_elevator (n : Nat) (s : State) :
    (s.nextInput n).elevator = { s.elevator with
      input := { s.elevator.input with target := some (placeAfter (s.setting (·.magazine.inputSlots) 0) n) } } := by
  unfold State.nextInput placeAfter
  split <;> simp [Elevator.aim]

@[simp] theorem State.nextOutput_elevator (n : Nat) (s : State) :
    (s.nextOutput n).elevator = { s.elevator with
      output := { s.elevator.output with target := some (placeAfter (s.setting (·.magazine.outputSlots) 0) n) } } := by
  unfold State.nextOutput placeAfter
  split <;> simp [Elevator.aim]

theorem State.nextInput_shows {n : Nat} {s : State} (hl : s.alarms.entries.length = 40)
    (hlast : s.setting (·.magazine.inputSlots) 0 ≤ n) (hlevel : (s.alarms.entry Source.magazineEmpty).level ≠ 0) :
    (s.nextInput n).ShowsCondition Source.magazineEmpty .none := by
  unfold State.nextInput
  rw [if_neg (by omega)]
  exact State.raiseAlarm_shows (by decide) (by exact hl) (by decide) (by exact hlevel) _

theorem State.nextOutput_shows {n : Nat} {s : State} (hl : s.alarms.entries.length = 40)
    (hlast : s.setting (·.magazine.outputSlots) 0 ≤ n) (hlevel : (s.alarms.entry Source.magazineFull).level ≠ 0) :
    (s.nextOutput n).ShowsCondition Source.magazineFull .none := by
  unfold State.nextOutput
  rw [if_neg (by omega)]
  exact State.raiseAlarm_shows (by decide) (by exact hl) (by decide) (by exact hlevel) _

theorem State.ShowsCondition.congr {s t : State} {i : Nat} {d : Detail} (h : s.ShowsCondition i d)
    (he : t.alarms.entry i = s.alarms.entry i) : t.ShowsCondition i d := by
  unfold State.ShowsCondition
  rw [State.conditionOf_congr he, he]
  exact h

/-- R135: an elevator that stands at its target with its magazine there. -/
theorem Elevator.slotReached_eq {e : Elevator} {n : Nat} (hp : e.position = some (.slot n)) (ht : e.target = some (.slot n))
    (hm : e.magazine = true) : e.slotReached = some n := by
  unfold Elevator.slotReached
  rw [hp]
  exact if_pos ⟨ht, hm⟩

/-- R136: one that stands elsewhere, or without its magazine, judges no slot. -/
theorem Elevator.slotReached_eq_none {e : Elevator} {d : Place} (hp : e.position = some d)
    (h : e.target ≠ some d ∨ e.magazine = false ∨ d = .exchange) : e.slotReached = none := by
  unfold Elevator.slotReached
  rw [hp]
  cases d with
  | exchange => rfl
  | slot n =>
    refine if_neg fun ⟨h1, h2⟩ => ?_
    rcases h with h | h | h
    · exact h h1
    · simp [h] at h2
    · contradiction

/-! ## Moves (R136) -/

theorem moveMayStart_iff {e : Elevator} {pusher : Pusher} {st : StationState} {p : Place} (ht : e.target = some p) :
    moveMayStart e pusher st = true ↔
      e.activity = .idle ∧ e.position ≠ some p ∧ st = .run ∧ pusher = .rest ∧ (p = .exchange ∨ e.magazine = true) := by
  unfold moveMayStart
  rw [ht]
  have hne : some p ≠ e.position ↔ e.position ≠ some p := ne_comm
  cases p <;> simp [hne, and_assoc]

/-! ## New magazines (R137, R142) -/

theorem State.newInputMagazine_elevator (s : State) :
    s.newInputMagazine.elevator = { s.elevator with
      magSeq := if s.elevator.magSeq < 9999 then s.elevator.magSeq + 1 else 1
      inputSlots := List.replicate 50 .unknown
      input := { s.elevator.input with target := some (.slot 1) } } := by
  simp [State.newInputMagazine, Elevator.aim, nextMagSeq, Config.slotPlaces]

theorem State.newOutputMagazine_elevator (s : State) :
    s.newOutputMagazine.elevator = { s.elevator with
      outputSlots := List.replicate 50 .empty
      output := { s.elevator.output with target := some (.slot 1) } } := by
  simp [State.newOutputMagazine, Elevator.aim, Config.slotPlaces]

/-- An elevator whose push and release are over, no new magazine sensed meanwhile. -/
theorem State.inputIdle_of_none {s : State} (h : s.elevator.input.deferred = 0) :
    s.inputIdle = s.setInput fun e => { e with activity := .idle } := by
  unfold State.inputIdle
  rw [h]
  unfold State.setInput repeatStep
  dsimp only
  rw [← h]

theorem State.outputIdle_of_none {s : State} (h : s.elevator.output.deferred = 0) :
    s.outputIdle = s.setOutput fun e => { e with activity := .idle } := by
  unfold State.outputIdle
  rw [h]
  unfold State.setOutput repeatStep
  dsimp only
  rw [← h]

theorem exec_inputMoveEnd_eq {s : State} (seen : Bool) (h : s.elevator.input.activity = .moving) :
    exec (.elevatorMoveEnd .input seen) s = .next ((s.setInput Elevator.arrive).judgeInputSlot seen) := congrArg _ (if_pos h)

theorem exec_outputMoveEnd_eq {s : State} (seen : Bool) (h : s.elevator.output.activity = .moving) :
    exec (.elevatorMoveEnd .output seen) s = .next (s.setOutput Elevator.arrive).judgeOutputSlot := congrArg _ (if_pos h)

/-- R138: the input slot reached, judged by what stands in it. -/
theorem State.judgeInputSlot_eq {s : State} {n : Nat} {v : InputSlot} (seen : Bool) (hr : s.elevator.input.slotReached = some n)
    (hv : s.elevator.inputSlots[n - 1]? = some v) :
    s.judgeInputSlot seen =
      if v = .unknown then (if seen then s else (s.setInputSlot n .vacant).nextInput n) else s.nextInput n := by
  unfold State.judgeInputSlot
  rw [hr]
  dsimp only
  rw [hv]
  cases v <;> rfl

/-- Settles O43, elevator by elevator: the start of a move, its end by the slot reached, and magazines that come and go. -/
theorem elevatorsServeMagazines : Obligations.ElevatorsServeMagazines := by
  refine ⟨fun s p hin ha ht hp hpu => ?_, fun s p hout ha ht hp hpu => ?_, ?_, ?_, fun s d seen => ⟨fun hm hd h => ?_, fun hm hd h => ?_⟩,
    fun s hshape hin => ⟨fun hm => ?_, fun hm => ?_⟩, fun s hshape hout => ⟨fun hm => ?_, fun hm => ?_⟩⟩
  · have hiff := moveMayStart_iff (pusher := s.elevator.inputPusher) (st := s.control.station) ht
    refine ⟨fun hrun h => ?_, fun h => ?_⟩
    · refine congrArg _ ((if_pos (by rw [hin, hiff.2 ⟨ha, hp, hrun, hpu, h⟩]; rfl)).trans ?_)
      simp only [Elevator.depart, ht, driveTo]
    · refine congrArg _ (if_neg ?_)
      rw [hin, Bool.true_and, hiff]
      rintro ⟨-, -, hrun, -, hp⟩
      simp [hrun] at h
      simp [h] at hp
  · have hiff := moveMayStart_iff (pusher := s.stage.pusher) (st := s.control.station) ht
    refine ⟨fun hrun h => ?_, fun h => ?_⟩
    · refine congrArg _ ((if_pos (by rw [hout, hiff.2 ⟨ha, hp, hrun, hpu, h⟩]; rfl)).trans ?_)
      simp only [Elevator.depart, ht, driveTo]
    · refine congrArg _ (if_neg ?_)
      rw [hout, Bool.true_and, hiff]
      rintro ⟨-, -, hrun, -, hp⟩
      simp [hrun] at h
      simp [h] at hp
  · intro s n seen v hshape ha hd ht hm hv there next
    obtain ⟨u, hu⟩ : ∃ u, u = s.setInput Elevator.arrive := ⟨_, rfl⟩
    have helevator : u.elevator = { s.elevator with input := there } := by
      rw [hu, State.setInput_elevator, Elevator.arrive, hd]
    have hreach : u.elevator.input.slotReached = some n := by
      rw [helevator]
      exact Elevator.slotReached_eq rfl ht hm
    have hslot : u.elevator.inputSlots[n - 1]? = some v := by rw [helevator]; exact hv
    have halarms : u.alarms = s.alarms := by rw [hu]; rfl
    have hsetting (f : Program → Nat) : u.setting f 0 = s.setting f 0 := by rw [hu]; rfl
    have hexec := exec_inputMoveEnd_eq seen ha
    rw [← hu] at hexec
    have hpassed (r : State) (hr : r.elevator = { s.elevator with input := there, inputSlots := r.elevator.inputSlots })
        (hl : r.loader = u.loader) : (r.nextInput n).elevator =
          { s.elevator with input := { there with target := next }, inputSlots := r.elevator.inputSlots } := by
      rw [State.nextInput_elevator, State.setting_congr hl, hsetting, hr]
      rfl
    have hshows (r : State) (hr : r.alarms = s.alarms) (hl : r.loader = u.loader) (hlast : s.setting (·.magazine.inputSlots) 0 ≤ n)
        (hlevel : (s.alarms.entry Source.magazineEmpty).level ≠ 0) : (r.nextInput n).ShowsCondition Source.magazineEmpty .none :=
      State.nextInput_shows (by rw [hr, hshape.alarms]) (by rw [State.setting_congr hl, hsetting]; exact hlast) (by rwa [hr])
    rw [State.judgeInputSlot_eq seen hreach hslot] at hexec
    refine ⟨_, hexec, fun hun hseen => ?_, fun hun hseen => ?_, fun hun => ?_, fun h hlast hlevel => ?_⟩
    · rw [if_pos hun, if_pos hseen, helevator]
    · rw [if_pos hun, if_neg (by simp [hseen]), hpassed (u.setInputSlot n .vacant) (by simp [helevator]) rfl]
      simp [helevator]
    · rw [if_neg hun, hpassed u (by rw [helevator]) rfl, helevator]
    · have hstands (r : State) (hr : r.alarms = s.alarms) (hl : r.loader = u.loader) :
          ((r.nextInput n).alarms.entry Source.magazineEmpty).state ≠ .clear ∧
          (r.nextInput n).conditionOf Source.magazineEmpty = true :=
        have ⟨h1, h2, _⟩ := hshows r hr hl hlast hlevel
        ⟨h1, h2⟩
      split
      · next hun =>
        rw [if_neg (by simp [h.resolve_left fun hn => hn hun])]
        exact hstands _ halarms rfl
      · exact hstands _ halarms rfl
  · intro s n seen v hshape ha hd ht hm hv there next
    obtain ⟨u, hu⟩ : ∃ u, u = s.setOutput Elevator.arrive := ⟨_, rfl⟩
    have helevator : u.elevator = { s.elevator with output := there } := by
      rw [hu, State.setOutput_elevator, Elevator.arrive, hd]
    have hreach : u.elevator.output.slotReached = some n := by
      rw [helevator]
      exact Elevator.slotReached_eq rfl ht hm
    have hjudge : u.judgeOutputSlot = if v = .empty then u else u.nextOutput n := by
      unfold State.judgeOutputSlot
      simp only [hreach, show u.elevator.outputSlots[n - 1]? = some v by rw [helevator]; exact hv, Option.some.injEq]
    have hexec := exec_outputMoveEnd_eq seen ha
    rw [← hu, hjudge] at hexec
    refine ⟨_, hexec, ?_, fun hne hlast hlevel => ?_⟩
    · split
      · rw [helevator]
      · rw [State.nextOutput_elevator, helevator, hu]
        rfl
    · rw [if_neg hne]
      obtain ⟨h1, h2, -⟩ := State.nextOutput_shows (s := u) (n := n) (by rw [hu]; exact hshape.alarms) (by rw [hu]; exact hlast)
        (by rw [hu]; exact hlevel)
      exact ⟨h1, h2⟩
  · rw [exec_inputMoveEnd_eq seen hm]
    unfold State.judgeInputSlot
    rw [Elevator.slotReached_eq_none (e := (s.setInput Elevator.arrive).elevator.input) (d := d) hd h]
    unfold State.setInput Elevator.arrive
    rw [hd]
  · rw [exec_outputMoveEnd_eq seen hm]
    unfold State.judgeOutputSlot
    rw [Elevator.slotReached_eq_none (e := (s.setOutput Elevator.arrive).elevator.output) (d := d) hd h]
    unfold State.setOutput Elevator.arrive
    rw [hd]
  · have hexec : exec (.newMagazine .input) s = .next s.senseInput := rfl
    have hsense : s.senseInput = if s.elevator.input.busy then
          (s.setInput fun e => { e with magazine := true }).setInput fun e => { e with deferred := e.deferred + 1 }
        else (s.setInput fun e => { e with magazine := true }).newInputMagazine :=
      if_neg (by simp [hin, hm])
    refine ⟨_, hexec, fun h => ?_, fun h => ?_⟩
    · rw [hsense, if_neg (by rcases h with h | h <;> simp [Elevator.busy, h])]
      refine ⟨?_, State.conditionGone_condition _ _⟩
      rw [State.newInputMagazine_elevator]
      rfl
    · rw [hsense, if_pos (by rcases h with h | h <;> simp [Elevator.busy, h])]
      rfl
  · have hexec : exec (.magazineRemoved .input) s = .next
        ((s.setInput fun e => { e with magazine := false }).raiseAlarm Source.magazineEmpty .none) :=
      congrArg _ (if_neg (by simp [hin, hm]))
    refine ⟨_, hexec, by simp, fun hlevel => ?_⟩
    obtain ⟨h1, h2, -⟩ := State.raiseAlarm_shows (s := s.setInput fun e => { e with magazine := false }) (i := Source.magazineEmpty)
      (by decide) hshape.alarms (by decide) hlevel .none
    exact ⟨h1, h2⟩
  · have hexec : exec (.newMagazine .output) s = .next s.senseOutput := rfl
    have hsense : s.senseOutput = if s.elevator.output.busy then
          (s.setOutput fun e => { e with magazine := true }).setOutput fun e => { e with deferred := e.deferred + 1 }
        else (s.setOutput fun e => { e with magazine := true }).newOutputMagazine :=
      if_neg (by simp [hout, hm])
    refine ⟨_, hexec, fun h => ?_, fun h => ?_⟩
    · rw [hsense, if_neg (by rcases h with h | h <;> simp [Elevator.busy, h])]
      refine ⟨?_, State.conditionGone_condition _ _⟩
      rw [State.newOutputMagazine_elevator]
      rfl
    · rw [hsense, if_pos (by rcases h with h | h <;> simp [Elevator.busy, h])]
      rfl
  · have hexec : exec (.magazineRemoved .output) s = .next
        ((s.setOutput fun e => { e with magazine := false }).raiseAlarm Source.magazineFull .none) :=
      congrArg _ (if_neg (by simp [hout, hm]))
    refine ⟨_, hexec, by simp, fun hlevel => ?_⟩
    obtain ⟨h1, h2, -⟩ := State.raiseAlarm_shows (s := s.setOutput fun e => { e with magazine := false }) (i := Source.magazineFull)
      (by decide) hshape.alarms (by decide) hlevel .none
    exact ⟨h1, h2⟩

end Sys2Proof.Machine
end


section
/-! PROOFS. Feeding (R11, R138 to R141): the record a feeding push makes, unit by unit, and the RESUME press that goes on to the next slot,
past what the other releases of the same press do. -/

namespace Sys2Proof.Machine

/-! ## The record at creation (R3, R6, R11) -/

theorem length_freshProgress (p : Program) (k n : Nat) : (freshProgress p k n).length = n := by
  induction n generalizing k with
  | zero => rfl
  | succ n ih => simp [freshProgress, ih]

theorem getElem?_freshProgress (p : Program) (k : Nat) {n i : Nat} (h : i < n) :
    (freshProgress p k n)[i]? = some ⟨(segmentOf p (k + i)).first, 0, 0, (segmentOf p (k + i)).first⟩ := by
  induction n generalizing k i with
  | zero => omega
  | succ n ih =>
    cases i with
    | zero => rfl
    | succ i =>
      have := ih (k + 1) (i := i) (by omega)
      rwa [Nat.add_right_comm, Nat.add_assoc] at this

theorem length_freshTable (p : Program) (segments : Nat) (marks : List Nat) (u n : Nat) :
    (freshTable p segments marks u n).length = n := by
  induction n generalizing u with
  | zero => rfl
  | succ n ih => simp [freshTable, ih]

theorem getElem?_freshTable (p : Program) (segments : Nat) (marks : List Nat) (u : Nat) {n i : Nat} (h : i < n) :
    (freshTable p segments marks u n)[i]? = some {
      status := if u + i ∈ marks then .skip else .isOpen
      pulls := 0
      worst := none
      progress := freshProgress p 1 segments } := by
  induction n generalizing u i with
  | zero => omega
  | succ n ih =>
    cases i with
    | zero => simp [freshTable]
    | succ i =>
      have := ih (u + 1) (i := i) (by omega)
      rwa [Nat.add_right_comm, Nat.add_assoc] at this

/-! ## What the releases of a RESUME press leave of the elevators -/

theorem State.stopDwell_entry_ne {j : Nat} (s : State) (h : Source.dwellLimit ≠ j) : s.stopDwell.alarms.entry j = s.alarms.entry j := by
  unfold State.stopDwell
  dsimp only
  split
  · rw [State.conditionGone_entry_ne _ h]
  · rfl

theorem State.emptyStage_entry_ne {j : Nat} (s : State) (h : Source.dwellLimit ≠ j) : s.emptyStage.alarms.entry j = s.alarms.entry j := by
  unfold State.emptyStage
  dsimp only
  split <;> simp [State.stopDwell_entry_ne _ h]

theorem State.resumeHandoff_entry_ne {j : Nat} (x : StripSensors) (s : State) (h : Source.dwellLimit ≠ j) :
    (s.resumeSender x).resumeReceiver.alarms.entry j = s.alarms.entry j := by
  have hgive (r : State) : r.resumeReceiver.alarms.entry j = r.alarms.entry j := by
    unfold State.resumeReceiver State.giveUpTransfer
    split
    · exact State.emptyStage_entry_ne _ h
    · rfl
  rw [hgive]
  unfold State.resumeSender State.takeBack
  (repeat' split)
  · rfl
  · exact State.emptyStage_entry_ne _ h
  · simp
  · rfl

theorem State.composeReport_entry_ne {j : Nat} (r : StripRecord) (u : Unloading) (s : State) (h : Source.reportLoss ≠ j) :
    (s.composeReport r u).alarms.entry j = s.alarms.entry j := by
  have hlose (e : ReportEntry) (s : State) : (s.loseEntry e).alarms.entry j = s.alarms.entry j := State.raiseAlarm_entry_ne _ _ h
  have hloses (l : List ReportEntry) (s : State) : (s.loseEntries l).alarms.entry j = s.alarms.entry j := by
    induction l generalizing s with
    | nil => rfl
    | cons e es ih => rw [State.loseEntries, ih, hlose]
  have hfree : (s.freeOrphans r.lineSeq).alarms.entry j = s.alarms.entry j := by
    unfold State.freeOrphans
    split
    · rfl
    · exact hloses _ _
  unfold State.composeReport
  dsimp only
  split
  · exact hfree
  · split
    · exact (hlose _ _).trans hfree
    · exact hfree

theorem State.nextOutput_entry_ne {j : Nat} (n : Nat) (s : State) (h : Source.magazineFull ≠ j) :
    (s.nextOutput n).alarms.entry j = s.alarms.entry j := by
  unfold State.nextOutput
  split
  · rfl
  · exact State.raiseAlarm_entry_ne _ _ h

theorem State.newOutputMagazine_entry_ne {j : Nat} (s : State) (h : Source.magazineFull ≠ j) :
    s.newOutputMagazine.alarms.entry j = s.alarms.entry j := by
  unfold State.newOutputMagazine
  exact State.conditionGone_entry_ne _ h

/-- What the output elevator's release leaves: the input end of the elevator unit, and the entries of all but three sources. -/
theorem State.outputIdle_rest (s : State) :
    s.outputIdle.elevator.input = s.elevator.input ∧ s.outputIdle.elevator.inputSlots = s.elevator.inputSlots ∧
    s.outputIdle.elevator.magSeq = s.elevator.magSeq ∧
    ∀ j, Source.magazineFull ≠ j → s.outputIdle.alarms.entry j = s.alarms.entry j := by
  unfold State.outputIdle
  refine ⟨?_, ?_, ?_, fun j h => ?_⟩
  · exact repeatStep_eq (fun r => r.elevator.input) (fun r => by rw [State.newOutputMagazine_elevator]) _ _
  · exact repeatStep_eq (fun r => r.elevator.inputSlots) (fun r => by rw [State.newOutputMagazine_elevator]) _ _
  · exact repeatStep_eq (fun r => r.elevator.magSeq) (fun r => by rw [State.newOutputMagazine_elevator]) _ _
  · exact repeatStep_eq (fun r => r.alarms.entry j) (fun r => r.newOutputMagazine_entry_ne h) _ _

theorem State.finishUnload_rest (p : Pusher) (s : State) :
    (s.finishUnload p).elevator.input = s.elevator.input ∧ (s.finishUnload p).elevator.inputSlots = s.elevator.inputSlots ∧
    (s.finishUnload p).elevator.magSeq = s.elevator.magSeq ∧
    ∀ j, Source.magazineFull ≠ j → Source.reportLoss ≠ j → Source.dwellLimit ≠ j →
      (s.finishUnload p).alarms.entry j = s.alarms.entry j := by
  unfold State.finishUnload
  split
  · next u r _ _ =>
    dsimp only
    obtain ⟨h1, h2, h3, h4⟩ := State.outputIdle_rest
      (State.nextOutput u.slot
        (let s2 := ((s.setOutputSlot u.slot (.filled r.serial u.good u.reject)).composeReport r u).emptyStage
        { s2 with
          stage := { s2.stage with pusher := p }
          elevator := { s2.elevator with unloading := none, output := { s2.elevator.output with pushTimer := .stopped } } }))
    refine ⟨h1.trans (by simp), h2.trans (by simp), h3.trans (by simp), fun j hf hl hd => (h4 j hf).trans ?_⟩
    rw [State.nextOutput_entry_ne _ _ hf]
    dsimp only
    rw [State.emptyStage_entry_ne _ hd, State.composeReport_entry_ne _ _ _ hl]
    rfl
  · exact ⟨rfl, rfl, rfl, fun _ _ _ _ => rfl⟩

theorem State.releaseOutput_rest (x : StripSensors) (s : State) :
    (s.releaseOutput x).elevator.input = s.elevator.input ∧ (s.releaseOutput x).elevator.inputSlots = s.elevator.inputSlots ∧
    (s.releaseOutput x).elevator.magSeq = s.elevator.magSeq ∧
    ∀ j, Source.magazineFull ≠ j → Source.reportLoss ≠ j → Source.dwellLimit ≠ j →
      (s.releaseOutput x).alarms.entry j = s.alarms.entry j := by
  unfold State.releaseOutput
  (repeat' split)
  · exact ⟨rfl, rfl, rfl, fun _ _ _ _ => rfl⟩
  · exact s.finishUnload_rest _
  · obtain ⟨h1, h2, h3, h4⟩ := s.outputIdle_rest
    exact ⟨h1, h2, h3, fun j hf _ _ => h4 j hf⟩
  · exact ⟨rfl, rfl, rfl, fun _ _ _ _ => rfl⟩

/-- R24, R136: a settling of the station state leaves the elevators as they stand, or halts them. -/
theorem State.settle_elevator (s : State) :
    s.settle.elevator = s.elevator ∨
    s.settle.elevator = { s.elevator with input := s.elevator.input.halted, output := s.elevator.output.halted } := by
  have hstop (r : State) : r.settleStop.elevator = r.elevator ∨
      r.settleStop.elevator = { r.elevator with input := r.elevator.input.halted, output := r.elevator.output.halted } := by
    unfold State.settleStop
    split
    · exact .inr (by simp)
    · exact .inl rfl
  unfold State.settle
  split
  · have h := hstop s.leaveStopped
    rwa [show s.leaveStopped.elevator = s.elevator by simp] at h
  · exact hstop s

theorem Elevator.halted_of_not_moving {e : Elevator} (h : e.activity ≠ .moving) : e.halted = e := if_neg h

/-- R24: what a settling leaves of an input elevator that does not move. -/
theorem State.settle_input {s : State} (h : s.elevator.input.activity ≠ .moving) :
    s.settle.elevator.input = s.elevator.input ∧ s.settle.elevator.inputSlots = s.elevator.inputSlots ∧
    s.settle.elevator.magSeq = s.elevator.magSeq := by
  rcases s.settle_elevator with he | he <;> rw [he]
  · exact ⟨rfl, rfl, rfl⟩
  · exact ⟨Elevator.halted_of_not_moving h, rfl, rfl⟩

/-! ## Feeding (R138 to R140) -/

/-- R23: the level of an entry outlasts a RESUME press. -/
theorem State.atRelease_level {i : Nat} (hi : i < 40) (s : State) : (s.atRelease.alarms.entry i).level = (s.alarms.entry i).level := by
  rw [State.atRelease_alarms, State.pressKey_tableResumed_entry _ hi]
  unfold eventCleared ackedLow AlarmEntry.acknowledged
  (repeat' split) <;> rfl

theorem State.atRelease_length (s : State) : s.atRelease.alarms.entries.length = s.alarms.entries.length := by
  have hclear := (Calm.eachSource Calm.clearEvent sourceNumbers
    (eachSource State.ackLow sourceNumbers (s.pressKey .resume))).entries
  have hack := (Calm.eachSource Calm.ackLow sourceNumbers (s.pressKey .resume)).entries
  rw [State.atRelease_alarms]
  unfold State.tableResumed
  rw [hclear, hack]
  simp

/-- R140: a RESUME press at an input elevator that waits for it at slot `n`. -/
theorem State.releaseInput_waiting {s : State} {n : Nat} (ha : s.elevator.input.activity = .waitingResume)
    (hp : s.elevator.input.position = some (.slot n)) (hd : s.elevator.input.deferred = 0) :
    (s.isActive Source.misfeed = false →
      s.releaseInput = (s.nextInput n).setInput fun e => { e with activity := .idle }) ∧
    (s.isActive Source.misfeed = true → s.releaseInput = s) := by
  unfold State.releaseInput
  refine ⟨fun h => ?_, fun h => if_neg fun c => by simp [h] at c⟩
  rw [if_pos ⟨ha, h⟩, hp]
  exact State.inputIdle_of_none (by simpa using hd)

theorem State.feedSlot?_eq {s : State} {n : Nat} (hr : s.elevator.input.slotReached = some n) (h : s.straps.infeed = true ∧
    s.stage.state = .empty ∧ s.control.station = .run ∧ s.elevator.input.activity = .idle ∧
    s.elevator.inputSlots[n - 1]? = some .unknown ∧ s.elevator.inputPusher = .rest ∧ s.stage.pusher = .rest) :
    s.feedSlot? = some n := by
  unfold State.feedSlot?
  rw [hr]
  exact if_pos h

theorem State.feedSlot?_eq_none {s : State} (h : s.stage.pusher ≠ .rest ∨ s.elevator.inputPusher ≠ .rest) : s.feedSlot? = none := by
  unfold State.feedSlot?
  split
  · exact if_neg fun ⟨_, _, _, _, _, h1, h2⟩ => h.elim (fun h => h h2) fun h => h h1
  · rfl

/-- R139: the state a feeding push's end leaves, up to the elevator's last step. -/
def State.fed (f : FeedingPush) (p : Program) (s : State) : State :=
  let s1 : State := { s with elevator := { s.elevator with lineSeqCounter := nextLineSeq s.elevator.lineSeqCounter } }
  let s2 := (s1.setInputSlot f.slot .taken).takeStrip
    (freshRecord p ⟨f.magSeq, f.slot⟩ (nextLineSeq s.elevator.lineSeqCounter) f.segments f.marks) 1
  { s2 with elevator := { s2.elevator with
    feeding := none
    inputPusher := .rest
    input := { s2.elevator.input with pushTimer := .stopped } } }

theorem State.feedingEnd_eq {s : State} {f : FeedingPush} {p : Program} (hf : s.elevator.feeding = some f) (hp : s.program? = some p) :
    s.feedingEnd = ((s.fed f p).nextInput f.slot).inputIdle := by
  unfold State.feedingEnd
  rw [hf, hp]
  rfl

/-- Settles O40: the push by the slot's sensor, the marks, the record made, the timeout, and the RESUME press. -/
theorem feedingPushMakesRecord : Obligations.FeedingPushMakesRecord := by
  refine ⟨fun s n last hin hst hrun ha hm hp ht hv hip hsp hlast => ?_, fun s seen h => ?_, fun s u f hf => ?_, ?_, fun s f hshape hst hf => ?_,
    ?_⟩
  · have hslot : s.feedSlot? = some n :=
      State.feedSlot?_eq (Elevator.slotReached_eq hp ht hm) ⟨hin, hst, hrun, ha, hv, hip, hsp⟩
    have hpush : exec (.feedingPushStart true) s = .next
        { s.setStage .feeding with elevator := { (s.setStage .feeding).elevator with
            input := { (s.setStage .feeding).elevator.input with activity := .pushing, pushTimer := .running s.pushTimeout }
            feeding := some ⟨n, last, s.elevator.magSeq, []⟩
            inputPusher := .driving } } := by
      show Host.Outcome.next _ = _
      simp only [hslot, hlast, if_true]
    have hgone : exec (.feedingPushStart false) s = .next ((s.setInputSlot n .vacant).nextInput n) := by
      show Host.Outcome.next _ = _
      simp only [hslot, hlast, Bool.false_eq_true, if_false]
    refine ⟨⟨_, hpush, by simp, by simp, by apply State.ext <;> simp⟩, ⟨_, hgone, by simp, ?_, fun hshape hle hlevel => ?_⟩⟩
    · rw [State.nextInput_elevator]
      rfl
    · exact State.nextInput_shows hshape.alarms hle hlevel
  · show Host.Outcome.next _ = _
    rw [State.feedSlot?_eq_none h]
  · show Host.Outcome.next _ = _
    simp only [hf]
    by_cases hu : u ∈ f.marks
    · rw [if_pos (List.contains_iff_mem.2 hu), if_pos hu]
      simp only [← hf]
    · rw [if_neg (by simpa using hu), if_neg hu]
  · intro s f p hst hf hp hd q
    obtain ⟨u, hu⟩ : ∃ u, u = s.fed f p := ⟨_, rfl⟩
    have huelevator : u.elevator = { s.elevator with
        lineSeqCounter := q
        inputSlots := s.elevator.inputSlots.set (f.slot - 1) .taken
        feeding := none
        inputPusher := .rest
        input := { s.elevator.input with pushTimer := .stopped } } := by
      rw [hu]
      unfold State.fed
      simp
      rfl
    have hustage : u.stage = ((s.setInputSlot f.slot .taken).takeStrip (freshRecord p ⟨f.magSeq, f.slot⟩ q f.segments f.marks) 1).stage := by
      rw [hu]
      unfold State.fed
      simp
      rfl
    have hsetting : u.setting (·.magazine.inputSlots) 0 = p.magazine.inputSlots := by
      refine State.setting_of_program ?_ _ _
      rw [← hp, hu]
      unfold State.fed State.program?
      simp
    have hidle : (u.nextInput f.slot).inputIdle = (u.nextInput f.slot).setInput fun e => { e with activity := .idle } :=
      State.inputIdle_of_none (by rw [State.nextInput_elevator, huelevator]; exact hd)
    have hexec : exec .arrival s = .next ((u.nextInput f.slot).setInput fun e => { e with activity := .idle }) := by
      show Host.Outcome.next _ = _
      simp only [hst]
      rw [State.feedingEnd_eq hf hp, ← hu, hidle]
    refine ⟨_, freshRecord p ⟨f.magSeq, f.slot⟩ q f.segments f.marks,
      { segments := f.segments, dropped := 0, table := freshTable p f.segments f.marks 1 (unitCount p), suspects := [] }, hexec,
      ?_, ?_, ?_, ?_, ?_, rfl, rfl, rfl, rfl, length_freshTable _ _ _ _ _, fun v h1 hv => ?_, ?_, fun hshape hle hlevel => ?_⟩
    · simp [hustage]
    · simp [hustage]
    · simp [hustage]
    · simp [hustage]
    · simp [hu, State.fed]
    · refine ⟨⟨if v ∈ f.marks then .skip else .isOpen, 0, none, freshProgress p 1 f.segments⟩, ?_, rfl, rfl, rfl,
        length_freshProgress _ _ _, fun k hk1 hk => ?_⟩
      · unfold TrackedPart.unit?
        rw [if_neg (by omega)]
        have := getElem?_freshTable p f.segments f.marks 1 (n := unitCount p) (i := v - 1) (by unfold unitCount; omega)
        rwa [show 1 + (v - 1) = v by omega] at this
      · have := getElem?_freshProgress p 1 (n := f.segments) (i := k - 1) (by omega)
        rwa [show 1 + (k - 1) = k by omega] at this
    · rw [State.setInput_elevator, State.nextInput_elevator, hsetting, huelevator]
      rfl
    · have halarms : u.alarms = s.alarms := by
        rw [hu]
        unfold State.fed
        simp
      exact State.nextInput_shows (s := u) (by rw [halarms, hshape.alarms]) (by rw [hsetting]; exact hle) (by rwa [halarms])
  · obtain ⟨u, hu⟩ : ∃ u : State, u =
        (let s1 := s.emptyStage.setInputSlot f.slot .misfed
        { s1 with elevator := { s1.elevator with
          feeding := none
          inputPusher := .returning
          input := { s1.elevator.input with activity := .waitingResume, pushTimer := .expired } } }) := ⟨_, rfl⟩
    have hexec : exec .feedingPushTimeout s = .next (u.raiseAlarm Source.misfeed (.slot f.slot)) := by
      show Host.Outcome.next _ = _
      simp only [hf, hst, if_true, hu]
    obtain ⟨hstate, hdetail, hcontrol⟩ := State.raiseAlarm_holdEvent (s := u) (i := Source.misfeed)
      (by simp [hu, hshape.alarms]; decide) (by decide) (by decide) (.slot f.slot)
    refine ⟨_, hexec, by simp [hu], by simp [hu], by simp [hu], hstate, hdetail, ?_⟩
    rw [hcontrol]
    simp [hu]
  · intro s n p hshape hb ha hp hd old
    obtain ⟨u, hu⟩ : ∃ u, u = s.atRelease := ⟨_, rfl⟩
    obtain ⟨-, hloader, -, helevator, -, -⟩ := s.atRelease_frame
    have hactive := s.atRelease_isActive (i := Source.misfeed) (by decide)
    have hlevel := s.atRelease_level (i := Source.magazineEmpty) (by decide)
    rw [← hu] at hloader helevator hactive hlevel
    obtain ⟨v, hv⟩ : ∃ v, v = (u.resumeSender p).resumeReceiver := ⟨_, rfl⟩
    have hvelevator : v.elevator = s.elevator := by rw [hv, ← helevator]; simp
    have hventry (j : Nat) (h : Source.dwellLimit ≠ j) : v.alarms.entry j = u.alarms.entry j :=
      hv ▸ State.resumeHandoff_entry_ne p u h
    have hvactive : v.isActive Source.misfeed = u.isActive Source.misfeed := by
      unfold State.isActive
      rw [hventry _ (by decide)]
    obtain ⟨hgoes, hstays⟩ := State.releaseInput_waiting (s := v) (n := n) (by rwa [hvelevator]) (by rwa [hvelevator]) (by rwa [hvelevator])
    have hexec : exec (.resumeKey p) s = .next (v.releaseInput.releaseOutput p).settle := by
      rw [hv, hu]
      exact exec_resumeKey_atRelease p hb
    obtain ⟨w, hw⟩ : ∃ w, w = v.releaseInput := ⟨_, rfl⟩
    obtain ⟨hinput, hslots, hmag, hentry⟩ := w.releaseOutput_rest p
    rw [← hw] at hexec hgoes hstays
    have hend (hne : w.elevator.input.activity ≠ .moving) :=
      State.settle_input (s := w.releaseOutput p) (by rwa [hinput])
    refine ⟨_, hexec, fun hgone => ?_, fun hs hl => ?_⟩
    · have hnot : v.isActive Source.misfeed = false := by
        rw [hvactive, Bool.eq_false_iff]
        intro h
        have := hactive.1 h
        rcases hgone with h | h
        · exact h this.1
        · exact absurd this.2 (not_lt.2 h)
      have hwelevator : w.elevator = { s.elevator with input := { s.elevator.input with
          activity := .idle
          target := some (if n < s.setting (·.magazine.inputSlots) 0 then .slot (n + 1) else .exchange) } } := by
        rw [hgoes hnot, State.setInput_elevator, State.nextInput_elevator, hvelevator,
          State.setting_congr (s := s) (by rw [hv, ← hloader]; simp)]
        rfl
      obtain ⟨h1, h2, h3⟩ := hend (by rw [hwelevator]; simp)
      refine ⟨?_, ?_, ?_, fun hle hne => ?_⟩
      · rw [h2, hslots, hwelevator]
      · rw [h3, hmag, hwelevator]
      · rw [h1, hinput, hwelevator]
      · have hshow : w.ShowsCondition Source.magazineEmpty .none := by
          rw [hgoes hnot]
          refine State.nextInput_shows (s := v) ?_ ?_ ?_
          · rw [hv, hu, ← hshape.alarms, ← s.atRelease_length]
            simp
          · rw [State.setting_congr (s := s) (by rw [hv, ← hloader]; simp)]
            exact hle
          · rw [hventry _ (by decide), hlevel]
            exact hne
        refine (hshow.congr (hentry _ (by decide) (by decide) (by decide))).congr ?_
        exact (Settles.settle _).entry _ (by decide)
    · have hyes : v.isActive Source.misfeed = true := by rw [hvactive, hactive]; exact ⟨hs, hl⟩
      have hwelevator : w.elevator = s.elevator := by rw [hstays hyes, hvelevator]
      obtain ⟨h1, -, -⟩ := hend (by rw [hwelevator, ha]; decide)
      rw [h1, hinput, hwelevator]

end Sys2Proof.Machine
end


section
/-! PROOFS. A strip leaves the stage (R48, R143 to R146, R150 to R152): the report a closing composes, what the end of an unloading leaves, and
the RESUME press that reads the sensors. -/

namespace Sys2Proof.Machine

/-! ## The report (R150 to R152) -/

theorem length_unitLines (u : Nat) (l : List UnitEntry) : (unitLines u l).length = l.length := by
  induction l generalizing u with
  | nil => rfl
  | cons e es ih => simp [unitLines, ih]

theorem seqBefore_self (q : Nat) : seqBefore q q = false := by
  simp [seqBefore, forwardDistance]

/-- R150: the assembly table after a strip of line sequence `q` was closed. -/
def tableClosed (q : Nat) (l : List ReportEntry) : List ReportEntry :=
  if q = 0 then l else l.filter fun e => decide (e.lineSeq ≠ q) && !seqBefore e.lineSeq q

/-- R150: what freeing the orphans leaves of the report unit. -/
theorem State.freeOrphans_report_eq (q : Nat) (s : State) :
    ∃ n, (s.freeOrphans q).report = { s.report with
        table := if q = 0 then s.report.table else s.report.table.filter fun e => !seqBefore e.lineSeq q
        lost := n } ∧
      ((∀ e ∈ s.report.table, seqBefore e.lineSeq q = false) → n = s.report.lost) := by
  unfold State.freeOrphans
  split
  · exact ⟨s.report.lost, rfl, fun _ => rfl⟩
  · cases hl : s.report.table.filter fun e => seqBefore e.lineSeq q with
    | nil => exact ⟨s.report.lost, rfl, fun _ => rfl⟩
    | cons e es =>
      obtain ⟨n, hn, -⟩ := State.loseEntries_report (e :: es)
        { s with report := { s.report with table := s.report.table.filter fun e => !seqBefore e.lineSeq q } }
      refine ⟨n, hn, fun h => ?_⟩
      have he := List.mem_filter.1 (hl ▸ List.mem_cons_self : e ∈ s.report.table.filter fun e => seqBefore e.lineSeq q)
      have := h e he.1
      simp [he.2] at this

/-- R151, R152: the lines of the report, by the record and what the table held of the strip. -/
structure ReportReads (r : StripRecord) (u : Unloading) (before : ReportUnit) (lines : List ReportLine) : Prop where
  untracked : r.tracked = none → lines.length = 2 ∧ lines[1]? = some (.ending r.lineSeq 2 0 0)
  tracked : ∀ tk e, r.tracked = some tk → r.lineSeq ≠ 0 → before.table = [e] → e.lineSeq = r.lineSeq →
    lines = .trackedHeader r.serial r.lineSeq tk.table.length tk.segments r.dwell r.sample tk.dropped
        tk.suspects.length u.slot u.good u.reject before.lost ::
      (unitLines 1 tk.table ++ e.lines.map .pull ++
        [.ending r.lineSeq (tk.table.length + e.lines.length + 2) e.lines.length e.dropped])
  unheard : ∀ tk, r.tracked = some tk → before.table = [] → lines.length = tk.table.length + 2

/-- R150 to R152: what closing a strip leaves of the report unit. -/
theorem State.composeReport_reads (r : StripRecord) (u : Unloading) (s : State) :
    ∃ lines, (s.composeReport r u).report = { s.report with
        table := tableClosed r.lineSeq s.report.table, ready := s.report.ready ++ [lines], reserved := false, lost := 0 } ∧
      ReportReads r u s.report lines := by
  obtain ⟨n, hfree, hlost⟩ := s.freeOrphans_report_eq r.lineSeq
  have htable : ((s.freeOrphans r.lineSeq).report.table.filter fun e => decide (r.lineSeq = 0) || decide (e.lineSeq ≠ r.lineSeq)) =
      tableClosed r.lineSeq s.report.table := by
    rw [hfree, tableClosed]
    by_cases hq : r.lineSeq = 0
    · simp [hq]
    · simp [hq, List.filter_filter]
  have hown (e : ReportEntry) (hq : r.lineSeq ≠ 0) (ht : s.report.table = [e]) (he : e.lineSeq = r.lineSeq) :
      (s.freeOrphans r.lineSeq).report.ownEntry r.lineSeq = some e ∧ n = s.report.lost := by
    have hstays : seqBefore e.lineSeq r.lineSeq = false := by rw [he, seqBefore_self]
    refine ⟨?_, hlost (by rw [ht]; simpa using hstays)⟩
    rw [hfree]
    simp [ReportUnit.ownEntry, hq, ht, he, seqBefore_self]
  unfold State.composeReport
  dsimp only
  rw [htable]
  cases hr : r.tracked with
  | some tk =>
    dsimp only
    obtain ⟨own, hown'⟩ : ∃ own, own = (s.freeOrphans r.lineSeq).report.ownEntry r.lineSeq := ⟨_, rfl⟩
    rw [← hown']
    refine ⟨trackedReport r tk u n ((own.map (·.lines)).getD []) ((own.map (·.dropped)).getD 0), by rw [hfree]; rfl, ?_,
      fun tk' e htk hq ht he => ?_, fun tk' htk ht => ?_⟩
    · simp [hr]
    · obtain rfl : tk = tk' := by rw [hr] at htk; exact Option.some.inj htk
      obtain ⟨ho, hn⟩ := hown e hq ht he
      rw [hown', ho, hn]
      simp only [trackedReport, Option.map_some, Option.getD_some]
      rw [show 1 + tk.table.length + e.lines.length + 1 = tk.table.length + e.lines.length + 2 by omega]
    · obtain rfl : tk = tk' := by rw [hr] at htk; exact Option.some.inj htk
      have ho : own = none := by
        rw [hown', hfree]
        simp [ReportUnit.ownEntry, ht]
      rw [ho]
      simp [trackedReport, length_unitLines]
  | none =>
    dsimp only
    have hreads (lost : Nat) : ReportReads r u s.report (untrackedReport r u lost) :=
      ⟨fun _ => ⟨rfl, rfl⟩, fun tk _ h => by simp [hr] at h, fun tk h => by simp [hr] at h⟩
    have hplace (v : ReportUnit) (lines : List ReportLine)
        (hv : v = { s.report with table := tableClosed r.lineSeq s.report.table, lost := v.lost }) :
        v.place lines = { s.report with
          table := tableClosed r.lineSeq s.report.table, ready := s.report.ready ++ [lines], reserved := false, lost := 0 } := by
      rw [hv]
      rfl
    split
    · exact ⟨_, hplace _ _ (by simp [State.loseEntry, hfree]), hreads _⟩
    · exact ⟨_, hplace _ _ (by rw [hfree]), hreads _⟩

/-! ## The end of an unloading (R144) -/

/-- `t` is `s` after the strip `r` was put into its slot and its record closed, the stage's pusher as given. -/
structure Unloaded (u : Unloading) (r : StripRecord) (pusher : Pusher) (s t : State) : Prop where
  stage : t.stage.state = .empty ∧ t.stage.record = none ∧ t.stage.pusher = pusher ∧ t.stage.dwell.isRunning = false
  elevator : t.elevator = { s.elevator with
    outputSlots := s.elevator.outputSlots.set (u.slot - 1) (.filled r.serial u.good u.reject)
    unloading := none
    output := { s.elevator.output with
      activity := .idle
      pushTimer := .stopped
      target := some (placeAfter (s.setting (·.magazine.outputSlots) 0) u.slot) } }
  full : s.alarms.entries.length = 40 → s.setting (·.magazine.outputSlots) 0 ≤ u.slot →
    (s.alarms.entry Source.magazineFull).level ≠ 0 → t.ShowsCondition Source.magazineFull .none
  report : ∃ lines, t.report = { s.report with
      table := tableClosed r.lineSeq s.report.table, ready := s.report.ready ++ [lines], reserved := false, lost := 0 } ∧
    ReportReads r u s.report lines

theorem State.finishUnload_unloaded {s : State} {u : Unloading} {r : StripRecord} (pusher : Pusher) (hu : s.elevator.unloading = some u)
    (hr : s.stage.record = some r) (hd : s.elevator.output.deferred = 0) : Unloaded u r pusher s (s.finishUnload pusher) := by
  obtain ⟨c, hc⟩ : ∃ c, c = (s.setOutputSlot u.slot (.filled r.serial u.good u.reject)).composeReport r u := ⟨_, rfl⟩
  obtain ⟨v, hv⟩ : ∃ v : State, v = { c.emptyStage with
      stage := { c.emptyStage.stage with pusher := pusher }
      elevator := { c.emptyStage.elevator with
        unloading := none
        output := { c.emptyStage.elevator.output with pushTimer := .stopped } } } := ⟨_, rfl⟩
  have helevator : v.elevator = { s.elevator with
      outputSlots := s.elevator.outputSlots.set (u.slot - 1) (.filled r.serial u.good u.reject)
      unloading := none
      output := { s.elevator.output with pushTimer := .stopped } } := by
    rw [hv, hc]
    simp
  have hloader : v.loader = s.loader := by
    rw [hv, hc]
    simp
  have hend : s.finishUnload pusher = (v.nextOutput u.slot).setOutput fun e => { e with activity := .idle } := by
    have hidle : (v.nextOutput u.slot).outputIdle = (v.nextOutput u.slot).setOutput fun e => { e with activity := .idle } :=
      State.outputIdle_of_none (by rw [State.nextOutput_elevator, helevator]; exact hd)
    rw [← hidle, hv, hc]
    unfold State.finishUnload
    rw [hu, hr]
  rw [hend]
  refine ⟨?_, ?_, fun hl hle hlevel => ?_, ?_⟩
  · simp [hv]
  · rw [State.setOutput_elevator, State.nextOutput_elevator, State.setting_congr hloader, helevator]
  · refine State.nextOutput_shows (s := v) ?_ ?_ ?_
    · simpa [hv, hc] using hl
    · rw [State.setting_congr hloader]
      exact hle
    · have hentry : v.alarms.entry Source.magazineFull = s.alarms.entry Source.magazineFull := by
        rw [hv]
        dsimp only
        rw [State.emptyStage_entry_ne _ (by decide), hc, State.composeReport_entry_ne _ _ _ (by decide)]
        rfl
      rwa [hentry]
  · obtain ⟨lines, hreport, hreads⟩ :=
      (s.setOutputSlot u.slot (.filled r.serial u.good u.reject)).composeReport_reads r u
    refine ⟨lines, ?_, by simpa using hreads⟩
    rw [← hc] at hreport
    simpa [hv] using hreport

/-! ## A handoff push and a pusher back at rest (R48, R49) -/

theorem State.handoffLeft_stage (s : State) :
    (s.stage.closeWhenLeft = false → s.handoffLeft.stage = { s.stage with
      push := .gone, pusher := .rest, dwell := { s.stage.dwell with isRunning := false } }) ∧
    (s.stage.closeWhenLeft = true → s.handoffLeft.stage.state = .empty ∧ s.handoffLeft.stage.record = none ∧
      s.handoffLeft.stage.transferTimer = .stopped) ∧
    s.handoffLeft.stage.pusher = .rest ∧ s.handoffLeft.stage.dwell.isRunning = false := by
  unfold State.handoffLeft
  cases h : s.stage.closeWhenLeft <;> simp [h]

/-- R48: the push begins where nothing keeps it waiting. -/
theorem State.tryPush_pushes {s : State} {ms : Nat} (ht : s.stage.transferTimer = .running ms)
    (h : s.stage.state = .handing ∧ s.stage.push = .notBegun ∧ s.stage.lastPartLeft = true ∧ s.stage.pusher = .rest) :
    s.tryPush = s.setStageUnit fun g => { g with push := .moving, pusher := .driving } := by
  unfold State.tryPush
  rw [ht]
  exact if_pos h

/-- Settles O41: the two pushes by their stage state, and the pushers' return to rest. -/
theorem stripLeavesStage : Obligations.StripLeavesStage := by
  refine ⟨fun s hst hp => ?_, fun s u r hst ha hu hr hd => ?_, fun s => ⟨fun h => congrArg _ (if_pos h), fun h => congrArg _ (if_neg h),
    fun ms hpu hst hp hl ht => ?_, fun hpu h => ?_, fun h => congrArg _ (if_neg h)⟩⟩
  · have hexec : exec .stripLeft s = .next s.handoffLeft := by
      show Host.Outcome.next _ = _
      simp only [hst, hp]
    obtain ⟨hopen, hclose, hpusher, hdwell⟩ := s.handoffLeft_stage
    refine ⟨_, hexec, hpusher, hdwell, hopen, hclose, ?_⟩
    unfold State.handoffLeft
    dsimp only
    split <;> apply State.ext <;> simp
  · have hexec : exec .stripLeft s = .next (s.finishUnload .rest) := by
      show Host.Outcome.next _ = _
      simp only [hst, ha, if_true]
    have hdone := State.finishUnload_unloaded .rest hu hr hd
    obtain ⟨hstate, hrecord, hpusher, hdwell⟩ := hdone.stage
    obtain ⟨lines, hreport, hreads⟩ := hdone.report
    refine ⟨_, hexec, hstate, hrecord, hpusher, hdwell, hdone.elevator, fun hshape => hdone.full hshape.alarms, by rw [hreport], by rw [hreport],
      by rw [hreport], fun hq => ?_, fun hq => ?_, lines, by rw [hreport], hreads.untracked, hreads.tracked, hreads.unheard⟩
    · rw [hreport]
      exact if_pos hq
    · rw [hreport]
      exact if_neg hq
  · have hexec : exec (.pusherReturnToRest .stage) s = .next (s.setStageUnit fun g => { g with pusher := .rest }).tryPush :=
      congrArg _ (if_pos hpu)
    rw [hexec, State.tryPush_pushes (s := s.setStageUnit fun g => { g with pusher := .rest }) ht ⟨hst, hp, hl, rfl⟩]
    rfl
  · have hexec : exec (.pusherReturnToRest .stage) s = .next (s.setStageUnit fun g => { g with pusher := .rest }).tryPush :=
      congrArg _ (if_pos hpu)
    rw [hexec]
    unfold State.tryPush
    split
    · exact congrArg _ (if_neg fun ⟨h1, _, h3, _⟩ => h.elim (fun h => h h1) fun h => by simp [h] at h3)
    · rfl

end Sys2Proof.Machine
end


section
/-! PROOFS. Unloading (R16, R143 to R146): the counts of a closed record, the start of an unloading by the slot's sensor, its timeout, and the
RESUME press that reads the stage's sensors. -/

namespace Sys2Proof.Machine

/-! ## A closed record (R16) -/

theorem UnitEntry.closed_status (e : UnitEntry) :
    ((UnitEntry.closed e).status = .done ↔ e.status = .done) ∧ (UnitEntry.isReject (UnitEntry.closed e) = true ↔ e.status ≠ .done) := by
  unfold UnitEntry.isReject UnitEntry.closed
  cases h : e.status <;> simp [h]

theorem length_filter_map_closed {p q : UnitEntry → Bool} (h : ∀ e, p (UnitEntry.closed e) = q e) (l : List UnitEntry) :
    ((l.map UnitEntry.closed).filter p).length = (l.filter q).length := by
  rw [List.filter_map, List.length_map]
  congr 1
  exact List.filter_congr fun e _ => h e

/-- R16: the two counts of a closed record. -/
theorem StripRecord.closed_counts {r : StripRecord} {tk : TrackedPart} (h : r.tracked = some tk) :
    (StripRecord.closed r).goodCount = (tk.table.filter fun e => decide (e.status = .done)).length ∧
    (StripRecord.closed r).rejectCount = (tk.table.filter fun e => decide (e.status ≠ .done)).length := by
  unfold StripRecord.goodCount StripRecord.rejectCount StripRecord.closed
  rw [h]
  constructor
  · exact length_filter_map_closed (fun e => by simp [(UnitEntry.closed_status e).1]) _
  · exact length_filter_map_closed (fun e => by rw [Bool.eq_iff_iff, (UnitEntry.closed_status e).2]; simp) _

/-! ## The start (R143) -/

theorem State.outputSlot?_eq {s : State} {n : Nat} (hm : s.elevator.output.magazine = true) (ha : s.elevator.output.activity = .idle)
    (hp : s.elevator.output.position = some (.slot n)) (ht : s.elevator.output.target = some (.slot n))
    (hv : s.elevator.outputSlots[n - 1]? = some .empty) : s.outputSlot? = some n := by
  unfold State.outputSlot?
  rw [hp, ht]
  exact if_pos ⟨hm, ha, rfl, hv⟩

/-- R16, R143: the state after a free slot was found and the push begun. -/
def State.unloadBegun (n : Nat) (r : StripRecord) (s : State) : State :=
  State.startUnloadPush { s.setStage .unloading with
    stage := { (s.setStage .unloading).stage with record := some (StripRecord.closed r) }
    report := { (s.setStage .unloading).report with reserved := true }
    elevator := { (s.setStage .unloading).elevator with
      unloading := some ⟨n, (StripRecord.closed r).goodCount, (StripRecord.closed r).rejectCount⟩ } }

theorem exec_unloadStart_eq {s : State} {n : Nat} {r : StripRecord} (hslot : s.unloadSlot? = some n) (hr : s.stage.record = some r) :
    exec (.unloadStart true) s = .next (((s.setOutputSlot n .blocked).raiseAlarm Source.slotBlocked (.slot n)).nextOutput n) ∧
    exec (.unloadStart false) s = .next (s.unloadBegun n r) := by
  constructor <;> show Host.Outcome.next _ = _ <;> simp only [hslot, hr, if_true, Bool.false_eq_true, if_false]
  rfl

theorem State.unloadBegun_fields (n : Nat) (r : StripRecord) (s : State) :
    (s.unloadBegun n r).stage = { s.stage with state := .unloading, record := some (StripRecord.closed r), pusher := .driving } ∧
    (s.unloadBegun n r).elevator = { s.elevator with
      unloading := some ⟨n, (StripRecord.closed r).goodCount, (StripRecord.closed r).rejectCount⟩
      output := { s.elevator.output with activity := .pushing, pushTimer := .running s.pushTimeout } } ∧
    (s.unloadBegun n r).report = { s.report with reserved := true } := by
  have htimeout (t : State) (h : t.loader = s.loader) : t.pushTimeout = s.pushTimeout := State.setting_congr h _ _
  unfold State.unloadBegun State.startUnloadPush
  dsimp only
  rw [htimeout _ (by simp)]
  simp

/-! ## The press (R145) -/

/-- A press while the stage is UNLOADING and the input elevator waits for none releases the output elevator alone. -/
theorem State.releaseWaiting_unloading {s : State} (x : StripSensors) (hst : s.stage.state = .unloading)
    (hin : s.elevator.input.activity ≠ .waitingResume) : s.releaseWaiting x = s.releaseOutput x := by
  unfold State.releaseWaiting
  rw [State.resumeSender_of_not x (.inl (by rw [hst]; decide)), State.resumeReceiver_of_not (.inl (by rw [hst]; decide)),
    State.releaseInput_of_not_waiting hin]

/-- R145: what the sensors say to an output elevator that waits for the press. -/
theorem State.releaseOutput_waiting {s : State} (x : StripSensors) (ha : s.elevator.output.activity = .waitingResume)
    (hm : s.isActive Source.misfeed = false) :
    (x.exit = true → s.releaseOutput x = s) ∧ (x.exit = false → x.arrival = true → s.releaseOutput x = s.outputIdle) ∧
    (x.exit = false → x.arrival = false → s.releaseOutput x = s.finishUnload s.stage.pusher) := by
  unfold State.releaseOutput
  rw [if_pos ⟨ha, hm⟩]
  refine ⟨fun he => ?_, fun he ha => ?_, fun he ha => ?_⟩
  · rw [he]
  · rw [he, ha]
  · rw [he, ha]

/-- R24: what a settling leaves of an output elevator that does not move. -/
theorem State.settle_output {s : State} (h : s.elevator.output.activity ≠ .moving) :
    s.settle.elevator.output = s.elevator.output ∧ s.settle.elevator.outputSlots = s.elevator.outputSlots ∧
    s.settle.elevator.unloading = s.elevator.unloading := by
  rcases s.settle_elevator with he | he <;> rw [he]
  · exact ⟨rfl, rfl, rfl⟩
  · exact ⟨Elevator.halted_of_not_moving h, rfl, rfl⟩

/-- Settles O42: the start by the slot's sensor, the timeout and the retry, and the press by the stage's sensors. -/
theorem unloadingStoresStrip : Obligations.UnloadingStoresStrip := by
  refine ⟨?_, fun s u hshape hst hu => ⟨fun ha => ?_, fun n hrun ha hpu hm hp ht => ?_⟩, ?_⟩
  · intro s n r hshape hout hst hr hrun hm ha hp ht hv hfree hi hpc hw hpu
    have hready : s.unloadReady = true := by
      rw [State.unloadReady_iff, State.outputSlot?_eq hm ha hp ht hv]
      exact ⟨hrun, rfl, by simp [State.reportPlace, hout, hfree], hi, hpc, hw⟩
    have hslot : s.unloadSlot? = some n := by
      unfold State.unloadSlot?
      rw [if_pos ⟨hout, hst, hready, hpu⟩]
      exact State.outputSlot?_eq hm ha hp ht hv
    obtain ⟨hused, hfound⟩ := exec_unloadStart_eq hslot hr
    refine ⟨?_, ?_⟩
    · obtain ⟨u, hu⟩ : ∃ u, u = (s.setOutputSlot n .blocked).raiseAlarm Source.slotBlocked (.slot n) := ⟨_, rfl⟩
      rw [← hu] at hused
      have hsetting : u.setting (·.magazine.outputSlots) 0 = s.setting (·.magazine.outputSlots) 0 := State.setting_congr (by simp [hu]) _ _
      have hentry : u.alarms.entry Source.magazineFull = s.alarms.entry Source.magazineFull := by
        rw [hu, State.raiseAlarm_entry_ne _ _ (by decide)]
        rfl
      refine ⟨_, hused, by simp [hu], by simp [hu], ?_, fun hlevel => ?_, fun hle hlevel => ?_⟩
      · rw [State.nextOutput_elevator, hsetting, hu]
        simp [placeAfter]
      · rw [State.nextOutput_entry_ne _ _ (by decide), hu]
        exact State.raiseAlarm_event (s := s.setOutputSlot n .blocked) (by decide) (AlarmUnit.disabled_of_level hlevel) (hshape.alarms ▸ (by decide : 30 < 40)) _
      · exact State.nextOutput_shows (by simp [hu, hshape.alarms]) (by rw [hsetting]; exact hle) (by rwa [hentry])
    · obtain ⟨hstage, helevator, hreport⟩ := s.unloadBegun_fields n r
      refine ⟨_, StripRecord.closed r, hfound, hstage, rfl, rfl, rfl, rfl, fun hno => ?_, fun tk htk => ?_, by rw [helevator], hreport, ?_⟩
      · refine ⟨by simp [StripRecord.closed, hno], ?_⟩
        rw [helevator]
        simp [StripRecord.closed, StripRecord.goodCount, StripRecord.rejectCount, hno]
      · obtain ⟨hgood, hreject⟩ := StripRecord.closed_counts htk
        refine ⟨{ tk with table := tk.table.map UnitEntry.closed }, by simp [StripRecord.closed, htk], rfl, rfl, ?_⟩
        rw [helevator, hgood, hreject]
      · unfold State.unloadBegun State.startUnloadPush
        apply State.ext <;> simp
  · obtain ⟨v, hv⟩ : ∃ v : State, v = { s with
        stage := { s.stage with pusher := .returning }
        elevator := { s.elevator with
          output := { s.elevator.output with activity := .waitingResume, pushTimer := .expired } } } := ⟨_, rfl⟩
    have hexec : exec .unloadingPushTimeout s = .next (v.raiseAlarm Source.misfeed (.slot u.slot)) := by
      show Host.Outcome.next _ = _
      simp only [hu, hst, ha, and_self, if_true, hv]
    obtain ⟨hstate, hdetail, hcontrol⟩ := State.raiseAlarm_holdEvent (s := v) (i := Source.misfeed)
      (by rw [hv]; exact hshape.alarms ▸ (by decide : 8 < 40)) (by decide) (by decide) (.slot u.slot)
    refine ⟨_, hexec, by simp [hv], by simp [hv], by simp [hv], hstate, hdetail, ?_⟩
    rw [hcontrol, hv]
  · have hslot : s.retrySlot? = some n := by
      unfold State.retrySlot?
      rw [if_pos ⟨hst, s.runOrPaused_iff.2 hrun, ha, hpu⟩]
      exact Elevator.slotReached_eq hp ht hm
    show Host.Outcome.next _ = _
    simp only [hslot, hu]
    rfl
  · intro s u r p hshape hb hst hu hr hin ha hd old
    obtain ⟨v, hv⟩ : ∃ v, v = s.atRelease := ⟨_, rfl⟩
    obtain ⟨-, hloader, hstage, helevator, -, hreport⟩ := s.atRelease_frame
    have hactive := s.atRelease_isActive (i := Source.misfeed) (by decide)
    have hlevel := s.atRelease_level (i := Source.magazineFull) (by decide)
    have hlength := s.atRelease_length
    rw [← hv] at hloader hstage helevator hactive hlevel hlength hreport
    have hexec := exec_resumeKey_atRelease p hb
    rw [← hv, State.releaseWaiting_unloading p (by rw [hstage, hst]) (by rwa [helevator])] at hexec
    have hkeeps (w : State) (hws : w.stage = s.stage) : w.settle.stage.state = .unloading ∧ w.settle.stage.record = some r := by
      have haside := State.settle_aside w
      rw [haside.record (by rw [hws, hst]; decide), haside.stage, hws]
      exact ⟨hst, hr⟩
    refine ⟨_, hexec, fun hgone => ?_, fun hs hl => ?_⟩
    · have hnot : v.isActive Source.misfeed = false := by
        rw [Bool.eq_false_iff]
        intro h
        have := hactive.1 h
        rcases hgone with h | h
        · exact h this.1
        · exact absurd this.2 (not_lt.2 h)
      obtain ⟨hwait, hretry, hleft⟩ := State.releaseOutput_waiting p (by rwa [helevator]) hnot
      refine ⟨fun he => ?_, fun he har => ?_, fun he har => ?_⟩
      · rw [hwait he]
        obtain ⟨h1, -, h3⟩ := State.settle_output (s := v) (by rw [helevator, ha]; decide)
        obtain ⟨hk1, hk2⟩ := hkeeps v hstage
        exact ⟨by rw [h1, helevator], hk1, hk2, by rw [h3, helevator, hu]⟩
      · rw [hretry he har]
        have hidle : v.outputIdle.elevator = { s.elevator with output := { s.elevator.output with activity := .idle } } := by
          rw [State.outputIdle_of_none (by rwa [helevator]), State.setOutput_elevator, helevator]
        obtain ⟨h1, -, h3⟩ := State.settle_output (s := v.outputIdle) (by rw [hidle]; simp)
        obtain ⟨hk1, hk2⟩ := hkeeps v.outputIdle (by simpa using hstage)
        exact ⟨by rw [h1, hidle], hk1, hk2, by rw [h3, hidle, hu]⟩
      · rw [hleft he har]
        have hdone := State.finishUnload_unloaded v.stage.pusher (s := v) (by rwa [helevator]) (by rwa [hstage]) (by rwa [helevator])
        obtain ⟨hstate, hrecord, hpusher, hdwell⟩ := hdone.stage
        obtain ⟨lines, hrep, -⟩ := hdone.report
        have hsettles := Settles.settle (v.finishUnload v.stage.pusher)
        have haside := State.settle_aside (v.finishUnload v.stage.pusher)
        have hsetting : v.setting (·.magazine.outputSlots) 0 = s.setting (·.magazine.outputSlots) 0 := State.setting_congr hloader _ _
        obtain ⟨h1, h2, h3⟩ := State.settle_output (s := v.finishUnload v.stage.pusher) (by rw [hdone.elevator]; simp)
        rw [haside.record (by rw [hstate]; decide), haside.stage, h1, h2, h3, hdone.elevator, helevator, hsetting, hsettles.report, hrep,
          hreport]
        refine ⟨hstate, hrecord, hpusher.trans (by rw [hstage]), hdwell, rfl, rfl, rfl, fun hle hne => ?_, rfl, lines, rfl⟩
        exact (hdone.full (by rw [hlength, hshape.alarms]) (by rw [hsetting]; exact hle) (by rwa [hlevel])).congr
          (hsettles.entry _ (by decide))
    · have hyes : v.isActive Source.misfeed = true := hactive.2 ⟨hs, hl⟩
      have hsame : v.releaseOutput p = v := if_neg fun c => by simp [hyes] at c
      rw [hsame]
      obtain ⟨h1, -, -⟩ := State.settle_output (s := v) (by rw [helevator, ha]; decide)
      obtain ⟨hk1, hk2⟩ := hkeeps v hstage
      exact ⟨by rw [h1, helevator], hk1, hk2, by rw [(Settles.settle v).report, hreport]⟩

end Sys2Proof.Machine
end


section
/-! PROOFS. The samples of a bond (R88 to R93): the sink of a sample, the test that ends the bond, and what the end asks of the record. -/

namespace Sys2Proof.Machine

/-! ## The sink and the tests (R89, R90) -/

theorem sinkOf_eq (c : Int) (z : Option Int) (last : Nat) :
    sinkOf c z last = match z with
      | some z => if c - z < 0 then 0 else if 500 < c - z then 500 else (c - z).toNat
      | none => last := by
  cases z with
  | none => rfl
  | some z =>
    dsimp only [sinkOf]
    split_ifs <;> omega

/-- R90: the outcome each test gives, the tests in their order. -/
theorem judgeSample_eq_some {g : BondSet} {e sink : Nat} {o : BondOutcome}
    (h : (o = .crush ∧ g.maxSink < sink) ∨ (o = .sinkMet ∧ (¬g.maxSink < sink ∧ g.targetSink ≤ sink) ∧ g.minTime ≤ e) ∨
      (o = .fast ∧ (¬g.maxSink < sink ∧ g.targetSink ≤ sink) ∧ e < g.minTime) ∨
      (o = .timed ∧ (¬g.maxSink < sink ∧ ¬(¬g.maxSink < sink ∧ g.targetSink ≤ sink) ∧ e = g.maxTime) ∧ g.minSink ≤ sink) ∨
      (o = .short ∧ (¬g.maxSink < sink ∧ ¬(¬g.maxSink < sink ∧ g.targetSink ≤ sink) ∧ e = g.maxTime) ∧ sink < g.minSink)) :
    judgeSample g e sink = some o := by
  unfold judgeSample
  rcases h with ⟨rfl, hc⟩ | ⟨rfl, ⟨hc, hm⟩, ht⟩ | ⟨rfl, ⟨hc, hm⟩, ht⟩ | ⟨rfl, ⟨hc, hm, ht⟩, hk⟩ | ⟨rfl, ⟨hc, hm, ht⟩, hk⟩
  · rw [if_pos hc]
  · rw [if_neg hc, if_pos hm, if_pos ht]
  · rw [if_neg hc, if_pos hm, if_neg (not_le.2 ht)]
  · rw [if_neg hc, if_neg fun c => hm ⟨hc, c⟩, if_pos ht, if_pos hk]
  · rw [if_neg hc, if_neg fun c => hm ⟨hc, c⟩, if_pos ht, if_neg (not_le.2 hk)]

theorem judgeSample_eq_none {g : BondSet} {e sink : Nat} (hc : ¬g.maxSink < sink) (hm : ¬(¬g.maxSink < sink ∧ g.targetSink ≤ sink))
    (hl : ¬(¬g.maxSink < sink ∧ ¬(¬g.maxSink < sink ∧ g.targetSink ≤ sink) ∧ e = g.maxTime)) : judgeSample g e sink = none := by
  unfold judgeSample
  rw [if_neg hc, if_neg fun c => hm ⟨hc, c⟩, if_neg fun c => hl ⟨hc, hm, c⟩]

/-! ## What the outcome asks for (R91 to R93) -/

theorem State.askSuspect_of_not_open {s : State} {u : Nat} {e : UnitEntry} (w : Nat) (cause : SuspectCause) (h : s.unit? u = some e)
    (ho : e.status ≠ .isOpen) : s.askSuspect u w cause = s :=
  if_neg (by simpa [State.unitStatus?, h] using ho)

theorem State.askSuspect_of_open {s : State} {u : Nat} {e : UnitEntry} (w : Nat) (cause : SuspectCause) (h : s.unit? u = some e)
    (ho : e.status = .isOpen) : s.askSuspect u w cause = s.addSuspect u w cause :=
  if_pos (by simp [State.unitStatus?, h, ho])

/-- R10, R92: a suspect asked for an OPEN unit of a LOADED stage: as it stands where the list has it, else joined, else dropped. -/
theorem State.askSuspect_open {s : State} {u w : Nat} {e : UnitEntry} {r : StripRecord} {tk : TrackedPart} (cause : SuspectCause)
    (h : s.unit? u = some e) (ho : e.status = .isOpen) (hl : s.stage.state = .loaded) (hr : s.stage.record = some r)
    (ht : r.tracked = some tk) :
    ((∃ x ∈ tk.suspects, x.unit = u ∧ x.wire = w) → s.askSuspect u w cause = s) ∧
    ((∀ x ∈ tk.suspects, x.unit ≠ u ∨ x.wire ≠ w) → tk.suspects.length < 16 →
      s.askSuspect u w cause = { s with stage := { s.stage with
        record := some { r with tracked := some { tk with suspects := tk.suspects ++ [⟨u, w, cause⟩] } } } }) ∧
    ((∀ x ∈ tk.suspects, x.unit ≠ u ∨ x.wire ≠ w) → 16 ≤ tk.suspects.length →
      s.askSuspect u w cause = State.raiseAlarm Source.suspectDrop (.unitWire u w) { s with stage := { s.stage with
        record := some { r with tracked := some { tk with dropped := bump 255 tk.dropped } } } }) := by
  have hnew (hn : ∀ x ∈ tk.suspects, x.unit ≠ u ∨ x.wire ≠ w) :
      ¬(s.stage.state ≠ .loaded ∨ ∃ x ∈ tk.suspects, x.unit = u ∧ x.wire = w) := by
    rintro (c | ⟨x, hx, hu, hw⟩)
    · exact c hl
    · exact (hn x hx).elim (· hu) (· hw)
  rw [State.askSuspect_of_open w cause h ho]
  refine ⟨fun hold => ?_, fun hn hlen => ?_, fun hn hlen => ?_⟩
  · unfold State.addSuspect
    simp only [hr, ht]
    exact if_pos (.inr (by simpa using hold))
  · rcases State.addSuspect_cases u w cause hr ht with ⟨hc, -⟩ | ⟨-, hadd⟩ | ⟨hc, -⟩
    · exact absurd hc (hnew hn)
    · exact hadd
    · omega
  · rcases State.addSuspect_cases u w cause hr ht with ⟨hc, -⟩ | ⟨hc, -⟩ | ⟨-, hadd⟩
    · exact absurd hc (hnew hn)
    · omega
    · exact hadd

/-- R91: an outcome that rejects the unit. -/
theorem State.bondConsequence_rejects {s : State} {o : BondOutcome} {mark : Bool}
    (h : o = .crush ∨ (o = .short ∧ (mark = true ∨ s.pullDownstream = false))) (u w : Nat) :
    s.bondConsequence o mark u w = s.requestReject u .bondFail := by
  rcases h with rfl | ⟨rfl, h⟩
  · exact State.bondConsequence_crush mark s u w
  · cases mark with
    | true => rfl
    | false => exact if_neg (by simpa using h)

/-- R91: a short bond that may still be pulled asks for a suspect. -/
theorem State.bondConsequence_short {s : State} (h : s.pullDownstream = true) (u w : Nat) :
    s.bondConsequence .short false u w = s.askSuspect u w .shortSink := if_pos h

/-- R91, R93: the outcomes that ask for a suspect, each with its cause. -/
theorem State.bondConsequence_asks {s : State} {o : BondOutcome} {mark : Bool}
    (h : (mark = true ∧ (o = .sinkMet ∨ o = .timed ∨ o = .fast)) ∨ (mark = false ∧ o = .short ∧ s.pullDownstream = true)) (u w : Nat) :
    ∃ cause, s.bondConsequence o mark u w = s.askSuspect u w cause := by
  rcases h with ⟨rfl, ho⟩ | ⟨rfl, rfl, hd⟩
  · exact ⟨_, (State.bondConsequence_of_good ho s u w).2⟩
  · exact ⟨_, State.bondConsequence_short hd u w⟩

@[simp] theorem State.bondConsequence_stock (o : BondOutcome) (mark : Bool) (u w : Nat) (s : State) :
    (s.bondConsequence o mark u w).wire.stock = s.wire.stock := by
  unfold State.bondConsequence
  (repeat' split) <;> simp

/-! ## The sample -/

theorem State.bonding_iff {s : State} : s.wire.bonding = true ↔ s.wire.cycle = .bondFirst ∨ s.wire.cycle = .bondSecond := by
  simp [WireSequencer.bonding]

theorem exec_bondSample_eq {s : State} {b : Bond} {f : WireInFlight} (z : Option Int) (g : Nat) (hb : s.energy.bond = some b)
    (hf : s.wire.inFlight = some f) (hc : s.wire.cycle = .bondFirst ∨ s.wire.cycle = .bondSecond) :
    exec (.bondSample z g) s = .next
      (match judgeSample (s.bondSet b.bondClass b.side) (b.samples + 1) (sinkOf b.contactZ z b.sink) with
        | some o => ((s.closeBond (b.sampled z g) o).bondConsequence o b.saturated f.unit f.wire).afterBond b.side f
        | none => { s with energy := { s.energy with bond := some (b.sampled z g) } }) := by
  show Host.Outcome.next _ = _
  simp only [hb, hf, State.bonding_iff.2 hc, if_true]
  rfl

/-- What the phase that a bond's end opens leaves, and the wire sequencer it makes. -/
theorem State.afterBond_fields (side : Side) (f : WireInFlight) (s : State) :
    (s.afterBond side f).energy = s.energy ∧ (s.afterBond side f).stage = s.stage ∧ (s.afterBond side f).alarms = s.alarms ∧
    (s.afterBond side f).ports.ultrasonic = s.ports.ultrasonic ∧ (s.afterBond side f).ports.bondForce = s.ports.bondForce ∧
    (s.afterBond side f).wire.stock = s.wire.stock ∧ (s.afterBond side f).wire.inFlight = s.wire.inFlight ∧
    (side = .first → (s.afterBond side f).wire.cycle = .looping) ∧ (side = .second → (s.afterBond side f).wire.cycle = .tailing) := by
  cases side with
  | first => exact ⟨rfl, rfl, rfl, rfl, rfl, rfl, rfl, fun _ => rfl, nofun⟩
  | second => exact ⟨rfl, rfl, rfl, rfl, rfl, rfl, rfl, nofun, fun _ => rfl⟩

/-- Settles O35: the interval's demand, and the sample by its test: no test holds, or the outcome with its row of R91's table. -/
theorem samplesRampAndEndBond : Obligations.SamplesRampAndEndBond := by
  constructor
  · intro s b hb hc rs
    show Host.Outcome.next _ = _
    simp only [hb, State.bonding_iff.2 hc, if_true]
    by_cases h : b.samples + 1 ≤ rs
    · rw [if_pos h, demandAt, if_pos ⟨h, by omega⟩]
    · rw [if_neg h, demandAt, if_neg fun c => h c.1]
  · intro s b f z g hb hf hc q e sink crush met late
    have hsink : sinkOf b.contactZ z b.sink = sink := sinkOf_eq _ _ _
    have hexec := exec_bondSample_eq z g hb hf hc
    refine ⟨_, hexec, fun hn1 hn2 hn3 => ?_, fun o ho => ?_⟩
    · have hjudge : judgeSample (s.bondSet b.bondClass b.side) (b.samples + 1) (sinkOf b.contactZ z b.sink) = none :=
        hsink ▸ judgeSample_eq_none hn1 hn2 hn3
      rw [hjudge]
      dsimp only [Bond.sampled]
      rw [hsink]
    · have hjudge : judgeSample (s.bondSet b.bondClass b.side) (b.samples + 1) (sinkOf b.contactZ z b.sink) = some o :=
        hsink ▸ judgeSample_eq_some ho
      rw [hjudge]
      dsimp only
      obtain ⟨v, hv⟩ : ∃ v, v = s.closeBond (b.sampled z g) o := ⟨_, rfl⟩
      rw [← hv]
      have hstage : v.stage = s.stage := by rw [hv]; rfl
      have halarms : v.alarms = s.alarms := by rw [hv]; rfl
      have hdown : v.pullDownstream = s.pullDownstream := by rw [hv]; rfl
      have hunit : v.unit? f.unit = s.unit? f.unit := State.unit?_congr (by rw [hstage]) _
      obtain ⟨henergy, hstage', halarms', hultra, hforce, hstock, hflight, hfirst, hsecond⟩ :=
        State.afterBond_fields b.side f (v.bondConsequence o b.saturated f.unit f.wire)
      obtain ⟨t, ht⟩ : ∃ t, t = (v.bondConsequence o b.saturated f.unit f.wire).afterBond b.side f := ⟨_, rfl⟩
      rw [← ht] at henergy hstage' halarms' hultra hforce hstock hflight hfirst hsecond ⊢
      have hgood (hs : b.saturated = false) (h1 : o ≠ .crush) (h2 : o ≠ .short) : v.bondConsequence o b.saturated f.unit f.wire = v := by
        rw [hs, (State.bondConsequence_of_good (by cases o <;> simp_all) v f.unit f.wire).1]
      refine ⟨?_, ?_, ?_, ?_, fun hs => ⟨hfirst hs, ?_⟩, fun hs => ⟨hsecond hs, ?_⟩, fun hs h1 h2 => ?_, fun u hu hl => ?_⟩
      · rw [henergy, (State.bondConsequence_frame _ _ _ _ _).2.2.2.1, hv]
        simp only [State.closeBond, Bond.sampled, hsink]
        rfl
      · simp [hultra, hv, State.closeBond]
      · simp [hforce, hv, State.closeBond]
      · rw [hstock, State.bondConsequence_stock, hv]
        rfl
      · rw [hflight, (State.bondConsequence_wire _ _ _ _ _).2, hv]
        exact hf
      · rw [hflight, (State.bondConsequence_wire _ _ _ _ _).2, hv]
        exact hf
      · rw [hstage', hgood hs h1 h2, hstage]
      · rw [← hunit] at hu
        have hl' : v.stage.state = .loaded := by rw [hstage, hl]
        have hasks (h : (b.saturated = true ∧ (o = .sinkMet ∨ o = .timed ∨ o = .fast)) ∨
            (b.saturated = false ∧ o = .short ∧ s.pullDownstream = true)) := State.bondConsequence_asks (hdown ▸ h) f.unit f.wire
        refine ⟨fun h => ?_, fun r tk hr htk hopen hnew hlen => ⟨fun hs h => ?_, fun hs h hd => ?_⟩, fun h => ?_⟩
        · rw [State.unit?_congr (s := v.bondConsequence o b.saturated f.unit f.wire) (by rw [hstage']),
            State.bondConsequence_rejects (hdown ▸ h)]
          exact State.requestReject_unit _ hu hl'
        · rw [hstage', hs, (State.bondConsequence_of_good h v f.unit f.wire).2,
            (State.askSuspect_open _ hu hopen hl' (hstage ▸ hr) htk).2.1 hnew hlen]
        · rw [hstage', hs, h, State.bondConsequence_short (hdown ▸ hd),
            (State.askSuspect_open _ hu hopen hl' (hstage ▸ hr) htk).2.1 hnew hlen]
        · obtain ⟨cause, hask⟩ := hasks h
          rw [hask] at hstage' halarms'
          refine ⟨fun hopen => by rw [hstage', State.askSuspect_of_not_open _ _ hu hopen, hstage], fun r tk hr htk hopen => ?_⟩
          obtain ⟨hold, -, hdrop⟩ := State.askSuspect_open cause hu hopen hl' (hstage ▸ hr) htk
          refine ⟨fun h => by rw [hstage', halarms', hold h, hstage, halarms]; exact ⟨rfl, rfl⟩, fun hnew hlen => ?_⟩
          rw [hstage', halarms', hdrop hnew hlen]
          refine ⟨by simp, fun hshape hlevel => ?_⟩
          exact State.raiseAlarm_event (s := { v with stage := { v.stage with
              record := some { r with tracked := some { tk with dropped := bump 255 tk.dropped } } } }) (by decide)
            (AlarmUnit.disabled_of_level (by rwa [← halarms] at hlevel)) (halarms ▸ hshape.alarms ▸ (by decide : Source.suspectDrop < 40)) _

end Sys2Proof.Machine
end


section
/-! PROOFS. What a PULL station pulls next, and its cycle (R116 to R122): each part of a unit's work list with what its first open pull
says, the audit candidate from the cursor, and the audit of mode WAIT. -/

namespace Sys2Proof.Machine

/-! ## Open pulls (R117) -/

/-- R117: wire `w` of unit `u` is still to be pulled: not yet pulled, and read as bonded. -/
def State.PullLeft (s : State) (p : Program) (u : Nat) (e : UnitEntry) (w : Nat) : Prop :=
  (u, w) ∉ s.pull.pairs ∧ bondedBy p e w ≠ 0

theorem pullable_iff {e : UnitEntry} : pullable e = true ↔ e.status = .isOpen ∨ e.status = .done := by simp [pullable]

theorem State.pullLeft_iff (s : State) (p : Program) (u : Nat) (e : UnitEntry) (w : Nat) :
    s.PullLeft p u e w ↔ s.pull.pairs.contains (u, w) = false ∧ bondedBy p e w ≠ 0 := by
  simp [State.PullLeft]

theorem State.pullOpen_iff {s : State} {p : Program} {e : UnitEntry} {c : PullChoice} :
    s.pullOpen p e c = true ↔ pullable e = true ∧ s.PullLeft p c.unit e c.wire := by
  simp [State.pullOpen, State.PullLeft, and_assoc]

theorem State.not_pullLeft_of_shut {s : State} {p : Program} {e : UnitEntry} {u w : Nat} {k : PullKind} {m : PullMode}
    (he : pullable e = true) (h : s.pullOpen p e ⟨u, w, k, m⟩ = false) : ¬s.PullLeft p u e w := fun hleft => by
  rw [State.pullOpen_iff.2 ⟨he, hleft⟩] at h
  contradiction

/-! ## The audit candidate (R119) -/

/-- R119: the `j`-th wire looked at from wire `w` on, round the program's `n`. -/
def wireFrom (w n j : Nat) : Nat := (w - 1 + j) % n + 1

theorem wireFrom_zero {w n : Nat} (h1 : 1 ≤ w) (hn : w ≤ n) : wireFrom w n 0 = w := by
  unfold wireFrom
  rw [Nat.add_zero, Nat.mod_eq_of_lt (by omega)]
  omega

theorem wireFrom_next {w n : Nat} (j : Nat) (h1 : 1 ≤ w) (hn : w ≤ n) :
    wireFrom (if w < n then w + 1 else 1) n j = wireFrom w n (j + 1) := by
  unfold wireFrom
  split
  · rw [show w + 1 - 1 + j = w - 1 + (j + 1) by omega]
  · rw [show w - 1 + (j + 1) = 1 - 1 + j + n by omega, Nat.add_mod_right]

/-- R119: what the search for the audit candidate finds. -/
theorem State.candidateFrom_spec (s : State) (p : Program) (u : Nat) (e : UnitEntry) {w : Nat} (n : Nat) (h1 : 1 ≤ w)
    (hw : w ≤ p.wires.length) :
    (∀ v, s.candidateFrom p u e w n = some v → ∃ j, j < n ∧ v = wireFrom w p.wires.length j ∧ s.PullLeft p u e v ∧
      ∀ i, i < j → ¬s.PullLeft p u e (wireFrom w p.wires.length i)) ∧
    (s.candidateFrom p u e w n = none → ∀ j, j < n → ¬s.PullLeft p u e (wireFrom w p.wires.length j)) := by
  induction n generalizing w with
  | zero => exact ⟨fun v h => by simp [State.candidateFrom] at h, fun _ j hj => absurd hj j.not_lt_zero⟩
  | succ n ih =>
    obtain ⟨ihsome, ihnone⟩ := ih (w := if w < p.wires.length then w + 1 else 1) (by split <;> omega) (by split <;> omega)
    have hzero := wireFrom_zero h1 hw
    rw [State.candidateFrom]
    split
    · next hc =>
      refine ⟨fun v h => ?_, nofun⟩
      obtain rfl : w = v := Option.some.inj h
      exact ⟨0, n.succ_pos, hzero.symm, (s.pullLeft_iff p u e w).2 hc, fun i hi => absurd hi i.not_lt_zero⟩
    · next hc =>
      rw [← State.pullLeft_iff, ← hzero] at hc
      refine ⟨fun v h => ?_, fun h j hj => ?_⟩
      · obtain ⟨j, hj, hv, hleft, hbefore⟩ := ihsome v h
        refine ⟨j + 1, by omega, by rw [hv, wireFrom_next j h1 hw], hleft, fun i hi => ?_⟩
        cases i with
        | zero => exact hc
        | succ i => exact wireFrom_next i h1 hw ▸ hbefore i (by omega)
      · cases j with
        | zero => exact hc
        | succ j => exact wireFrom_next j h1 hw ▸ ihnone h j (by omega)

/-- R119: a unit is open for an audit but for its wires. -/
def State.AuditDue (s : State) (p : Program) (e : UnitEntry) : Prop :=
  e.status = .done ∧ s.pull.auditCount < p.pull.auditMax ∧ s.pull.spacing = .expired

theorem State.auditDue_iff {s : State} {p : Program} {e : UnitEntry} :
    s.AuditDue p e ↔ s.auditWanted p e = true ∧ s.spacingExpired = true := by
  simp [State.AuditDue, State.auditWanted, State.spacingExpired, and_assoc]

/-- R119: what the open audit of a unit says, and what it says where there is none. -/
theorem State.openAudit_spec (s : State) (p : Program) (u : Nat) (e : UnitEntry) (h1 : 1 ≤ s.pull.cursor)
    (hw : s.pull.cursor ≤ p.wires.length) :
    (∀ c, s.openAudit p u e = some c → c.unit = u ∧ c.kind = .audit ∧ c.mode = .destruct ∧ s.AuditDue p e ∧
      ∃ j, j < p.wires.length ∧ c.wire = wireFrom s.pull.cursor p.wires.length j ∧ s.PullLeft p u e c.wire ∧
        ∀ i, i < j → ¬s.PullLeft p u e (wireFrom s.pull.cursor p.wires.length i)) ∧
    (s.openAudit p u e = none → s.AuditDue p e → ∀ j, j < p.wires.length →
      ¬s.PullLeft p u e (wireFrom s.pull.cursor p.wires.length j)) := by
  obtain ⟨hsome, hnone⟩ := s.candidateFrom_spec p u e p.wires.length h1 hw
  refine ⟨fun c h => ?_, fun h hd => ?_⟩
  · obtain ⟨hwanted, hspaced, w, hcand, rfl⟩ := State.openAudit_eq_some_iff.1 h
    exact ⟨rfl, rfl, rfl, State.auditDue_iff.2 ⟨hwanted, hspaced⟩, hsome w hcand⟩
  · refine hnone ?_
    obtain ⟨hwanted, hspaced⟩ := State.auditDue_iff.1 hd
    simpa [State.openAudit, State.auditCandidate, hwanted, hspaced] using h

/-! ## The parts of a work list (R115 to R118) -/

/-- The first element of a filtered and mapped list that passes a test, and where it stands in the list. -/
theorem find?_filterMap_spec {α β : Type} (f : α → Option β) (q : β → Bool) (l : List α) :
    (∀ c, (l.filterMap f).find? q = some c → ∃ pre x post, l = pre ++ x :: post ∧ f x = some c ∧ q c = true ∧
      ∀ y ∈ pre, ∀ d, f y = some d → q d = false) ∧
    ((l.filterMap f).find? q = none → ∀ y ∈ l, ∀ d, f y = some d → q d = false) := by
  rw [List.find?_filterMap]
  refine ⟨fun c h => ?_, fun h y hy d hd => ?_⟩
  · obtain ⟨x, hx, hc⟩ := Option.bind_eq_some_iff.1 h
    obtain ⟨hq, pre, post, hl, hpre⟩ := List.find?_eq_some_iff_append.1 hx
    refine ⟨pre, x, post, hl, hc, by simpa [hc] using hq, fun y hy d hd => ?_⟩
    simpa [hd] using hpre y hy
  · cases hfind : l.find? fun a => (f a).any q with
    | none => simpa [hd] using List.find?_eq_none.1 hfind y hy
    | some x =>
      have hq := List.find?_some hfind
      rw [hfind] at h
      simp only [Option.bind_some] at h
      simp [h] at hq

/-- R116: the suspects of a unit, as pulls. -/
def suspectPulls (t : TrackedPart) (u : Nat) : List PullChoice :=
  (t.suspects.filter fun x => decide (x.unit = u)).map fun x => ⟨u, x.wire, .suspect, .nondestruct⟩

/-- R116: the pull a suspect asks for on unit `u`. -/
def suspectPull (u : Nat) (x : Suspect) : Option PullChoice :=
  if x.unit = u then some ⟨u, x.wire, .suspect, .nondestruct⟩ else none

theorem suspectPulls_eq (t : TrackedPart) (u : Nat) : suspectPulls t u = t.suspects.filterMap (suspectPull u) := by
  unfold suspectPulls suspectPull
  induction t.suspects with
  | nil => rfl
  | cons x xs ih => by_cases hx : x.unit = u <;> simp [hx, ih]

theorem State.suspectPulls_spec (s : State) (p : Program) (t : TrackedPart) (u : Nat) {e : UnitEntry} (he : pullable e = true) :
    (∀ c, (suspectPulls t u).find? (s.pullOpen p e) = some c → c.unit = u ∧ c.kind = .suspect ∧ c.mode = .nondestruct ∧
      ∃ pre x post, t.suspects = pre ++ x :: post ∧ x.unit = u ∧ x.wire = c.wire ∧ s.PullLeft p u e x.wire ∧
        ∀ y ∈ pre, y.unit = u → ¬s.PullLeft p u e y.wire) ∧
    ((suspectPulls t u).find? (s.pullOpen p e) = none → ∀ x ∈ t.suspects, x.unit = u → ¬s.PullLeft p u e x.wire) := by
  obtain ⟨hsome, hnone⟩ := find?_filterMap_spec (suspectPull u) (s.pullOpen p e) t.suspects
  have hshut (y : Suspect) (hy : y.unit = u) (h : ∀ d, suspectPull u y = some d → s.pullOpen p e d = false) :
      ¬s.PullLeft p u e y.wire := State.not_pullLeft_of_shut he (h _ (if_pos hy))
  rw [suspectPulls_eq]
  refine ⟨fun c h => ?_, fun h x hx hu => hshut x hu (hnone h x hx)⟩
  obtain ⟨pre, x, post, hl, hx, hopen, hpre⟩ := hsome c h
  obtain ⟨hu, rfl⟩ : x.unit = u ∧ (⟨u, x.wire, .suspect, .nondestruct⟩ : PullChoice) = c := by simpa [suspectPull] using hx
  exact ⟨rfl, rfl, rfl, pre, x, post, hl, hu, rfl, (State.pullOpen_iff.1 hopen).2, fun y hy hyu => hshut y hyu (hpre y hy)⟩

/-- R118: `f` is the pending confirm, it qualifies on unit `u`, and its wire is still to be pulled there. -/
def State.Confirms (s : State) (p : Program) (q u : Nat) (e : UnitEntry) (f : PendingConfirm) : Prop :=
  s.pull.pending = some f ∧ s.pull.confirmTried = false ∧ f.origin ≠ q ∧ bondedBy p e f.wire = f.bondedBy ∧ s.PullLeft p u e f.wire

/-- R116, R118: the confirm of a unit, as a pull. -/
def State.confirmPulls (s : State) (p : Program) (q u : Nat) (e : UnitEntry) : List PullChoice :=
  match s.confirmQualifies p q e with
  | some c => [⟨u, c.wire, .confirm, .destruct⟩]
  | none => []

theorem State.confirmPulls_spec (s : State) (p : Program) (q u : Nat) {e : UnitEntry} (he : pullable e = true) :
    (∀ c, (s.confirmPulls p q u e).find? (s.pullOpen p e) = some c → c.unit = u ∧ c.kind = .confirm ∧ c.mode = .destruct ∧
      ∃ f, s.Confirms p q u e f ∧ f.wire = c.wire) ∧
    ((s.confirmPulls p q u e).find? (s.pullOpen p e) = none → ∀ f, ¬s.Confirms p q u e f) := by
  have hqual (f : PendingConfirm) : s.confirmQualifies p q e = some f ↔ s.pull.pending = some f ∧ s.pull.confirmTried = false ∧
      f.origin ≠ q ∧ bondedBy p e f.wire = f.bondedBy := by
    unfold State.confirmQualifies
    cases hp : s.pull.pending with
    | none => simp
    | some g =>
      simp only [he, true_and, Option.ite_none_right_eq_some, Option.some.injEq]
      constructor
      · rintro ⟨h, rfl⟩
        exact ⟨rfl, h⟩
      · rintro ⟨rfl, h⟩
        exact ⟨h, rfl⟩
  unfold State.confirmPulls
  refine ⟨fun c h => ?_, fun h f hf => ?_⟩
  · cases hf : s.confirmQualifies p q e with
    | none => simp [hf] at h
    | some f =>
      rw [hf] at h
      obtain ⟨hopen, rfl⟩ : s.pullOpen p e ⟨u, f.wire, .confirm, .destruct⟩ = true ∧ _ = c := by
        simpa [List.find?_singleton] using h
      obtain ⟨hpend, htried, horigin, hby⟩ := (hqual f).1 hf
      exact ⟨rfl, rfl, rfl, f, ⟨hpend, htried, horigin, hby, (State.pullOpen_iff.1 hopen).2⟩, rfl⟩
  · obtain ⟨hpend, htried, horigin, hby, hleft⟩ := hf
    rw [(hqual f).2 ⟨hpend, htried, horigin, hby⟩] at h
    exact State.not_pullLeft_of_shut he (by simpa [List.find?_singleton] using h) hleft

/-- R115, R116: an entry of the plan asks for a pull of unit `u` that is still to be done. -/
def State.OnPlan (s : State) (p : Program) (u : Nat) (e : UnitEntry) (x : PlanEntry) : Prop :=
  x.unit = u ∧ x.mode ≠ none ∧ s.PullLeft p u e x.wire

/-- R115, R116: the pull an entry of the plan asks for on unit `u`. -/
def planPull (u : Nat) (x : PlanEntry) : Option PullChoice :=
  match x.mode with
  | some m => if x.unit = u then some ⟨u, x.wire, .plan, m⟩ else none
  | none => none

theorem planPull_eq_some {u : Nat} {x : PlanEntry} {c : PullChoice} :
    planPull u x = some c ↔ ∃ m, x.mode = some m ∧ x.unit = u ∧ ⟨u, x.wire, .plan, m⟩ = c := by
  unfold planPull
  cases x.mode <;> simp

theorem planPulls_eq (p : Program) (u : Nat) : planPulls p u = (p.plan.take p.planCount).filterMap (planPull u) := rfl

theorem State.planPulls_spec (s : State) (p : Program) (u : Nat) {e : UnitEntry} (he : pullable e = true) :
    (∀ c, (planPulls p u).find? (s.pullOpen p e) = some c → c.unit = u ∧ c.kind = .plan ∧
      ∃ pre x post, p.plan.take p.planCount = pre ++ x :: post ∧ s.OnPlan p u e x ∧ x.wire = c.wire ∧ x.mode = some c.mode ∧
        ∀ y ∈ pre, ¬s.OnPlan p u e y) ∧
    ((planPulls p u).find? (s.pullOpen p e) = none → ∀ x ∈ p.plan.take p.planCount, ¬s.OnPlan p u e x) := by
  obtain ⟨hsome, hnone⟩ := find?_filterMap_spec (planPull u) (s.pullOpen p e) (p.plan.take p.planCount)
  have hshut (y : PlanEntry) (h : ∀ d, planPull u y = some d → s.pullOpen p e d = false) : ¬s.OnPlan p u e y := by
    rintro ⟨hu, hm, hleft⟩
    obtain ⟨m, hm⟩ := Option.ne_none_iff_exists'.1 hm
    exact State.not_pullLeft_of_shut he (h _ (planPull_eq_some.2 ⟨m, hm, hu, rfl⟩)) hleft
  rw [planPulls_eq]
  refine ⟨fun c h => ?_, fun h x hx => hshut x (hnone h x hx)⟩
  obtain ⟨pre, x, post, hl, hx, hopen, hpre⟩ := hsome c h
  obtain ⟨m, hm, hu, rfl⟩ := planPull_eq_some.1 hx
  exact ⟨rfl, rfl, pre, x, post, hl, ⟨hu, by simp [hm], (State.pullOpen_iff.1 hopen).2⟩, rfl, hm, fun y hy => hshut y (hpre y hy)⟩

/-- R116, R119: the audit of a unit, as a pull of mode EVERY. -/
def State.auditPulls (s : State) (p : Program) (u : Nat) (e : UnitEntry) : List PullChoice :=
  if p.pull.auditMode = .every then (s.openAudit p u e).toList else []

theorem State.auditPulls_spec (s : State) (p : Program) (u : Nat) {e : UnitEntry} (he : pullable e = true) (h1 : 1 ≤ s.pull.cursor)
    (hw : s.pull.cursor ≤ p.wires.length) :
    (∀ c, (s.auditPulls p u e).find? (s.pullOpen p e) = some c → c.unit = u ∧ c.kind = .audit ∧ c.mode = .destruct ∧
      p.pull.auditMode = .every ∧ s.AuditDue p e ∧
      ∃ j, j < p.wires.length ∧ c.wire = wireFrom s.pull.cursor p.wires.length j ∧ s.PullLeft p u e c.wire ∧
        ∀ i, i < j → ¬s.PullLeft p u e (wireFrom s.pull.cursor p.wires.length i)) ∧
    ((s.auditPulls p u e).find? (s.pullOpen p e) = none → p.pull.auditMode = .every → s.AuditDue p e →
      ∀ j, j < p.wires.length → ¬s.PullLeft p u e (wireFrom s.pull.cursor p.wires.length j)) := by
  obtain ⟨hsome, hnone⟩ := s.openAudit_spec p u e h1 hw
  unfold State.auditPulls
  refine ⟨fun c h => ?_, fun h hm => ?_⟩
  · have hmem := List.mem_of_find?_eq_some h
    split at hmem
    · next hm =>
      obtain ⟨hu, hk, hmode, hdue, hj⟩ := hsome c (by simpa using hmem)
      exact ⟨hu, hk, hmode, hm, hdue, hj⟩
    · simp at hmem
  · rw [if_pos hm] at h
    refine hnone ?_
    cases ho : s.openAudit p u e with
    | none => rfl
    | some c =>
      obtain ⟨hu, -, -, -, j, -, -, hleft, -⟩ := hsome c ho
      have := State.pullOpen_iff.2 ⟨he, (hu.symm ▸ hleft : s.PullLeft p c.unit e c.wire)⟩
      simp [ho, this] at h

theorem State.pullOnUnit_eq {s : State} {p : Program} {r : StripRecord} {t : TrackedPart} {u : Nat} {e : UnitEntry}
    (he : t.unit? u = some e) :
    s.pullOnUnit p r t u = (((((suspectPulls t u).find? (s.pullOpen p e)).or ((s.confirmPulls p r.lineSeq u e).find? (s.pullOpen p e))).or
      ((if r.sample && s.pull.planOn then planPulls p u else []).find? (s.pullOpen p e))).or
      ((s.auditPulls p u e).find? (s.pullOpen p e))) := by
  unfold State.pullOnUnit
  rw [he, ← List.find?_append, ← List.find?_append, ← List.find?_append]
  rfl

/-- R117: what the first open pull of a unit's work list says of the parts before it. -/
structure State.FirstPull (s : State) (p : Program) (r : StripRecord) (t : TrackedPart) (u : Nat) (e : UnitEntry) (c : PullChoice) :
    Prop where
  unit : c.unit = u
  pullable : e.status = .isOpen ∨ e.status = .done
  suspect : c.kind = .suspect → c.mode = .nondestruct ∧ ∃ pre x post, t.suspects = pre ++ x :: post ∧ x.unit = u ∧
    x.wire = c.wire ∧ s.PullLeft p u e x.wire ∧ ∀ y ∈ pre, y.unit = u → ¬s.PullLeft p u e y.wire
  confirm : c.kind = .confirm → c.mode = .destruct ∧ (∀ x ∈ t.suspects, x.unit = u → ¬s.PullLeft p u e x.wire) ∧
    ∃ f, s.Confirms p r.lineSeq u e f ∧ f.wire = c.wire
  plan : c.kind = .plan → (∀ x ∈ t.suspects, x.unit = u → ¬s.PullLeft p u e x.wire) ∧ (∀ f, ¬s.Confirms p r.lineSeq u e f) ∧
    r.sample = true ∧ s.pull.planOn = true ∧ ∃ pre x post, p.plan.take p.planCount = pre ++ x :: post ∧ s.OnPlan p u e x ∧
      x.wire = c.wire ∧ x.mode = some c.mode ∧ ∀ y ∈ pre, ¬s.OnPlan p u e y
  audit : c.kind = .audit → c.mode = .destruct ∧ (∀ x ∈ t.suspects, x.unit = u → ¬s.PullLeft p u e x.wire) ∧
    (∀ f, ¬s.Confirms p r.lineSeq u e f) ∧
    (r.sample = true → s.pull.planOn = true → ∀ x ∈ p.plan.take p.planCount, ¬s.OnPlan p u e x) ∧
    (p.pull.auditMode = .every ∧ s.AuditDue p e) ∧
    ∃ j, j < p.wires.length ∧ c.wire = wireFrom s.pull.cursor p.wires.length j ∧ s.PullLeft p u e c.wire ∧
      ∀ i, i < j → ¬s.PullLeft p u e (wireFrom s.pull.cursor p.wires.length i)

/-- R116, R117: the first open pull of a unit by the part of the work list that holds it. -/
theorem State.pullOnUnit_spec {s : State} {p : Program} (r : StripRecord) {t : TrackedPart} {u : Nat} {e : UnitEntry}
    (he : t.unit? u = some e) (h1 : 1 ≤ s.pull.cursor) (hw : s.pull.cursor ≤ p.wires.length) :
    (∀ c, s.pullOnUnit p r t u = some c → s.FirstPull p r t u e c) ∧
    (s.pullOnUnit p r t u = none → e.status = .isOpen ∨ e.status = .done →
      (∀ x ∈ t.suspects, x.unit = u → ¬s.PullLeft p u e x.wire) ∧ (∀ f, ¬s.Confirms p r.lineSeq u e f) ∧
      (r.sample = true → s.pull.planOn = true → ∀ x ∈ p.plan.take p.planCount, ¬s.OnPlan p u e x) ∧
      (p.pull.auditMode = .every → s.AuditDue p e → ∀ j, j < p.wires.length →
        ¬s.PullLeft p u e (wireFrom s.pull.cursor p.wires.length j))) := by
  have hplan (hn : (if r.sample && s.pull.planOn then planPulls p u else []).find? (s.pullOpen p e) = none) (hp : pullable e = true)
      (hr : r.sample = true) (ho : s.pull.planOn = true) : ∀ x ∈ p.plan.take p.planCount, ¬s.OnPlan p u e x :=
    (s.planPulls_spec p u hp).2 (by simpa [hr, ho] using hn)
  constructor
  · intro c h
    have hopen : s.pullOpen p e c = true := by
      unfold State.pullOnUnit at h
      rw [he] at h
      exact List.find?_some h
    have hp := (State.pullOpen_iff.1 hopen).1
    have hstatus := pullable_iff.1 hp
    rw [State.pullOnUnit_eq he] at h
    simp only [Option.or_eq_some_iff, Option.or_eq_none_iff] at h
    obtain ((hs | ⟨hns, hc⟩) | ⟨⟨hns, hnc⟩, hpl⟩) | ⟨⟨⟨hns, hnc⟩, hnp⟩, ha⟩ := h
    · obtain ⟨hu, hk, hm, hpull⟩ := (s.suspectPulls_spec p t u hp).1 c hs
      exact ⟨hu, hstatus, fun _ => ⟨hm, hpull⟩, by simp [hk], by simp [hk], by simp [hk]⟩
    · obtain ⟨hu, hk, hm, hpull⟩ := (s.confirmPulls_spec p r.lineSeq u hp).1 c hc
      exact ⟨hu, hstatus, by simp [hk], fun _ => ⟨hm, (s.suspectPulls_spec p t u hp).2 hns, hpull⟩, by simp [hk], by simp [hk]⟩
    · split at hpl
      · next hon =>
        obtain ⟨hu, hk, hpull⟩ := (s.planPulls_spec p u hp).1 c hpl
        rw [Bool.and_eq_true] at hon
        exact ⟨hu, hstatus, by simp [hk], by simp [hk], fun _ => ⟨(s.suspectPulls_spec p t u hp).2 hns,
          (s.confirmPulls_spec p r.lineSeq u hp).2 hnc, hon.1, hon.2, hpull⟩, by simp [hk]⟩
      · simp at hpl
    · obtain ⟨hu, hk, hm, hevery, hdue, hpull⟩ := (s.auditPulls_spec p u hp h1 hw).1 c ha
      exact ⟨hu, hstatus, by simp [hk], by simp [hk], by simp [hk], fun _ => ⟨hm, (s.suspectPulls_spec p t u hp).2 hns,
        (s.confirmPulls_spec p r.lineSeq u hp).2 hnc, hplan hnp hp, ⟨hevery, hdue⟩, hpull⟩⟩
  · intro h hstatus
    have hp := pullable_iff.2 hstatus
    rw [State.pullOnUnit_eq he, Option.or_eq_none_iff, Option.or_eq_none_iff, Option.or_eq_none_iff] at h
    obtain ⟨⟨⟨hns, hnc⟩, hnp⟩, hna⟩ := h
    exact ⟨(s.suspectPulls_spec p t u hp).2 hns, (s.confirmPulls_spec p r.lineSeq u hp).2 hnc, hplan hnp hp,
      (s.auditPulls_spec p u hp h1 hw).2 hna⟩

/-! ## Columns and waiting (R117, R120) -/

theorem State.pullOnUnit_unit {s : State} {p : Program} {r : StripRecord} {t : TrackedPart} {u : Nat} {c : PullChoice}
    (h : s.pullOnUnit p r t u = some c) : c.unit = u := by
  unfold State.pullOnUnit at h
  split at h
  · exact State.workList_unit (List.mem_of_find?_eq_some h)
  · simp at h

theorem State.nextPull_eq {s : State} {p : Program} {r : StripRecord} {t : TrackedPart} (hp : s.program? = some p)
    (hr : s.stage.record = some r) (ht : r.tracked = some t) (col : Nat) :
    s.nextPull col = (columnUnits p.rows col).findSome? (s.pullOnUnit p r t) := by
  unfold State.nextPull
  rw [hp, hr]
  dsimp only
  rw [ht]

theorem State.waitAudit_eq {s : State} {p : Program} {t : TrackedPart} (hp : s.program? = some p) (ht : s.tracked? = some t) :
    s.waitAudit = if p.pull.auditMode = .wait ∧ s.stageWaits = true then
      (List.range' 1 t.table.length).findSome? (fun u => (t.unit? u).bind (s.openAudit p u)) else none := by
  unfold State.waitAudit
  rw [hp, ht]
  dsimp only
  rw [countFrom_eq]
  congr 2
  funext u
  cases t.unit? u <;> rfl

theorem TrackedPart.unit?_range {t : TrackedPart} {u : Nat} {e : UnitEntry} (h : t.unit? u = some e) : 1 ≤ u ∧ u ≤ t.table.length := by
  unfold TrackedPart.unit? at h
  split at h
  · contradiction
  · have := (List.getElem?_eq_some_iff.1 h).1
    omega

/-- R120: in mode WAIT the first unit open for an audit, in unit order. -/
theorem State.waitAudit_first {s : State} {p : Program} {t : TrackedPart} {c : PullChoice} (hp : s.program? = some p)
    (ht : s.tracked? = some t) (h : s.waitAudit = some c) {v : Nat} {e : UnitEntry} (hv : v < c.unit) (he : t.unit? v = some e) :
    s.openAudit p v e = none := by
  rw [State.waitAudit_eq hp ht, Option.ite_none_right_eq_some] at h
  obtain ⟨-, hfind⟩ := h
  obtain ⟨pre, u, post, hl, hu, hpre⟩ := List.findSome?_eq_some_iff.1 hfind
  obtain ⟨k, -, hk, hrest⟩ := List.range'_eq_append_iff.1 hl
  have hunit : c.unit = u := by
    obtain ⟨x, -, hx⟩ := Option.bind_eq_some_iff.1 hu
    obtain ⟨-, -, w, -, rfl⟩ := State.openAudit_eq_some_iff.1 hx
    rfl
  have hlast : u = 1 + k * 1 := (List.range'_eq_cons_iff.1 hrest.symm).1.symm
  have := hpre v (by rw [hk, List.mem_range'_1]; have := (TrackedPart.unit?_range he).1; omega)
  simpa [he] using this

theorem State.waitAudit_none {s : State} {p : Program} {t : TrackedPart} (hp : s.program? = some p) (ht : s.tracked? = some t)
    (hm : p.pull.auditMode = .wait) (hwaits : s.stageWaits = true) (h : s.waitAudit = none) {v : Nat} {e : UnitEntry}
    (he : t.unit? v = some e) : s.openAudit p v e = none := by
  rw [State.waitAudit_eq hp ht, if_pos ⟨hm, hwaits⟩, List.findSome?_eq_none_iff] at h
  have := h v (by rw [List.mem_range'_1]; have := TrackedPart.unit?_range he; omega)
  simpa [he] using this

/-! ## The cycle (R121, R122) -/

theorem State.cycleMayStart_iff (s : State) :
    s.cycleMayStart = true ↔ s.control.station = .run ∧ s.control.holdRequest = false ∧ s.heat.pauseRequest = false ∧
      s.control.restartWaiting = false ∧ s.stage.indexMotion = none := by
  simp [State.cycleMayStart, and_assoc]

theorem exec_pullCycleStart_of_not {s : State}
    (h : ¬(s.straps.role = .pull ∧ s.pull.cycle = .idle ∧ s.cycleMayStart = true ∧ s.resultWaiting = false)) :
    exec .pullCycleStart s = .next s := congrArg _ (if_neg h)

/-- R117, R119: a pull chosen is on a unit that is OPEN or DONE, and on a pair not yet pulled. -/
theorem State.pullChoice_open {s : State} {c : PullChoice} {e : UnitEntry} (h : s.pullChoice = some c) (he : s.unit? c.unit = some e) :
    (e.status = .isOpen ∨ e.status = .done) ∧ s.pull.pairs.contains (c.unit, c.wire) = false := by
  rcases State.pullChoice_some h with ⟨-, -, hnext⟩ | ⟨-, haudit, -⟩
  · obtain ⟨p, r, t, e', -, hr, ht, he', -, hopen⟩ := State.nextPull_some hnext
    obtain rfl : e' = e := by simpa [State.unit?, State.tracked?, hr, ht, he'] using he
    obtain ⟨hp, hleft⟩ := State.pullOpen_iff.1 hopen
    exact ⟨pullable_iff.1 hp, ((s.pullLeft_iff p _ _ _).1 hleft).1⟩
  · obtain ⟨p, t, e', -, ht, -, -, he', hopen⟩ := State.waitAudit_some haudit
    obtain rfl : e' = e := by simpa [State.unit?, ht, he'] using he
    obtain ⟨hwanted, hspaced, w, hw, hc⟩ := State.openAudit_eq_some_iff.1 hopen
    rw [← hc]
    exact ⟨.inr (State.auditDue_iff.2 ⟨hwanted, hspaced⟩).1, (State.candidateFrom_some hw).1⟩

theorem State.hookHeight_of_program {s : State} {p : Program} (hp : s.program? = some p) (w : Nat) :
    s.hookHeight w = s.loopHeightOf w + p.pull.hookClearance := by
  rw [State.hookHeight, State.setting_of_program hp]

/-- Settles O49: the start and the phases command by command, the next pull by the parts of the work list, and the audit of mode WAIT by
the units in their order. -/
theorem pullCycleMovesThroughPhases : Obligations.PullCycleMovesThroughPhases := by
  refine ⟨?_, fun s c e hc he => State.pullChoice_open hc he, fun s h => ?_, fun s f hf => ⟨fun hc => ?_, fun hc => ?_, fun hc => ?_⟩, ?_, ?_,
    fun s => rfl, ?_, ?_, ?_, ?_⟩
  · intro s p c e hrole hidle hp hc he hrun hi
    refine ⟨fun hh hpause hrw hres => ?_, fun h => exec_pullCycleStart_of_not ?_⟩
    · have hexec : exec .pullCycleStart s = .next (State.moveToWire p c { s with
          stage := { s.stage with working := s.stage.working || decide (s.stage.state = .loaded) }
          pull := { s.pull with cycle := .toWire, inFlight := some (pullInFlight p e c) } }) := by
        refine congrArg _ ((if_pos ⟨hrole, hidle, s.cycleMayStart_iff.2 ⟨hrun, hh, hpause, hrw, hi⟩, hres⟩).trans ?_)
        simp only [hp, hc, he]
      refine ⟨_, hexec, rfl, ?_, fun row hrow => ?_, rfl, rfl⟩
      · exact congrArg ZDemand.moveTo ((congrArg Nat.cast (State.hookHeight_of_program hp c.wire)).trans (Nat.cast_add _ _))
      · simp [State.moveToWire, hrow, hookPoint]
    · rintro ⟨-, -, hmay, hres⟩
      obtain ⟨-, hh, hpause, hrw, -⟩ := s.cycleMayStart_iff.1 hmay
      rcases h with h | h | h | h <;> simp_all
  · refine exec_pullCycleStart_of_not ?_
    rintro ⟨hrole, -, hmay, -⟩
    have hrun := (s.cycleMayStart_iff.1 hmay).1
    rcases h with h | h
    · rw [hrole] at h
      contradiction
    · exact h hrun
  · show Host.Outcome.next _ = _
    simp only [hf, hc, if_true]
  · show Host.Outcome.next _ = _
    simp only [hf, hc, if_true]
  · exact congrArg _ (if_pos hc)
  · intro s c hc hrole hrun hi hidle
    refine ⟨fun hcol => ?_, fun hcol => ?_⟩ <;> show Host.Outcome.next _ = _ <;> simp only [hc]
    · rw [if_pos ⟨hrole, hrun, hi, hidle, hcol⟩]
    · rw [if_neg fun h => h.2.2.2.2 hcol]
  · intro s hst
    refine ⟨fun hout => by simp [State.stageWaits, hst, hout], fun hout => ?_⟩
    have hplace : s.reportPlace = true ↔ 0 < s.report.free := by simp [State.reportPlace, hout]
    have hwaits : s.stageWaits = false ↔ s.unloadReady = true := by simp [State.stageWaits, hst, hout]
    rw [hwaits, s.unloadReady_iff, hplace]
  · intro s c hc
    have hchoice := State.pullChoice_some hc
    refine ⟨fun hst => ?_, fun hst => ?_, ?_⟩
    · simpa [hst] using hchoice
    · simpa [hst] using hchoice
    · exact hchoice.imp (fun h => h.1) fun h => h.1
  · intro s p r tk col hp hr ht
    rw [State.nextPull_eq hp hr ht]
    refine ⟨fun c h => ?_, fun h => List.findSome?_eq_none_iff.1 h⟩
    obtain ⟨pre, u, post, hl, hu, hpre⟩ := List.findSome?_eq_some_iff.1 h
    obtain rfl := State.pullOnUnit_unit hu
    exact ⟨pre, post, hl, hu, hpre⟩
  · intro s p r tk u e he h1 hw
    obtain ⟨hsome, hnone⟩ := State.pullOnUnit_spec r he h1 hw
    refine ⟨fun c h => ?_, fun h hstatus => ?_⟩
    · have hfirst := hsome c h
      refine ⟨hfirst.unit, hfirst.pullable, hfirst.suspect, hfirst.confirm, hfirst.plan, fun hk => ?_⟩
      obtain ⟨hm, hns, hnc, hnp, ⟨hevery, hdue⟩, hj⟩ := hfirst.audit hk
      exact ⟨hm, hns, hnc, hnp, ⟨hevery, hdue⟩, hj⟩
    · obtain ⟨hns, hnc, hnp, hna⟩ := hnone h hstatus
      exact ⟨hns, hnc, hnp, fun ha => hna ha.1 ha.2⟩
  · intro s p tk hp ht h1 hw
    refine ⟨fun c h => ?_, fun h hm hwaits hcount hspaced v e he hdone => ?_⟩
    · obtain ⟨p', t', e, hp', ht', hm, hwaits, he, hopen⟩ := State.waitAudit_some h
      obtain rfl : p' = p := by simpa [hp'] using hp
      obtain rfl : t' = tk := by simpa [ht'] using ht
      obtain ⟨-, hk, hmode, ⟨hdone, hcount, hspaced⟩, j, hj, hwire, hleft, hbefore⟩ := (s.openAudit_spec p' c.unit e h1 hw).1 c hopen
      exact ⟨hm, hwaits, hk, hmode, hcount, hspaced, ⟨e, j, he, hdone, hj, hwire, hleft, hbefore⟩, fun v x hv hx hdone' =>
        (s.openAudit_spec p' v x h1 hw).2 (State.waitAudit_first hp' ht' h hv hx) ⟨hdone', hcount, hspaced⟩⟩
    · exact (s.openAudit_spec p v e h1 hw).2 (State.waitAudit_none hp ht hm hwaits h he) ⟨hdone, hcount, hspaced⟩

end Sys2Proof.Machine
end


section
/-! PROOFS. Forces and outcomes of a pull, and what its result changes (R118, R123 to R133): each part of the result's order, said once of
the items it changes, then the three commands that decide a pull. -/

namespace Sys2Proof.Machine

/-! ## News in the transmit queue (R174) -/

/-- Only frames of classes below 5 were asked for: the waiting frames and the count of bulk frames are the same. -/
structure LineUnit.LightOnly (l m : LineUnit) : Prop where
  waiting : m.waiting = l.waiting
  bulk : m.bulkCount = l.bulkCount

theorem filter_dropFirst_mayGo (q : List TxEntry) : (dropFirst TxEntry.mayGo q).filter TxEntry.isBulk = q.filter TxEntry.isBulk := by
  induction q with
  | nil => rfl
  | cons e es ih =>
    rw [dropFirst]
    split
    · next hgo =>
      have hlight : e.isBulk = false := by
        unfold TxEntry.mayGo at hgo
        cases hb : e.body <;> simp_all [TxEntry.isBulk, TxBody.frameClass]
      simp [hlight]
    · simp [List.filter_cons, ih]

theorem LineUnit.LightOnly.refl (l : LineUnit) : l.LightOnly l := ⟨rfl, rfl⟩

theorem LineUnit.LightOnly.trans {l m n : LineUnit} (h : l.LightOnly m) (k : m.LightOnly n) : l.LightOnly n :=
  ⟨k.waiting.trans h.waiting, k.bulk.trans h.bulk⟩

theorem LineUnit.LightOnly.request (target : Nat) {body : TxBody} (hc : body.frameClass < 5) (l : LineUnit) :
    l.LightOnly (l.request target body) := by
  have hnew (q : List TxEntry) : ((q ++ [(⟨target, body, none, false⟩ : TxEntry)]).filter TxEntry.isBulk).length =
      (q.filter TxEntry.isBulk).length := by rw [LineUnit.bulkCount_append, if_neg (by omega), Nat.add_zero]
  rcases l.request_cases target body with ⟨-, he⟩ | ⟨-, -, he⟩ | ⟨h, -, -⟩ | ⟨-, -, -, he⟩ | ⟨-, -, -, he⟩
  · rw [he]
    refine ⟨rfl, length_filter_mergeFrame _ fun e hm => ?_⟩
    obtain ⟨-, hlight, -⟩ := TxEntry.mergesWith_cases hm
    rw [hlight]
    simpa [TxEntry.isBulk] using hc
  · rw [he]
    exact ⟨rfl, hnew _⟩
  · omega
  · rw [he]
    exact ⟨rfl, (hnew _).trans (by rw [filter_dropFirst_mayGo]; rfl)⟩
  · rw [he]
    exact ⟨rfl, rfl⟩

theorem State.raiseAlarm_lightOnly (i : Nat) (d : Detail) (s : State) : s.line.LightOnly (s.raiseAlarm i d).line := by
  have hafter (a b : AlarmUnit) (e : AlarmEntry) (announced : Bool) (l : LineUnit) :
      l.LightOnly (l.afterAlarm a b (if announced then some (alarmBody i e) else none)) := by
    have hstate (m : LineUnit) : m.LightOnly (m.request 0 .state) := .request 0 (by decide) m
    have hnews : l.LightOnly (l.request 0 (alarmBody i e)) := .request 0 (by simp [alarmBody, TxBody.frameClass]) _
    unfold LineUnit.afterAlarm
    cases announced <;> dsimp only <;> split
    · exact .refl _
    · exact hstate _
    · exact hnews
    · exact hnews.trans (hstate _)
  unfold State.raiseAlarm
  split
  · exact .refl _
  · exact hafter _ _ _ _ _

/-! ## The parts of a result (R129) -/

/-- R129 steps 1, 3, 4 and 5: what the pull unit holds after a result. -/
def PullUnit.afterResult (x : PullResult) (wires spacing : Nat) (u : PullUnit) : PullUnit :=
  { u with
    pairs := u.pairs ++ [(x.unit, x.wire)]
    pending := confirmAfter x u.pending
    confirmTried := u.confirmTried || decide (x.kind = .confirm)
    cursor := if x.kind = .audit then cursorAfter wires x.wire else u.cursor
    auditCount := if x.kind = .audit then u.auditCount + 1 else u.auditCount
    spacing := if x.kind = .audit then .running spacing else u.spacing
    hookMiss := if x.outcome = .noHook then (if u.hookMiss < 2 then u.hookMiss + 1 else 0) else 0
    log := logResult x u.log
    failures := if isFailure x.outcome = true ∧ u.failures.length < 8 then u.failures ++ [x] else u.failures
    discards := if isFailure x.outcome = true ∧ 8 ≤ u.failures.length then bump 255 u.discards else u.discards }

/-- R129 step 3: CONFIRM_FAIL, where the result asks for it. -/
def State.confirmRaised (x : PullResult) (s : State) : State :=
  if x.confirmFail then s.raiseAlarm Source.confirmFail (.unitWire x.unit x.wire) else s

/-- R126, R129 step 4: HOOK_MISS, at the third miss in a row. -/
def State.hookRaised (x : PullResult) (s : State) : State :=
  if x.outcome = .noHook ∧ 2 ≤ s.pull.hookMiss then s.raiseAlarm Source.hookMiss (.unitWire x.unit x.wire) else s

/-- A raise reads nothing of the pull unit. -/
theorem State.raiseAlarm_withPull (i : Nat) (d : Detail) (u : PullUnit) (s : State) :
    State.raiseAlarm i d { s with pull := u } = { s.raiseAlarm i d with pull := u } := by
  unfold State.raiseAlarm
  split <;> rfl

@[simp] theorem State.confirmRaised_frame (x : PullResult) (s : State) :
    (s.confirmRaised x).pull = s.pull ∧ (s.confirmRaised x).loader = s.loader ∧ (s.confirmRaised x).stage = s.stage ∧
    (s.confirmRaised x).report = s.report ∧ (s.confirmRaised x).straps = s.straps ∧ (s.confirmRaised x).ports = s.ports ∧
    (s.confirmRaised x).control.station = s.control.station := by
  unfold State.confirmRaised
  split <;> simp

@[simp] theorem State.hookRaised_frame (x : PullResult) (s : State) :
    (s.hookRaised x).pull = s.pull ∧ (s.hookRaised x).loader = s.loader ∧ (s.hookRaised x).stage = s.stage ∧
    (s.hookRaised x).report = s.report ∧ (s.hookRaised x).straps = s.straps ∧ (s.hookRaised x).ports = s.ports ∧
    (s.hookRaised x).control.station = s.control.station := by
  unfold State.hookRaised
  split <;> simp

theorem State.settleConfirm_eq (x : PullResult) (s : State) :
    s.settleConfirm x = { s.confirmRaised x with pull := { s.pull with
      pending := confirmAfter x s.pull.pending
      confirmTried := s.pull.confirmTried || decide (x.kind = .confirm)
      cursor := if x.kind = .audit then cursorAfter (s.setting (·.wires.length) 0) x.wire else s.pull.cursor
      auditCount := if x.kind = .audit then s.pull.auditCount + 1 else s.pull.auditCount
      spacing := if x.kind = .audit then .running (s.setting (·.pull.auditSpacing) 0) else s.pull.spacing } } := by
  have hloader : (s.confirmRaised x).loader = s.loader := by simp
  have hsetting (t : State) (f : Program → Nat) (ht : t.loader = s.loader) : t.setting f 0 = s.setting f 0 := State.setting_congr ht f 0
  have hraised (u : PullUnit) : (if x.confirmFail then
      State.raiseAlarm Source.confirmFail (.unitWire x.unit x.wire) { s with pull := u } else { s with pull := u }) =
      { s.confirmRaised x with pull := u } := by
    unfold State.confirmRaised
    split
    · exact State.raiseAlarm_withPull _ _ _ _
    · rfl
  unfold State.settleConfirm
  dsimp only
  rw [hraised]
  by_cases hk : x.kind = .audit
  · simp (disch := exact hloader) only [hk, if_true, hsetting]
  · simp only [hk, if_false]

theorem State.countHookMiss_eq (x : PullResult) (s : State) :
    s.countHookMiss x = { s.hookRaised x with pull := { s.pull with
      hookMiss := if x.outcome = .noHook then (if s.pull.hookMiss < 2 then s.pull.hookMiss + 1 else 0) else 0 } } := by
  unfold State.countHookMiss State.hookRaised
  by_cases ho : x.outcome = .noHook
  · rw [if_pos ho, if_pos ho]
    by_cases hm : s.pull.hookMiss < 2
    · rw [if_pos (show s.pull.hookMiss + 1 < Config.hookMissAt by simp [Config.hookMissAt]; omega), if_pos hm,
        if_neg fun c => absurd c.2 (not_le.2 hm)]
    · rw [if_neg (show ¬s.pull.hookMiss + 1 < Config.hookMissAt by simp [Config.hookMissAt]; omega), if_neg hm,
        if_pos ⟨ho, not_lt.1 hm⟩]
      exact State.raiseAlarm_withPull _ _ _ _
  · rw [if_neg ho, if_neg ho, if_neg fun c => ho c.1]

theorem PullUnit.logFailure_eq (x : PullResult) (u : PullUnit) :
    PullUnit.logFailure x u = { u with
      failures := if isFailure x.outcome = true ∧ u.failures.length < 8 then u.failures ++ [x] else u.failures
      discards := if isFailure x.outcome = true ∧ 8 ≤ u.failures.length then bump 255 u.discards else u.discards } := by
  unfold PullUnit.logFailure
  by_cases hf : isFailure x.outcome = true
  · by_cases hl : u.failures.length < 8
    · simp [hf, hl, Config.failureLogPlaces]
    · simp [hf, hl, Config.failureLogPlaces, Config.byteCap, not_lt.1 hl]
  · simp [hf]

/-- The unit marked, the alarms raised: a result's state but for the pull unit's items and the frame. -/
def State.resultShown (x : PullResult) (s : State) : State := (((s.enterPair x).markUnit x).confirmRaised x).hookRaised x

/-- R129: a result is shown, entered, and sent. -/
theorem State.makeResult_eq (x : PullResult) (s : State) :
    s.makeResult x = (State.sendResult x { s.resultShown x with
      pull := s.pull.afterResult x (s.setting (·.wires.length) 0) (s.setting (·.pull.auditSpacing) 0) }).event .pullDone := by
  have hloader : ((s.enterPair x).markUnit x).loader = s.loader := by simp
  have hlogs (t : State) : t.enterLogs x = { t with pull := PullUnit.logFailure x { t.pull with log := logResult x t.pull.log } } := rfl
  have hhook (t : State) (u : PullUnit) (hu : u.hookMiss = t.pull.hookMiss) :
      State.hookRaised x { t with pull := u } = { t.hookRaised x with pull := u } := by
    unfold State.hookRaised
    dsimp only
    rw [hu]
    split
    · exact State.raiseAlarm_withPull _ _ _ _
    · rfl
  unfold State.makeResult State.resultShown
  rw [hlogs, State.countHookMiss_eq, State.settleConfirm_eq, hhook _ _ (by simp), PullUnit.logFailure_eq, State.setting_congr hloader,
    State.setting_congr hloader, (State.markUnit_frame _ _).2.2.2.2.2.2.2.2.1, State.enterPair_pull]
  rfl

/-! ### What a result shows of its unit, the alarms and the line -/

/-- R9, R129 step 2: the unit's entry after a result's mark. -/
theorem State.markUnit_unit {x : PullResult} {s : State} {e : UnitEntry} (he : s.unit? x.unit = some e)
    (hm : s.pullMayChange = true) :
    (x.outcome = .noHook → (s.markUnit x).unit? x.unit = some e) ∧
    (x.outcome ≠ .noHook → ∃ y, (s.markUnit x).unit? x.unit = some y ∧ y.pulls = (if e.pulls < 15 then e.pulls + 1 else e.pulls) ∧
      y.progress = e.progress ∧ y.status = (if e.status = .isOpen ∨ e.status = .done then
        (if x.outcome = .held then e.status else if x.outcome = .pass then .reject .pullSacrifice else .reject .pullFail)
        else e.status)) := by
  refine ⟨fun ho => by rw [State.markUnit, if_pos ho, he], fun ho => ?_⟩
  have hmark := State.pullMark_unit x.outcome he hm
  have hm' : (s.pullMark x.unit x.outcome).pullMayChange = true := by
    have hstate : (s.pullMark x.unit x.outcome).stage.state = s.stage.state := by
      unfold State.pullMark
      (repeat' split) <;> rfl
    simpa [State.pullMayChange, hstate] using hm
  have hreject (cause : RejectCause) := State.requestPullReject_unit cause hmark hm'
  rw [State.markUnit, if_neg ho]
  cases hx : x.outcome with
  | noHook => exact absurd hx ho
  | held =>
    rw [hx] at hmark
    exact ⟨_, hmark, rfl, rfl, by simp⟩
  | pass =>
    rw [hx] at hreject
    exact ⟨_, hreject .pullSacrifice, rfl, rfl, by simp⟩
  | low =>
    rw [hx] at hreject
    exact ⟨_, hreject .pullFail, rfl, rfl, by simp⟩
  | lift1 =>
    rw [hx] at hreject
    exact ⟨_, hreject .pullFail, rfl, rfl, by simp⟩
  | lift2 =>
    rw [hx] at hreject
    exact ⟨_, hreject .pullFail, rfl, rfl, by simp⟩
  | failNd =>
    rw [hx] at hreject
    exact ⟨_, hreject .pullFail, rfl, rfl, by simp⟩

theorem State.resultShown_frame (x : PullResult) (s : State) :
    (s.resultShown x).straps = s.straps ∧ (s.resultShown x).loader = s.loader ∧ (s.resultShown x).report = s.report ∧
    (s.resultShown x).ports = s.ports ∧ (s.resultShown x).control.station = s.control.station ∧
    (s.resultShown x).stage = ((s.enterPair x).markUnit x).stage := by
  unfold State.resultShown
  simp

/-- R126, R130: the alarms of a result, and the hold each asks for. -/
theorem State.resultShown_alarms {x : PullResult} {s : State} (hlen : s.alarms.entries.length = 40) :
    (x.outcome = .noHook → 2 ≤ s.pull.hookMiss → ((s.resultShown x).alarms.entry Source.hookMiss).state = .active ∧
      ((s.resultShown x).alarms.entry Source.hookMiss).detail = .unitWire x.unit x.wire) ∧
    (x.confirmFail = true → ((s.resultShown x).alarms.entry Source.confirmFail).state = .active ∧
      ((s.resultShown x).alarms.entry Source.confirmFail).detail = .unitWire x.unit x.wire ∧
      (s.resultShown x).control.holdRequest = true) := by
  have hmarked : ((s.enterPair x).markUnit x).alarms = s.alarms := by simp
  have hlen' : ((s.enterPair x).markUnit x).alarms.entries.length = 40 := by rw [hmarked, hlen]
  unfold State.resultShown
  refine ⟨fun ho hn => ?_, fun hc => ?_⟩
  · rw [State.hookRaised, if_pos ⟨ho, by simpa using hn⟩]
    refine State.raiseAlarm_event (by decide) (AlarmUnit.disabled_of_not_note (by decide) _) ?_ _
    have : (((s.enterPair x).markUnit x).confirmRaised x).alarms.entries.length = 40 := by
      unfold State.confirmRaised
      split <;> simp [hlen]
    rw [this]
    decide
  · have hraised := State.raiseAlarm_holdEvent (s := (s.enterPair x).markUnit x) (i := Source.confirmFail) (by rw [hlen']; decide)
      (by decide) (by decide) (.unitWire x.unit x.wire)
    obtain ⟨hstate, hdetail, hcontrol⟩ := hraised
    have hconfirm : ((s.enterPair x).markUnit x).confirmRaised x =
        ((s.enterPair x).markUnit x).raiseAlarm Source.confirmFail (.unitWire x.unit x.wire) := if_pos hc
    rw [hconfirm]
    unfold State.hookRaised
    split
    · rw [State.raiseAlarm_entry_ne _ _ (by decide)]
      exact ⟨hstate, hdetail, State.raiseAlarm_holdRequest (by rw [hcontrol]) _⟩
    · exact ⟨hstate, hdetail, by rw [hcontrol]⟩

/-- R174: the raises of a result ask for at most two frames, none of them a bulk frame. -/
theorem State.resultShown_line {x : PullResult} {s : State} (h : x.confirmFail = true → x.outcome ≠ .noHook) :
    s.line.LightOnly (s.resultShown x).line ∧ (s.resultShown x).line.queue.length ≤ s.line.queue.length + 2 := by
  obtain ⟨u, hu⟩ : ∃ u, u = (s.enterPair x).markUnit x := ⟨_, rfl⟩
  have hline : u.line = s.line := by simp [hu]
  unfold State.resultShown
  rw [← hu, ← hline]
  unfold State.hookRaised State.confirmRaised
  by_cases hc : x.confirmFail = true
  · rw [if_pos hc, if_neg fun c => h hc c.1]
    exact ⟨State.raiseAlarm_lightOnly _ _ _, State.length_raiseAlarm _ _ _⟩
  · rw [if_neg hc]
    split
    · exact ⟨State.raiseAlarm_lightOnly _ _ _, State.length_raiseAlarm _ _ _⟩
    · exact ⟨.refl _, by omega⟩

/-! ### The sending (R131) -/

/-- R131: a result that finds room joins the queue and is handed to the own report unit; any other waits behind those that wait. -/
theorem State.sendResult_cases (x : PullResult) (s : State) :
    (s.line.bulkCount < 8 → s.line.queue.length < 16 → s.line.waiting = [] → s.sendResult x = State.fileResult x
      { s with line := { s.line with queue := s.line.queue ++ [⟨0, .pullResult x, none, false⟩] } }) ∧
    (8 ≤ s.line.bulkCount ∨ s.line.waiting ≠ [] → s.sendResult x =
      { s with line := { s.line with waiting := s.line.waiting ++ [⟨0, .pullResult x, none, false⟩] } }) := by
  have hmerge : s.line.queue.any (TxEntry.mergesWith (.pullResult x)) = false := by simp [TxEntry.mergesWith]
  have hrequest : s.line.request 0 (.pullResult x) =
      if s.line.bulkJoins then { s.line with queue := s.line.queue ++ [⟨0, .pullResult x, none, false⟩] }
      else { s.line with waiting := s.line.waiting ++ [⟨0, .pullResult x, none, false⟩] } := by
    unfold LineUnit.request
    rw [hmerge]
    rfl
  unfold State.sendResult State.send
  rw [hrequest]
  refine ⟨fun hb hq hw => ?_, fun h => ?_⟩
  · have hjoins : s.line.bulkJoins = true := by
      unfold LineUnit.bulkJoins
      rw [LineUnit.bulkRoom_iff.2 ⟨hb, hq⟩, hw]
      rfl
    simp only [hjoins, if_true]
  · have hjoins : s.line.bulkJoins = false := by
      unfold LineUnit.bulkJoins
      rcases h with h | h
      · have : s.line.bulkRoom = false := by
          rw [Bool.eq_false_iff]
          exact fun c => absurd (LineUnit.bulkRoom_iff.1 c).1 (not_lt.2 h)
        simp [this]
      · simp [h]
    simp only [hjoins, Bool.false_eq_true, if_false]

theorem State.fileResult_asked (x : PullResult) (s : State) : s.line.Asked (s.fileResult x).line ∧ (s.fileResult x).line.waiting = s.line.waiting := by
  rcases s.fileResult_cases x with ⟨-, he⟩ | ⟨-, he⟩ | ⟨-, -, he⟩ | ⟨-, -, he⟩ <;> rw [he]
  · exact ⟨.refl _, rfl⟩
  · exact ⟨.refl _, rfl⟩
  · exact ⟨.refl _, rfl⟩
  · exact ⟨State.raiseAlarm_asked _ _ { s with report := { s.report with lost := bump 255 s.report.lost } },
      (State.raiseAlarm_lightOnly _ _ { s with report := { s.report with lost := bump 255 s.report.lost } }).waiting⟩

theorem State.sendResult_entry_ne {j : Nat} (x : PullResult) (s : State) (h : Source.reportLoss ≠ j) :
    (s.sendResult x).alarms.entry j = s.alarms.entry j := by
  unfold State.sendResult
  dsimp only
  split
  · exact State.fileResult_entry_ne x _ h
  · rfl

theorem State.sendResult_control (x : PullResult) (s : State) : (s.sendResult x).control = s.control := by
  unfold State.sendResult
  dsimp only
  split
  · exact State.fileResult_control x _
  · rfl

theorem State.sendResult_report_of_skip {x : PullResult} {s : State} (h : s.straps.outfeed = false) :
    (s.sendResult x).report = s.report := by
  unfold State.sendResult
  dsimp only
  split
  · rw [State.fileResult_of_skip (s := s.send 0 (.pullResult x)) (.inl h)]
    rfl
  · rfl

/-! ## The commands that decide a pull (R122 to R126) -/

/-- The pull in flight is `g`, all else as it was. -/
def State.holding (g : PullInFlight) (s : State) : State := { s with pull := { s.pull with inFlight := some g } }

theorem State.holding_self {s : State} {f : PullInFlight} (hf : s.pull.inFlight = some f) : s.holding f = s := by
  unfold State.holding
  rw [← hf]

/-- R123: a force in cgf held within its range. -/
def limitedForce (exact : Int) : Nat := if exact < 0 then 0 else if 60000 < exact then 60000 else exact.toNat

/-- R123: the force of a sample, held within its range, with the peak and the overrange mark. -/
theorem PullInFlight.sampled_eq (gain tare raw : Nat) (f : PullInFlight) :
    f.sampled gain tare raw = { f with
      force := limitedForce (Int.tdiv (((raw : Int) - tare) * gain) 4096)
      peak := max f.peak (limitedForce (Int.tdiv (((raw : Int) - tare) * gain) 4096))
      overrange := f.overrange || decide (60000 < Int.tdiv (((raw : Int) - tare) * gain) 4096) } := by
  have hforce (x : Int) : min 60000 x.toNat = limitedForce x := by
    unfold limitedForce
    split_ifs <;> omega
  have hover (x : Int) : decide (60000 < x.toNat) = decide (60000 < x) := by
    rw [decide_eq_decide]
    omega
  unfold PullInFlight.sampled rawForce
  rw [hforce, hover]

theorem PullInFlight.breakSeen_iff {f : PullInFlight} : f.breakSeen = true ↔ 50 ≤ f.peak ∧ f.force < f.peak / 4 := decide_eq_true_iff

theorem breakOutcome_eq (mode : PullMode) (pullMin peak : Nat) (loc : LocatorCode) :
    breakOutcome mode pullMin peak (breakOf loc) = match mode with
      | .nondestruct => .failNd
      | .destruct => if loc = .ballLift then .lift1 else if loc = .stitchLift then .lift2
        else if pullMin ≤ peak then .pass else .low := by
  cases mode
  · rfl
  · cases loc <;> rfl

theorem State.decidePull_eq {s : State} {r : StripRecord} (hr : s.stage.record = some r) (g : PullInFlight) (o : PullOutcome) (b : BreakCode) :
    s.decidePull g o b = (s.makeResult (resultOf r g o b)).enterReleasing g := by
  unfold State.decidePull
  rw [hr]

theorem exec_holdTimerExpiry_eq {s : State} {f : PullInFlight} {r : StripRecord} (hf : s.pull.inFlight = some f)
    (hr : s.stage.record = some r) (hc : s.pull.cycle = .holding) :
    exec .holdTimerExpiry s = .next ((State.makeResult (resultOf r f .held .noBreak) (s.holding f)).enterReleasing f) := by
  show Host.Outcome.next _ = _
  simp only [hf, hc, if_true]
  rw [State.decidePull_eq hr, State.holding_self hf]

theorem exec_liftTravelLimit_eq {s : State} {f : PullInFlight} {r : StripRecord} (hf : s.pull.inFlight = some f)
    (hr : s.stage.record = some r) (hc : s.pull.cycle = .lifting) :
    exec .liftTravelLimit s = .next
      ((State.makeResult (resultOf r f (limitOutcome f.mode (s.pullMinOf f.bondClass) f.peak) .noBreak) (s.holding f)).enterReleasing f) := by
  show Host.Outcome.next _ = _
  simp only [hf, hc, if_true]
  rw [State.decidePull_eq hr, State.holding_self hf]

theorem exec_loadCellSample_eq {s : State} {f : PullInFlight} {tare : Nat} (raw : Nat) (loc : LocatorCode) (hf : s.pull.inFlight = some f)
    (hc : s.pull.cycle = .lifting ∨ s.pull.cycle = .holding) (ht : f.tare = some tare) :
    exec (.loadCellSample raw loc) s = .next (s.judgePullSample (f.sampled (s.setting (·.pull.gain) 0) tare raw) loc) := by
  show Host.Outcome.next _ = _
  simp only [hf, hc, ht, if_true]

theorem State.judgePullSample_breaks {s : State} {g : PullInFlight} {r : StripRecord} (loc : LocatorCode) (hr : s.stage.record = some r)
    (hb : g.breakSeen = true) :
    s.judgePullSample g loc = (State.makeResult
      (resultOf r g (breakOutcome g.mode (s.pullMinOf g.bondClass) g.peak (breakOf loc)) (breakOf loc)) (s.holding g)).enterReleasing g := by
  unfold State.judgePullSample
  dsimp only
  rw [if_pos hb, State.decidePull_eq (by exact hr)]
  rfl

theorem State.hookLevel_congr {s t : State} (h : t.loader = s.loader) (w : Nat) : t.hookLevel w = s.hookLevel w := by
  unfold State.hookLevel State.loopHeightOf
  rw [State.setting_congr h, State.setting_congr h]

theorem State.enterReleasing_ports (f : PullInFlight) {s t : State} (h : t.loader = s.loader) (hp : t.ports = s.ports) :
    (t.enterReleasing f).ports = { s.ports with
      xy := .hookClear (s.setting (·.pull.hookClearance) 0)
      z := .unhook (s.hookLevel f.wire) (s.head (·.safeHeight)) } := by
  unfold State.enterReleasing
  dsimp only
  rw [State.setting_congr h, State.hookLevel_congr h, State.head_congr h, hp]

theorem breaksDoubt_iff {o : PullOutcome} : breaksDoubt o = true ↔ o = .low ∨ o = .lift1 ∨ o = .lift2 := decide_eq_true_iff

theorem isFailure_iff {o : PullOutcome} : isFailure o = true ↔ (o = .low ∨ o = .lift1 ∨ o = .lift2) ∨ o = .failNd := by
  rw [isFailure, decide_eq_true_iff]
  tauto

/-- R130: the pending confirm after a result, by the kind of its pull. -/
theorem confirmAfter_eq (x : PullResult) (slot : Option PendingConfirm) :
    confirmAfter x slot = (if x.kind = .confirm then
        (if x.outcome = .pass ∨ (x.outcome = .low ∨ x.outcome = .lift1 ∨ x.outcome = .lift2) then none else slot)
      else if (x.kind = .plan ∨ x.kind = .audit) ∧ x.mode = .destruct ∧ (x.outcome = .low ∨ x.outcome = .lift1 ∨ x.outcome = .lift2) ∧
        slot = none then some ⟨x.wire, x.bondedBy, x.lineSeq⟩ else slot) := by
  unfold confirmAfter
  cases x.kind <;> simp [breaksDoubt_iff]

theorem logResult_getLast? (x : PullResult) (l : List PullResult) : (logResult x l).getLast? = some x := by
  unfold logResult
  split <;> simp

theorem resultOf_eq {f g : PullInFlight} (r : StripRecord) (o : PullOutcome) (b : BreakCode)
    (hg : g = { f with tare := g.tare, force := g.force, peak := g.peak, overrange := g.overrange }) :
    resultOf r g o b = ⟨r.serial, r.lineSeq, f.unit, f.wire, f.bondClass, f.bondedBy, f.kind, f.mode, o, b, g.peak, g.overrange,
      decide (f.kind = .confirm ∧ (o = .low ∨ o = .lift1 ∨ o = .lift2))⟩ := by
  rw [hg]
  simp [resultOf, breaksDoubt, Bool.decide_and]

/-- Settles O50: the sample by its branches, then the one result behind each of the three commands that decide a pull, part by part. -/
theorem pullOutcomesAreDecided : Obligations.PullOutcomesAreDecided := by
  constructor
  · intro s f raw loc hf hc
    refine ⟨fun ht => ?_, ?_⟩
    · show Host.Outcome.next _ = _
      simp only [hf, hc, ht, if_true]
    · intro tare ht exact force f1 broken
      have hsampled : f.sampled (s.setting (·.pull.gain) 0) tare raw = f1 := PullInFlight.sampled_eq _ _ _ _
      have hbroken : f1.breakSeen = true ↔ broken := PullInFlight.breakSeen_iff
      have hexec := exec_loadCellSample_eq raw loc hf hc ht
      rw [hsampled] at hexec
      refine ⟨fun hb hm hl hforce => ?_, fun hb hno => ?_, fun hb r hr => ?_⟩
      · rw [hexec]
        unfold State.judgePullSample
        rw [if_neg fun h => hb (hbroken.1 h), if_pos ⟨hm, hl, hforce⟩]
      · rw [hexec]
        unfold State.judgePullSample
        rw [if_neg fun h => hb (hbroken.1 h), if_neg]
        rintro ⟨hm, hl, hforce⟩
        rcases hno with h | h | h
        · rw [show f1.mode = f.mode from rfl, h] at hm
          contradiction
        · rw [h] at hl
          contradiction
        · exact absurd hforce (not_le.2 h)
      · rw [State.judgePullSample_breaks loc hr (hbroken.2 hb)] at hexec
        refine ⟨_, resultOf r f1 (breakOutcome f.mode (s.pullMinOf f.bondClass) f1.peak (breakOf loc)) (breakOf loc), hexec, rfl, ?_, ?_,
          rfl, rfl, fun hm => ?_, fun hm => ?_⟩
        · rw [State.enterReleasing_pull, State.makeResult_eq]
          simp only [State.event_frame, State.sendResult_frame]
          exact logResult_getLast? _ _
        · cases loc <;> rfl
        · show breakOutcome _ _ _ _ = _
          rw [breakOutcome_eq, hm]
        · show breakOutcome _ _ _ _ = _
          rw [breakOutcome_eq, hm]
  · intro s f r hshape hf hr limit sampled codeOf atBreak c o b g hcase bad x
    have hg : g = { f with tare := g.tare, force := g.force, peak := g.peak, overrange := g.overrange } := by
      rcases hcase with ⟨-, -, -, -, rfl⟩ | ⟨-, -, -, -, rfl⟩ | ⟨raw, loc, tare, -, -, -, rfl, -⟩ <;> rfl
    have hx : resultOf r g o b = x := resultOf_eq r o b hg
    have hexec : exec c s = .next ((State.makeResult x (s.holding g)).enterReleasing g) := by
      rw [← hx]
      rcases hcase with ⟨rfl, hc, rfl, rfl, rfl⟩ | ⟨rfl, hc, ho, rfl, rfl⟩ | ⟨raw, loc, tare, rfl, hc, ht, hsample, hpeak, hforce, ho, hcode⟩
      · exact exec_holdTimerExpiry_eq hf hr hc
      · have : o = limitOutcome g.mode (s.pullMinOf g.bondClass) g.peak := ho
        rw [this]
        exact exec_liftTravelLimit_eq hf hr hc
      · have hsampled : f.sampled (s.setting (·.pull.gain) 0) tare raw = g := (PullInFlight.sampled_eq _ _ _ _).trans hsample.symm
        have hout : breakOutcome g.mode (s.pullMinOf g.bondClass) g.peak (breakOf loc) = o := by
          rw [breakOutcome_eq, hg, ho] <;> rfl
        have hbreak : breakOf loc = b := by
          rw [hcode]
          cases loc <;> rfl
        rw [exec_loadCellSample_eq raw loc hf hc ht, hsampled,
          State.judgePullSample_breaks loc hr (PullInFlight.breakSeen_iff.2 ⟨hpeak, hforce⟩), hout, hbreak]
    obtain ⟨v, hv⟩ : ∃ v, v = s.holding g := ⟨_, rfl⟩
    obtain ⟨u, hu⟩ : ∃ u : State, u = { v.resultShown x with
        pull := v.pull.afterResult x (v.setting (·.wires.length) 0) (v.setting (·.pull.auditSpacing) 0) } := ⟨_, rfl⟩
    obtain ⟨w, hw⟩ : ∃ w, w = u.sendResult x := ⟨_, rfl⟩
    obtain ⟨t, ht⟩ : ∃ t, t = ((w.event .pullDone).enterReleasing g) := ⟨_, rfl⟩
    rw [← hv, State.makeResult_eq, ← hu, ← hw, ← ht] at hexec
    obtain ⟨hstraps, hloader, hreport, hports, hstation, hstage⟩ := v.resultShown_frame x
    have hconfirm : x.confirmFail = true → x.outcome ≠ .noHook := fun hc ho => by
      have hb : bad := (decide_eq_true_iff.1 hc).2
      rcases hb with h | h | h <;> rw [show x.outcome = o from rfl, h] at ho <;> contradiction
    have halarms : v.alarms = s.alarms := by rw [hv]; rfl
    obtain ⟨hhook, hconf⟩ := State.resultShown_alarms (x := x) (s := v) (by rw [halarms, hshape.alarms])
    obtain ⟨hlight, hlength⟩ := State.resultShown_line (s := v) hconfirm
    have hline : v.line = s.line := by rw [hv]; rfl
    have huline : u.line = (v.resultShown x).line := by rw [hu]
    rw [← huline, hline] at hlight hlength
    have hpull : t.pull = { s.pull.afterResult x (s.setting (·.wires.length) 0) (s.setting (·.pull.auditSpacing) 0) with
        inFlight := some g, cycle := .releasing, holdTimer := .stopped } := by
      rw [ht, State.enterReleasing_pull, hw]
      simp only [State.event_frame, State.sendResult_frame]
      rw [hu, hv]
      rfl
    have hentry (j : Nat) (hj : Source.reportLoss ≠ j) : t.alarms.entry j = (v.resultShown x).alarms.entry j := by
      rw [ht, (State.enterReleasing_frame _ _).2.2.1]
      show w.alarms.entry j = _
      rw [hw, State.sendResult_entry_ne x u hj, hu]
    have hcontrol : t.control = (v.resultShown x).control := by
      rw [ht, (State.enterReleasing_frame _ _).2.1]
      show w.control = _
      rw [hw, State.sendResult_control, hu]
    have htline : t.line = w.line := by rw [ht]; rfl
    have htreport : t.report = w.report := by rw [ht]; rfl
    have hureport : u.report = s.report := by rw [hu]; exact hreport.trans (by rw [hv]; rfl)
    have hustraps : u.straps = s.straps := by rw [hu]; exact hstraps.trans (by rw [hv]; rfl)
    have hustation : u.control.station = s.control.station := by rw [hu]; exact hstation.trans (by rw [hv]; rfl)
    have hwloader : (w.event .pullDone).loader = s.loader := by
      show w.loader = _
      rw [hw, (State.sendResult_frame _ _).2.1, hu]
      exact hloader.trans (by rw [hv]; rfl)
    have hwports : (w.event .pullDone).ports = s.ports := by
      show w.ports = _
      rw [hw, (State.sendResult_frame _ _).2.2.2.2.2.2.2.2.1, hu]
      exact hports.trans (by rw [hv]; rfl)
    have htstage : t.stage = ((v.enterPair x).markUnit x).stage := by
      rw [ht, (State.enterReleasing_frame _ _).2.2.2.2.2.1]
      show w.stage = _
      rw [hw, (State.sendResult_frame _ _).2.2.1, hu]
      exact hstage
    obtain ⟨hjoins, hwaits⟩ := u.sendResult_cases x
    rw [← hw] at hjoins hwaits
    refine ⟨t, hexec, by rw [hpull], by rw [hpull], ?_, by rw [hpull]; rfl, by rw [hpull]; rfl, ?_, ?_, by rw [hpull]; rfl, fun ho hm => ?_, ?_,
      by rw [hpull]; rfl, fun hq hb hwait => ?_, fun h => ?_, fun hout => ?_, fun hk hb => ?_, fun hk => ?_, fun e he hst => ?_⟩
    · have hwire : g.wire = f.wire := by rw [hg]
      rw [ht, State.enterReleasing_ports (s := s) g hwloader hwports, hwire]
    · rw [hpull]
      exact if_congr (and_congr_left' isFailure_iff) rfl rfl
    · rw [hpull]
      exact if_congr (and_congr_left' isFailure_iff) rfl rfl
    · rw [hentry _ (by decide)]
      exact hhook ho (by rw [hv]; exact hm)
    · rw [hpull]
      exact confirmAfter_eq x _
    · have hroom := hjoins (by rw [hlight.bulk]; exact hb) (by omega) (by rw [hlight.waiting]; exact hwait)
      obtain ⟨z, hz⟩ : ∃ z : State, z = { u with
          line := { u.line with queue := u.line.queue ++ [⟨0, .pullResult x, none, false⟩] } } := ⟨_, rfl⟩
      rw [← hz] at hroom
      obtain ⟨hasked, hkept⟩ := z.fileResult_asked x
      have hzwait : z.line.waiting = [] := by rw [hz]; exact hlight.waiting.trans hwait
      have hzreport : z.report = s.report := by rw [hz]; exact hureport
      rw [htline, htreport, hroom, hkept]
      refine ⟨hasked.firm _ (by rw [hz]; simp) rfl, hzwait, fun hout hboot hseq htable => ?_⟩
      have hfile : ¬(z.straps.outfeed = false ∨ z.control.station = .boot ∨ x.lineSeq = 0) := by
        rw [hz]
        simpa [hustraps, hustation, hout, hboot] using hseq
      rcases z.fileResult_cases x with ⟨h, -⟩ | ⟨⟨e, he, -⟩, -⟩ | ⟨-, -, he⟩ | ⟨-, h, -⟩
      · exact absurd h hfile
      · rw [hzreport, htable] at he
        simp at he
      · rw [he, hzreport, htable]
        rfl
      · rw [hzreport, htable] at h
        simp at h
    · have hwait := hwaits (by rw [hlight.bulk, hlight.waiting]; exact h)
      rw [htline, htreport, hwait]
      exact ⟨by rw [hlight.waiting], hureport⟩
    · rw [htreport, hw, State.sendResult_report_of_skip (by rw [hustraps, hout]), hureport]
    · rw [hentry _ (by decide), hcontrol]
      exact hconf (decide_eq_true_iff.2 ⟨hk, hb⟩)
    · rw [hpull]
      exact ⟨if_pos hk, if_pos hk, if_pos hk⟩
    · have hmay : (v.enterPair x).pullMayChange = true := by
        rw [hv]
        exact State.pullMayChange_of_loaded_or_finished hst
      have hunit : (v.enterPair x).unit? f.unit = some e := by
        rw [hv]
        exact he
      rw [State.unit?_congr (s := (v.enterPair x).markUnit x) (by rw [htstage])]
      exact State.markUnit_unit (x := x) hunit hmay

end Sys2Proof.Machine
end


section
/-! PROOFS. The warm restart (R25, R27, R37, R56, R170, R178 to R181): what it puts on the emptied line and screen, the entries raised anew,
the stage by R56's table, and the judgement of a roster of this station alone. -/

namespace Sys2Proof.Machine

/-! ## Line and screen after a restart -/

/-- A test of queued frames that news joins and merges into. -/
structure NewsAllowed (q : TxEntry → Prop) : Prop where
  new : ∀ body : TxBody, body.isFirm = false → q ⟨0, body, none, false⟩
  merged : ∀ (e : TxEntry) (body : TxBody), body.isFirm = false → q e → q { e with body := body }

theorem NewsAllowed.request {q : TxEntry → Prop} (hq : NewsAllowed q) {l : LineUnit} (h : ∀ e ∈ l.queue, q e) {body : TxBody}
    (hb : body.isFirm = false) : ∀ e ∈ (l.request 0 body).queue, q e := by
  have hmerge (x : List TxEntry) (hx : ∀ e ∈ x, q e) : ∀ e ∈ mergeFrame body x, q e := by
    induction x with
    | nil => exact hx
    | cons y ys ih =>
      obtain ⟨hy, hys⟩ := List.forall_mem_cons.1 hx
      rw [mergeFrame]
      split
      · exact List.forall_mem_cons.2 ⟨hq.merged y body hb hy, hys⟩
      · exact List.forall_mem_cons.2 ⟨hy, ih hys⟩
  have hnew (x : List TxEntry) (hx : ∀ e ∈ x, q e) : ∀ e ∈ x ++ [(⟨0, body, none, false⟩ : TxEntry)], q e := fun e he =>
    (List.mem_append.1 he).elim (hx e) fun he => List.mem_singleton.1 he ▸ hq.new body hb
  rcases l.request_cases 0 body with ⟨-, hr⟩ | ⟨-, -, hr⟩ | ⟨-, -, hr⟩ | ⟨-, -, -, hr⟩ | ⟨-, -, -, hr⟩ <;> rw [hr]
  · exact hmerge _ h
  · exact hnew _ h
  · exact h
  · exact hnew _ fun e he => h e ((dropFirst_sublist _ _).subset he)
  · exact h

/-- The line as the restart makes it: the roster empty, nothing waiting or unheard, every queued frame admitted by `q`. -/
structure LineUnit.Renewed (q : TxEntry → Prop) (l : LineUnit) : Prop where
  roster : l.roster = emptyRoster
  waiting : l.waiting = []
  unheard : l.unheard = 0
  queue : ∀ e ∈ l.queue, q e

theorem LineUnit.Renewed.request {q : TxEntry → Prop} (hq : NewsAllowed q) {l : LineUnit} (h : l.Renewed q) {body : TxBody}
    (hb : body.isFirm = false) : (l.request 0 body).Renewed q := by
  have hclass : body.frameClass < 5 := by cases body <;> simp_all [TxBody.isFirm, TxBody.frameClass]
  exact ⟨by simp [h.roster], (LineUnit.request_waiting 0 hclass _).trans h.waiting, by simp [h.unheard], hq.request h.queue hb⟩

theorem LineUnit.Renewed.afterAlarm {q : TxEntry → Prop} (hq : NewsAllowed q) {l : LineUnit} (h : l.Renewed q) (old new : AlarmUnit)
    (i : Nat) (e : AlarmEntry) (b : Bool) : (l.afterAlarm old new (if b then some (alarmBody i e) else none)).Renewed q := by
  have hstate {m : LineUnit} (hm : m.Renewed q) : (m.request 0 .state).Renewed q := hm.request hq rfl
  have hnews : (l.request 0 (alarmBody i e)).Renewed q := h.request hq rfl
  unfold LineUnit.afterAlarm
  cases b <;> dsimp only <;> split
  · exact h
  · exact hstate h
  · exact hnews
  · exact hstate hnews

/-- The screen stands on page `n`, without a notice. -/
def ScreenUnit.OnPage (n : Nat) (c : ScreenUnit) : Prop := c.page = n ∧ c.notice = false

theorem ScreenUnit.OnPage.afterAlarm {n : Nat} {c : ScreenUnit} (h : c.OnPage n) (old new : AlarmUnit) (shown : Bool) :
    (c.afterAlarm old new shown).OnPage n := by
  unfold ScreenUnit.afterAlarm
  dsimp only
  split <;> split <;> split <;> exact h

/-- The line and the screen as the restart makes them. -/
structure State.Renewed (q : TxEntry → Prop) (n : Nat) (s : State) : Prop where
  line : s.line.Renewed q
  screen : s.screen.OnPage n

namespace State.Renewed

variable {q : TxEntry → Prop} {n : Nat}

theorem of_same {s t : State} (h : s.Renewed q n) (hl : t.line = s.line) (hc : t.screen = s.screen) : t.Renewed q n :=
  ⟨hl ▸ h.line, hc ▸ h.screen⟩

theorem timer {s : State} (h : s.Renewed q n) (x : Timer) : State.Renewed q n { s with line := { s.line with rollCallTimer := x } } :=
  ⟨⟨h.line.roster, h.line.waiting, h.line.unheard, h.line.queue⟩, h.screen⟩

theorem raiseAlarm {s : State} (hq : NewsAllowed q) (h : s.Renewed q n) (i : Nat) (d : Detail) : (s.raiseAlarm i d).Renewed q n := by
  unfold State.raiseAlarm
  split
  · exact h
  · exact ⟨h.line.afterAlarm hq _ _ _ _ _, h.screen.afterAlarm _ _ _⟩

theorem putEntry {s : State} (hq : NewsAllowed q) (h : s.Renewed q n) (i : Nat) (e : AlarmEntry) (b : Bool) :
    (s.putEntry i e b).Renewed q n := ⟨h.line.afterAlarm hq _ _ _ _ _, h.screen.afterAlarm _ _ _⟩

theorem conditionGone {s : State} (hq : NewsAllowed q) (h : s.Renewed q n) (i : Nat) : (s.conditionGone i).Renewed q n := by
  unfold State.conditionGone
  dsimp only
  split <;> exact h.putEntry hq _ _ _

theorem stopDwell {s : State} (hq : NewsAllowed q) (h : s.Renewed q n) : s.stopDwell.Renewed q n := by
  unfold State.stopDwell
  dsimp only
  split
  · refine conditionGone hq ?_ _
    exact ⟨h.line, h.screen⟩
  · exact ⟨h.line, h.screen⟩

theorem setStage {s : State} (hq : NewsAllowed q) (h : s.Renewed q n) (st : StageState) : (s.setStage st).Renewed q n := by
  unfold State.setStage
  split
  · exact h
  · exact ⟨h.line.request hq rfl, h.screen⟩

theorem setStation {s : State} (hq : NewsAllowed q) (h : s.Renewed q n) (st : StationState) : (s.setStation st).Renewed q n := by
  unfold State.setStation
  split
  · exact h
  · exact ⟨h.line.request hq rfl, h.screen.1, rfl⟩

theorem emptyStage {s : State} (hq : NewsAllowed q) (h : s.Renewed q n) : s.emptyStage.Renewed q n := by
  have hset := h.setStage hq .empty
  unfold State.emptyStage
  refine stopDwell hq ?_
  dsimp only
  split <;> exact ⟨hset.line, hset.screen⟩

theorem restartStage {s : State} (hq : NewsAllowed q) (h : s.Renewed q n) : s.restartStage.Renewed q n := by
  have hunit (f : StageUnit → StageUnit) {r : State} (hr : r.Renewed q n) : (r.setStageUnit f).Renewed q n := hr.of_same rfl rfl
  unfold State.restartStage State.offerClosed State.takeBack State.giveUpTransfer
  dsimp only
  split
  · exact (hunit _ (hunit _ h)).setStage hq _
  · split
    · exact (hunit _ (hunit _ h)).setStage hq _
    · exact hunit _ (hunit _ h)
    · exact (hunit _ h).emptyStage hq
    · exact hunit _ h
  · exact (hunit _ (hunit _ h)).emptyStage hq
  · exact hunit _ h

theorem renew {s : State} (hq : NewsAllowed q) (h : s.Renewed q n) (old : AlarmUnit) (l : List Source) : (s.renew old l).Renewed q n := by
  induction l generalizing s with
  | nil => exact h
  | cons i is ih =>
    unfold State.renew
    refine ih ?_
    split
    · exact h.raiseAlarm hq _ _
    · exact h

theorem judgeFinding {s : State} (hq : NewsAllowed q) (h : s.Renewed q n) (i : Nat) (x : Option Nat) : (s.judgeFinding i x).Renewed q n := by
  unfold State.judgeFinding
  split
  · exact h.raiseAlarm hq _ _
  · exact h.conditionGone hq _

theorem judgeRoster {s : State} (hq : NewsAllowed q) (h : s.Renewed q n) : s.judgeRoster.Renewed q n := by
  unfold State.judgeRoster State.judgeGap
  dsimp only
  split
  · exact h
  · split
    · exact ((h.judgeFinding hq _ _).judgeFinding hq _ _).conditionGone hq _
    · exact (h.judgeFinding hq _ _).judgeFinding hq _ _

theorem tryReady {s : State} (hq : NewsAllowed q) (h : s.Renewed q n) : s.tryReady.Renewed q n := by
  unfold State.tryReady
  split
  · exact (h.timer _).setStation hq _
  · exact h

end State.Renewed

/-! ## A STOP that finds no cycle in flight -/

/-- R24: with no wire in flight and no bond in progress, what entering STOPPED leaves. -/
theorem State.enterStopped_of_rest {s : State} (hf : s.wire.inFlight = none) (hb : s.energy.bond = none) :
    s.enterStopped.alarms = s.alarms ∧ s.enterStopped.energy = s.energy ∧ s.enterStopped.stage.record = s.stage.record ∧
    s.enterStopped.wire = { s.wire with cycle := .idle, awaits := .none, inFlight := none, ballReady := false } ∧
    s.enterStopped.pull = { s.pull with cycle := .idle, inFlight := none, holdTimer := .stopped } := by
  have hroll : s.stopRollCall.wire = s.wire ∧ s.stopRollCall.energy = s.energy ∧ s.stopRollCall.alarms = s.alarms ∧
      s.stopRollCall.pull = s.pull ∧ s.stopRollCall.stage = s.stage := by simp
  obtain ⟨hwire, henergy, halarms, hpull, hstage⟩ := hroll
  have hcharges : abortCharges s.stopRollCall.wire = false := by simp [abortCharges, hf]
  have hbond : s.energy.abortBond = s.energy := by
    unfold EnergyUnit.abortBond
    rw [hb]
  have habort : s.stopRollCall.abortWire.alarms = s.alarms ∧
      s.stopRollCall.abortWire.wire = { s.wire with cycle := .idle, awaits := .none, inFlight := none, ballReady := false } := by
    unfold State.abortWire
    rw [if_neg (by rw [hcharges]; decide)]
    dsimp only
    rw [hwire]
    exact ⟨halarms, rfl⟩
  obtain ⟨h1, h2⟩ := habort
  refine ⟨?_, ?_, ?_, ?_, ?_⟩
  · unfold State.enterStopped
    simp [h1]
  · unfold State.enterStopped
    simp [hbond]
  · rw [State.enterStopped_record_eq, (State.abortWire_free hcharges).1, hstage]
  · unfold State.enterStopped
    simp [h2]
  · unfold State.enterStopped State.haltElevators State.abandonPull
    simp

theorem State.Renewed.enterStopped {q : TxEntry → Prop} {n : Nat} {s : State} (hq : NewsAllowed q) (h : s.Renewed q n)
    (hf : s.wire.inFlight = none) : s.enterStopped.Renewed q n := by
  have hroll : s.stopRollCall.Renewed q n := by
    unfold State.stopRollCall
    split
    · exact h.timer _
    · exact h
  have hcharges : abortCharges s.stopRollCall.wire = false := by simp [abortCharges, hf]
  have habort : s.stopRollCall.abortWire.Renewed q n := by
    refine hroll.of_same ?_ ?_ <;> unfold State.abortWire <;> rw [if_neg (by rw [hcharges]; decide)]
  unfold State.enterStopped
  refine State.Renewed.setStation hq (habort.of_same ?_ ?_) _
  · simp
  · simp

/-! ## The alarm table (R37) -/

/-- An entry as the restart clears it. -/
structure AlarmEntry.Resting (e : AlarmEntry) : Prop where
  state : e.state = .clear
  condition : e.condition = false
  count : e.count = 0

theorem AlarmEntry.restarted_resting (e : AlarmEntry) : e.restarted.Resting := ⟨rfl, rfl, rfl⟩

/-- R29: a condition source raised from a cleared entry. -/
theorem AlarmEntry.Resting.raised {e : AlarmEntry} (h : e.Resting) {i : Nat} (hv : isEvent i = false) (d : Detail) :
    (e.raised i d).state = .active ∧ (e.raised i d).condition = true ∧ (e.raised i d).detail = d ∧ (e.raised i d).count = 1 ∧
    (e.raised i d).level = e.level := by
  unfold AlarmEntry.raised
  rw [if_neg (by simp [hv]), h.state]
  exact ⟨rfl, rfl, rfl, by simp [h.count, bump, Config.byteCap], rfl⟩

/-- R31: a condition reported gone from a cleared entry changes no entry. -/
theorem State.conditionGone_resting {i : Nat} {s : State} (h : (s.alarms.entry i).Resting) (j : Nat) :
    (s.conditionGone i).alarms.entry j = s.alarms.entry j := by
  have hsame : ({ s.alarms.entry i with condition := false } : AlarmEntry) = s.alarms.entry i := by rw [← h.condition]
  rw [State.conditionGone_alarms, if_neg (by simp [h.state]), hsame, AlarmUnit.entry_put]
  split
  · next hc => rw [hc.1]
  · rfl

/-- R37: the entries the conditions present in `old` are raised in. -/
theorem State.renew_entry {old : AlarmUnit} {l : List Source} {s : State} (hd : l.Nodup) (hl : ∀ i ∈ l, i < s.alarms.entries.length)
    (j : Nat) : (s.renew old l).alarms.entry j =
      if j ∈ l ∧ (old.entry j).condition = true ∧ s.alarms.disabled j = false then (s.alarms.entry j).raised j (old.entry j).detail
      else s.alarms.entry j := by
  induction l generalizing s with
  | nil => simp [State.renew]
  | cons i is ih =>
    obtain ⟨hi, his⟩ := List.nodup_cons.1 hd
    obtain ⟨u, hu⟩ : ∃ u, u = if (old.entry i).condition then s.raiseAlarm i (old.entry i).detail else s := ⟨_, rfl⟩
    have hlen : u.alarms.entries.length = s.alarms.entries.length := by
      rw [hu]
      split <;> simp
    have hother (h : i ≠ j) : u.alarms.entry j = s.alarms.entry j := by
      rw [hu]
      split
      · exact State.raiseAlarm_entry_ne _ _ h
      · rfl
    rw [State.renew, ← hu, ih his fun k hk => hlen ▸ hl k (List.mem_cons_of_mem _ hk)]
    by_cases hj : i = j
    · subst hj
      rw [if_neg fun c => hi c.1, hu]
      by_cases hc : (old.entry i).condition = true
      · rw [if_pos hc, State.raiseAlarm_alarms]
        by_cases hdis : s.alarms.disabled i = true
        · rw [if_pos hdis, if_neg fun c => by simp [hdis] at c]
        · rw [if_neg hdis, if_pos ⟨by simp, hc, by simpa using hdis⟩]
          exact AlarmUnit.entry_put_self _ _ _ (hl i (by simp))
      · rw [if_neg hc, if_neg fun c => hc c.2.1]
    · have hdis : u.alarms.disabled j = s.alarms.disabled j := by simp [AlarmUnit.disabled, hother hj]
      rw [hother hj, hdis]
      refine if_congr ?_ rfl rfl
      simp [Ne.symm hj]

/-! ## What is restarted -/

/-- R37: line, alarm table and requests cleared, the stage as it was. -/
def State.restartBase (s : State) : State := (State.restartLine { s with screen := s.screen.restarted }).clearAlarms.clearRequests

/-- R37, R56: the stage taken on, and the conditions raised anew. -/
def State.restartRaised (s : State) : State := s.restartBase.restartStage.renew s.alarms renewedSources

theorem exec_warmRestart_eq {s : State} (h : s.restartActs = true) : exec .warmRestart s = .next s.restartRaised.restartState :=
  congrArg _ (if_pos h)

theorem State.restartBase_frame (s : State) :
    s.restartBase.straps = s.straps ∧ s.restartBase.loader = s.loader ∧ s.restartBase.stage = s.stage ∧ s.restartBase.heat = s.heat ∧
    s.restartBase.wire = s.wire ∧ s.restartBase.energy = s.energy ∧ s.restartBase.pull = s.pull ∧
    s.restartBase.elevator = s.elevator ∧ s.restartBase.report = s.report ∧
    s.restartBase.control = { s.control with holdRequest := false, lineStarted := false, restartWaiting := false } := by
  unfold State.restartBase
  refine ⟨by simp, by simp, by simp, by simp, by simp, by simp, by simp, by simp, by simp, rfl⟩

theorem State.restartBase_entry {s : State} (hlen : s.alarms.entries.length = 40) {i : Nat} (hi : i < 40) :
    s.restartBase.alarms.entry i = (s.alarms.entry i).restarted := by
  show (s.alarms.entries.map AlarmEntry.restarted).getD i _ = _
  rw [AlarmUnit.entry, List.getD_eq_getElem _ _ (by simpa [hlen] using hi), List.getD_eq_getElem _ _ (by omega), List.getElem_map]

theorem State.restartBase_renewed {q : TxEntry → Prop} (hq : NewsAllowed q) (s : State) : s.restartBase.Renewed q s.screen.page := by
  have hline : (State.restartLine { s with screen := s.screen.restarted }).line.Renewed q := ⟨rfl, rfl, rfl, by simp [State.restartLine]⟩
  have hscreen : (State.restartLine { s with screen := s.screen.restarted }).screen.OnPage s.screen.page := by
    unfold State.restartLine
    dsimp only
    split <;> exact ⟨rfl, rfl⟩
  exact ⟨hline.afterAlarm hq _ _ 0 (AlarmEntry.initial 0) false, hscreen.afterAlarm _ _ _⟩

/-- R56: with no dwell limit standing, the stage's restart leaves the alarm table. -/
theorem State.restartStage_alarms {s : State} (h : s.conditionOf Source.dwellLimit = false) : s.restartStage.alarms = s.alarms := by
  have hempty {r : State} (hr : r.alarms = s.alarms) : r.emptyStage.alarms = s.alarms := by
    unfold State.emptyStage
    dsimp only
    have hstop {u : State} (hu : u.alarms = s.alarms) : u.stopDwell.alarms = s.alarms := by
      unfold State.stopDwell
      dsimp only
      rw [if_neg]
      · exact hu
      · show ¬u.conditionOf Source.dwellLimit = true
        rw [State.conditionOf, hu]
        simpa [State.conditionOf] using h
    refine hstop ?_
    split <;> simp [hr]
  unfold State.restartStage State.offerClosed State.takeBack State.giveUpTransfer
  dsimp only
  split
  · simp
  · split
    · simp
    · rfl
    · exact hempty rfl
    · rfl
  · exact hempty rfl
  · rfl

theorem State.restartStage_control (s : State) : s.restartStage.control = s.control := s.restartStage_frame.2.1

/-- R37: the alarm entries once the conditions are raised anew. -/
structure AlarmEntry.RaisedAnew (i : Nat) (e old : AlarmEntry) : Prop where
  count : e.count ≤ 1
  level : e.level = old.level
  rests : i ∉ renewedSources ∨ old.condition = false → e.Resting
  raised : i ∈ renewedSources → old.condition = true → old.level ≠ 0 → e.state = .active ∧ e.condition = true ∧ e.detail = old.detail
  local_ : e.state ≠ .clear → i ∈ renewedSources

theorem State.restartRaised_entry {s : State} (hlen : s.alarms.entries.length = 40) {i : Nat} (hi : i < 40) :
    (s.restartRaised.alarms.entry i).RaisedAnew i (s.alarms.entry i) := by
  have hbase (j : Nat) (hj : j < 40) : s.restartBase.restartStage.alarms.entry j = (s.alarms.entry j).restarted := by
    rw [State.restartStage_alarms, State.restartBase_entry hlen hj]
    rw [State.conditionOf, State.restartBase_entry hlen (by decide)]
    rfl
  have hlen' : s.restartBase.restartStage.alarms.entries.length = 40 := by
    rw [State.restartStage_alarms]
    · show (s.alarms.entries.map _).length = 40
      simpa using hlen
    · rw [State.conditionOf, State.restartBase_entry hlen (by decide)]
      rfl
  have hmem : ∀ j ∈ renewedSources, j < 40 ∧ isEvent j = false := by decide
  have hrest := (s.alarms.entry i).restarted_resting
  unfold State.restartRaised
  rw [State.renew_entry (by decide) fun j hj => hlen'.symm ▸ (hmem j hj).1, hbase i hi]
  split
  · next hc =>
    obtain ⟨hin, hcond, -⟩ := hc
    obtain ⟨h1, h2, h3, h4, h5⟩ := hrest.raised (hmem i hin).2 (s.alarms.entry i).detail
    exact ⟨h4.le, h5, fun h => by simp [hin, hcond] at h, fun _ _ _ => ⟨h1, h2, h3⟩, fun _ => hin⟩
  · next hc =>
    refine ⟨by simp [hrest.count], rfl, fun _ => hrest, fun hin hcond hlevel => absurd ⟨hin, hcond, ?_⟩ hc, fun h => absurd hrest.state h⟩
    rw [AlarmUnit.disabled, hbase i hi]
    exact decide_eq_false fun c => hlevel c.2

/-- R24, R37: no STOP-class entry stands once the conditions are raised anew. -/
theorem State.restartRaised_stands {s : State} (hlen : s.alarms.entries.length = 40) : s.restartRaised.alarms.stopStands = false := by
  rw [Bool.eq_false_iff]
  intro h
  obtain ⟨i, hi, hc, hstate⟩ := (AlarmUnit.stopStands_iff _).1 h
  have hmem := (s.restartRaised_entry hlen hi).local_ hstate
  have : ∀ j ∈ renewedSources, j < 32 ∧ localClass j ≠ .stop := by decide
  rw [AlarmUnit.classOf, if_pos (this i hmem).1] at hc
  exact (this i hmem).2 hc

/-! ## Roll call with no other station (R179, R180) -/

theorem State.mismatch_alone {s : State} (h : s.line.roster = emptyRoster) : s.mismatch = none := by
  unfold State.mismatch
  cases hid : s.programId? with
  | none => rfl
  | some id =>
    refine smallest_eq_none.2 (State.presentWith_eq_nil.2 fun k hk => ?_)
    rintro ⟨i, hi, hne⟩
    unfold State.rosterEntry at hi
    split at hi
    · obtain rfl : _ = i := by simpa [State.ownIdentity, hid] using hi
      simp at hne
    · split at hi
      · simp [RosterEntry.absent] at hi
      · have habsent (n : Nat) : s.line.roster.getD n .absent = .absent := by
          rw [h, emptyRoster, List.getD_eq_getElem?_getD, List.getElem?_replicate]
          split <;> rfl
        rw [habsent] at hi
        simp [RosterEntry.absent] at hi

/-- R180: a judgement of this station alone raises LINE_LAYOUT or changes no entry. -/
theorem State.judgeRoster_alone {s : State} (hroster : s.line.roster = emptyRoster) (hlen : s.alarms.entries.length = 40)
    (hrest : ∀ j, j = Source.programMismatch ∨ j = Source.lineLayout ∨ j = Source.rosterGap → (s.alarms.entry j).Resting)
    (hb : s.control.station ≠ .boot) :
    (∀ j, j ≠ Source.lineLayout → s.judgeRoster.alarms.entry j = s.alarms.entry j) ∧
    s.judgeRoster.alarms.entry Source.lineLayout = (match smallest s.layoutBreaches with
      | some k => (s.alarms.entry Source.lineLayout).raised Source.lineLayout (.station k)
      | none => s.alarms.entry Source.lineLayout) := by
  obtain ⟨u, hu⟩ : ∃ u, u = s.judgeFinding Source.programMismatch s.mismatch := ⟨_, rfl⟩
  obtain ⟨v, hv⟩ : ∃ v, v = u.judgeFinding Source.lineLayout (smallest u.layoutBreaches) := ⟨_, rfl⟩
  have huentry (j : Nat) : u.alarms.entry j = s.alarms.entry j := by
    rw [hu, State.mismatch_alone hroster]
    exact State.conditionGone_resting (hrest _ (.inl rfl)) j
  have hulen : u.alarms.entries.length = 40 := by rw [hu]; simpa using hlen
  have hulayout : u.layoutBreaches = s.layoutBreaches := by rw [hu]; exact (Settles.judgeFinding (by decide) _ s).sameLine.layoutBreaches
  have hvother (j : Nat) (hj : j ≠ Source.lineLayout) : v.alarms.entry j = s.alarms.entry j := by
    rw [hv, State.judgeFinding_entry_ne _ _ (Ne.symm hj), huentry]
  have hgap : v.conditionOf Source.rosterGap = false := by
    rw [State.conditionOf, hvother _ (by decide)]
    exact (hrest _ (.inr (.inr rfl))).condition
  have hjudge : s.judgeRoster = v := by
    unfold State.judgeRoster
    rw [if_neg hb]
    dsimp only
    rw [← hu, ← hv]
    unfold State.judgeGap
    rw [hgap, Bool.and_false]
    rfl
  rw [hjudge]
  refine ⟨hvother, ?_⟩
  rw [hv, hulayout]
  cases smallest s.layoutBreaches with
  | none => exact (State.conditionGone_resting (by rw [huentry]; exact hrest _ (.inr (.inl rfl))) _).trans (huentry _)
  | some k =>
    exact (State.raiseAlarm_entry_self _ (by rw [hulen]; decide) (AlarmUnit.disabled_of_stop _ (by decide))).trans (by rw [huentry])

/-- R178: frames that may make room never keep a PRESENT frame out, which joins as a frame of its own. -/
theorem LineUnit.present_joins {l : LineUnit} (h : ∀ e ∈ l.queue, e.mayGo = true) (q : PresentPayload) :
    (⟨0, .present q, none, false⟩ : TxEntry) ∈ (l.request 0 (.present q)).queue ∧
    ∀ e ∈ (l.request 0 (.present q)).queue, e ∈ l.queue ∨ e = ⟨0, .present q, none, false⟩ := by
  rcases l.request_cases 0 (.present q) with ⟨hm, -⟩ | ⟨-, -, hr⟩ | ⟨hc, -⟩ | ⟨-, -, -, hr⟩ | ⟨-, hl, hgo, -⟩
  · simp [TxEntry.mergesWith] at hm
  · rw [hr]
    exact ⟨by simp, fun e he => by simpa using he⟩
  · simp [TxBody.frameClass] at hc
  · rw [hr]
    refine ⟨by simp, fun e he => (List.mem_append.1 he).imp (fun he => (dropFirst_sublist _ _).subset he) List.mem_singleton.1⟩
  · obtain ⟨e, he⟩ := List.exists_mem_of_length_pos (by omega : 0 < l.queue.length)
    rw [List.any_eq_false] at hgo
    exact absurd (h e he) (hgo e he)

/-- Frames that may make room. -/
theorem newsAllowed_mayGo : NewsAllowed fun e => e.mayGo = true where
  new body hb := by cases body <;> simp_all [TxBody.isFirm, TxEntry.mayGo]
  merged e body hb he := by cases body <;> simp_all [TxBody.isFirm, TxEntry.mayGo]

/-- Frames that wait for the line and carry no record. -/
theorem newsAllowed_light : NewsAllowed fun e => e.onLine = none ∧ ∀ h p, e.body ≠ .record h p where
  new body hb := by cases body <;> simp_all [TxBody.isFirm]
  merged e body hb he := by cases body <;> simp_all [TxBody.isFirm]

theorem TxEntry.light_of_mayGo {e : TxEntry} (h : e.mayGo = true) : e.onLine = none ∧ ∀ n p, e.body ≠ .record n p := by
  unfold TxEntry.mayGo at h
  cases hb : e.body <;> simp_all

/-- Roll call entered, before the roster is judged. -/
def State.rollCalling (s : State) : State :=
  { (s.setStation .rollcall).sendPresent with
    line := { (s.setStation .rollcall).sendPresent.line with rollCallTimer := .running 2000 } }

theorem State.enterRollCall_eq (s : State) : s.enterRollCall = s.rollCalling.judgeRoster.tryReady := rfl

theorem State.rollCalling_frame (s : State) :
    s.rollCalling.control.station = .rollcall ∧ s.rollCalling.alarms = s.alarms ∧ s.rollCalling.wire = s.wire ∧
    s.rollCalling.energy = s.energy := by
  unfold State.rollCalling State.sendPresent
  refine ⟨?_, ?_, ?_, ?_⟩ <;> dsimp only <;> split <;> simp [State.send]

/-- R37, R179: entering ROLLCALL after a restart: the line stays cleared, and a station with a program asks for PRESENT. -/
theorem State.rollCalling_renewed {s : State} {n : Nat} (h : s.Renewed (fun e => e.mayGo = true) n) :
    s.rollCalling.Renewed (fun e => e.onLine = none ∧ ∀ h p, e.body ≠ .record h p) n ∧
    (s.programId?.isSome = true → ∃ e ∈ s.rollCalling.line.queue, ∃ q, e.body = .present q ∧ q.station = s.straps.station) := by
  obtain ⟨u, hu⟩ : ∃ u, u = s.setStation .rollcall := ⟨_, rfl⟩
  have hset : u.Renewed (fun e => e.mayGo = true) n := by rw [hu]; exact h.setStation newsAllowed_mayGo _
  have hlight : u.Renewed (fun e => e.onLine = none ∧ ∀ h p, e.body ≠ .record h p) n :=
    ⟨⟨hset.line.roster, hset.line.waiting, hset.line.unheard, fun e he => TxEntry.light_of_mayGo (hset.line.queue e he)⟩, hset.screen⟩
  have hid : u.programId? = s.programId? := by
    unfold State.programId?
    simp [hu]
  have hstraps : u.straps = s.straps := by simp [hu]
  unfold State.rollCalling
  rw [← hu]
  unfold State.sendPresent
  rw [hid]
  cases hp : s.programId? with
  | none => exact ⟨hlight.timer _, by simp⟩
  | some id =>
    dsimp only
    obtain ⟨q, hq⟩ : ∃ q : PresentPayload, q = ⟨u.straps.station, u.straps.role, u.straps.infeed, u.straps.outfeed, id, u.knownSet⟩ :=
      ⟨_, rfl⟩
    rw [← hq]
    obtain ⟨hjoined, honly⟩ := LineUnit.present_joins hset.line.queue q
    refine ⟨⟨⟨?_, ?_, ?_, fun x hx => ?_⟩, hlight.screen⟩, fun _ => ⟨_, hjoined, q, rfl, by rw [hq, ← hstraps]⟩⟩
    · exact (by simp : (u.line.request 0 (.present q)).roster = u.line.roster).trans hlight.line.roster
    · exact (LineUnit.request_waiting 0 (by simp [TxBody.frameClass]) _).trans hlight.line.waiting
    · exact (by simp : (u.line.request 0 (.present q)).unheard = u.line.unheard).trans hlight.line.unheard
    · rcases honly x hx with hx | rfl
      · exact hlight.line.queue x hx
      · exact ⟨rfl, nofun⟩

/-! ## The station after a restart -/

/-- R24: what settling leaves of a station with no wire in flight and no bond in progress. -/
structure RestSettled (d t : State) : Prop where
  alarms : t.alarms = d.alarms
  energy : t.energy = d.energy
  record : t.stage.record = d.stage.record
  wire : t.wire.stock = d.wire.stock ∧ t.wire.wiresBonded = d.wire.wiresBonded
  pull : t.pull.log = d.pull.log ∧ t.pull.failures = d.pull.failures ∧ t.pull.pairs = d.pull.pairs ∧ t.pull.pending = d.pull.pending
  head : t.control.head = d.control.head

theorem RestSettled.refl (d : State) : RestSettled d d := ⟨rfl, rfl, rfl, ⟨rfl, rfl⟩, ⟨rfl, rfl, rfl, rfl⟩, rfl⟩

theorem State.settle_of_rest {d : State} (hf : d.wire.inFlight = none) (hbond : d.energy.bond = none) (hb : d.control.station ≠ .boot)
    (hs : d.control.station = .stopped → d.alarms.stopStands = true) :
    RestSettled d d.settle ∧ (d.alarms.stopStands = false → d.settle = d) ∧
    (∀ q n, NewsAllowed q → d.Renewed q n → d.settle.Renewed q n) := by
  by_cases hst : d.control.station = .stopped
  · rw [State.settle_of_stopped hst (hs hst)]
    exact ⟨.refl d, fun _ => rfl, fun _ _ _ h => h⟩
  · by_cases hstands : d.alarms.stopStands = true
    · rw [State.settle_enters hb hst hstands]
      obtain ⟨h1, h2, h3, h4, h5⟩ := State.enterStopped_of_rest hf hbond
      exact ⟨⟨h1, h2, h3, by rw [h4]; exact ⟨rfl, rfl⟩, by rw [h5]; exact ⟨rfl, rfl, rfl, rfl⟩, by simp⟩, by simp [hstands],
        fun _ _ hq h => h.enterStopped hq hf⟩
    · rw [State.settle_of_none hst (by simpa using hstands)]
      exact ⟨.refl d, fun _ => rfl, fun _ _ _ h => h⟩

/-- What is settled after a restart: PROGRAM_INVALID raised anew, or ROLLCALL entered. -/
def State.restartEntered (c : State) : State :=
  if c.loader.loaded = .invalid then c.raiseAlarm Source.programInvalid .none else c.enterRollCall

theorem State.restartState_eq (c : State) : c.restartState = c.restartEntered.settle := by
  unfold State.restartState State.restartEntered
  split <;> rfl

theorem State.restartEntered_frame (c : State) :
    c.restartEntered.straps = c.straps ∧ c.restartEntered.loader = c.loader ∧ c.restartEntered.stage = c.stage ∧
    c.restartEntered.heat = c.heat ∧ c.restartEntered.wire = c.wire ∧ c.restartEntered.energy = c.energy ∧
    c.restartEntered.pull = c.pull ∧ c.restartEntered.elevator = c.elevator ∧ c.restartEntered.report = c.report ∧
    c.restartEntered.control.head = c.control.head ∧ c.restartEntered.control.lineStarted = c.control.lineStarted ∧
    c.restartEntered.control.restartWaiting = c.control.restartWaiting ∧ c.restartEntered.alarms.mask = c.alarms.mask := by
  have hset := Settles.enterRollCall c
  unfold State.restartEntered
  split
  · have hmask : (c.raiseAlarm Source.programInvalid .none).alarms.mask = c.alarms.mask := by
      rw [State.raiseAlarm_alarms]
      split <;> rfl
    simp [hmask]
  · simp [hset.started.1, hset.started.2, hset.mask]

/-- The state a restart leaves before the station is settled, for a line and an alarm table that stand cleared. -/
structure RestartReady (c : State) : Prop where
  line : ∃ n, c.Renewed (fun e => e.mayGo = true) n
  length : c.alarms.entries.length = 40
  rests : ∀ j, j ∉ renewedSources → j < 40 → (c.alarms.entry j).Resting
  stands : c.alarms.stopStands = false
  boot : c.control.station ≠ .boot

namespace RestartReady

/-- R180: the entries after ROLLCALL is entered: those raised anew, and LINE_LAYOUT where this station's layout breaches. -/
theorem rollCall_entry {c : State} (h : RestartReady c) :
    (∀ j, j ≠ Source.lineLayout → c.enterRollCall.alarms.entry j = c.alarms.entry j) ∧
    c.enterRollCall.alarms.entry Source.lineLayout = (match smallest c.layoutBreaches with
      | some k => (c.alarms.entry Source.lineLayout).raised Source.lineLayout (.station k)
      | none => c.alarms.entry Source.lineLayout) := by
  obtain ⟨n, hline⟩ := h.line
  obtain ⟨hstation, halarms, -, -⟩ := c.rollCalling_frame
  have hsame : SameLine c c.rollCalling :=
    ((Settles.setStation .rollcall c).trans ((Settles.sendPresent _).trans (Settles.rollCallTimer (.running 2000) _))).sameLine
  have hready (r : State) : r.tryReady.alarms = r.alarms := by
    unfold State.tryReady
    split <;> simp
  have halone := State.judgeRoster_alone (s := c.rollCalling) (State.rollCalling_renewed hline).1.line.roster (by rw [halarms, h.length])
    (fun j hj => by
      rw [halarms]
      rcases hj with rfl | rfl | rfl
      · exact h.rests _ (by decide) (by decide)
      · exact h.rests _ (by decide) (by decide)
      · exact h.rests _ (by decide) (by decide)) (by rw [hstation]; decide)
  rw [halarms, hsame.layoutBreaches] at halone
  rw [State.enterRollCall_eq, hready]
  exact halone

/-- R24, R180: after ROLLCALL is entered a STOP-class entry stands exactly with a breach of the layout. -/
theorem rollCall_stands {c : State} (h : RestartReady c) :
    c.enterRollCall.alarms.stopStands = true ↔ ∃ j ∈ stationNumbers, c.LayoutBreach j := by
  obtain ⟨hother, hlayout⟩ := h.rollCall_entry
  have hrest := h.rests Source.lineLayout (by decide) (by decide)
  have hstands : c.enterRollCall.alarms.stopStands = true ↔ (c.enterRollCall.alarms.entry Source.lineLayout).state ≠ .clear := by
    rw [AlarmUnit.stopStands_iff]
    refine ⟨fun ⟨i, hi, hc, hstate⟩ => ?_, fun hstate => ⟨Source.lineLayout, by decide, rfl, hstate⟩⟩
    by_contra hclear
    have hne : i ≠ Source.lineLayout := fun he => hstate (by rw [he, hclear])
    have hstill : c.alarms.stopStands = true := by
      rw [AlarmUnit.stopStands_iff]
      unfold AlarmUnit.classOf at hc ⊢
      rw [hother i hne] at hc hstate
      exact ⟨i, hi, hc, hstate⟩
    rw [h.stands] at hstill
    contradiction
  rw [hstands, hlayout]
  cases hs : smallest c.layoutBreaches with
  | none =>
    refine iff_of_false (by simp [hrest.state]) ?_
    rintro ⟨j, -, hj⟩
    rw [← State.mem_layoutBreaches, smallest_eq_none.1 hs] at hj
    simp at hj
  | some k =>
    have hk := State.mem_layoutBreaches.1 (smallest_mem hs).1
    exact iff_of_true (by simp [(hrest.raised (i := Source.lineLayout) (by decide) (.station k)).1]) ⟨k, hk.1, hk⟩

/-- R20, R179: where no STOP-class entry stands, READY with a complete roll call, ROLLCALL with its timer without. -/
theorem rollCall_station {c : State} (hn : c.enterRollCall.alarms.stopStands = false) :
    (c.enterRollCall.rollCallComplete = true → c.enterRollCall.control.station = .ready) ∧
    (c.enterRollCall.rollCallComplete = false → c.enterRollCall.control.station = .rollcall ∧
      c.enterRollCall.line.rollCallTimer = .running 2000) := by
  obtain ⟨r, hr⟩ : ∃ r, r = c.rollCalling.judgeRoster := ⟨_, rfl⟩
  have hstation : r.control.station = .rollcall := by rw [hr]; simpa using c.rollCalling_frame.1
  have htimer : r.line.rollCallTimer = .running 2000 := by rw [hr, State.judgeRoster_rollCallTimer]; rfl
  have hcomplete : r.tryReady.rollCallComplete = r.rollCallComplete := (Settles.tryReady r).sameLine.rollCallComplete
  have halarms : r.tryReady.alarms = r.alarms := by
    unfold State.tryReady
    split <;> simp
  rw [State.enterRollCall_eq, ← hr] at hn ⊢
  rw [halarms] at hn
  rw [hcomplete]
  refine ⟨fun hc => ?_, fun hc => ?_⟩
  · rw [State.tryReady, if_pos ⟨hstation, hc, hn⟩]
    simp
  · rw [State.tryReady, if_neg fun c => by simp [hc] at c]
    exact ⟨hstation, htimer⟩

/-- R37: the entries after the station's own step, those of LINE_LAYOUT and PROGRAM_INVALID raised at most once. -/
theorem entered_entry {c : State} (h : RestartReady c) :
    (∀ j, j ≠ Source.lineLayout → j ≠ Source.programInvalid → c.restartEntered.alarms.entry j = c.alarms.entry j) ∧
    (∀ j, j = Source.lineLayout ∨ j = Source.programInvalid →
      (c.restartEntered.alarms.entry j).count ≤ 1 ∧ (c.restartEntered.alarms.entry j).level = (c.alarms.entry j).level) := by
  have hlayout := h.rests Source.lineLayout (by decide) (by decide)
  have hinvalid := h.rests Source.programInvalid (by decide) (by decide)
  unfold State.restartEntered
  split
  · refine ⟨fun j _ hj => State.raiseAlarm_entry_ne _ _ (Ne.symm hj), fun j hj => ?_⟩
    rcases hj with rfl | rfl
    · rw [State.raiseAlarm_entry_ne _ _ (by decide)]
      exact ⟨by simp [hlayout.count], rfl⟩
    · rw [State.raiseAlarm_entry_self _ (by rw [h.length]; decide) (AlarmUnit.disabled_of_stop _ (by decide))]
      obtain ⟨-, -, -, h4, h5⟩ := hinvalid.raised (i := Source.programInvalid) (by decide) .none
      exact ⟨h4.le, h5⟩
  · obtain ⟨hother, hself⟩ := h.rollCall_entry
    refine ⟨fun j hj _ => hother j hj, fun j hj => ?_⟩
    rcases hj with rfl | rfl
    · rw [hself]
      split
      · next k _ =>
        obtain ⟨-, -, -, h4, h5⟩ := hlayout.raised (i := Source.lineLayout) (by decide) (.station k)
        exact ⟨h4.le, h5⟩
      · exact ⟨by simp [hlayout.count], rfl⟩
    · rw [hother _ (by decide)]
      exact ⟨by simp [hinvalid.count], rfl⟩

theorem entered_station {c : State} (h : RestartReady c) :
    c.restartEntered.control.station ≠ .boot ∧
    (c.restartEntered.control.station = .stopped → c.restartEntered.alarms.stopStands = true) ∧
    (c.loader.loaded = .invalid → c.restartEntered.alarms.stopStands = true) := by
  unfold State.restartEntered
  split
  · next hi =>
    have hstands : (c.raiseAlarm Source.programInvalid .none).alarms.stopStands = true := by
      rw [AlarmUnit.stopStands_iff]
      refine ⟨Source.programInvalid, by decide, rfl, ?_⟩
      rw [State.raiseAlarm_entry_self _ (by rw [h.length]; decide) (AlarmUnit.disabled_of_stop _ (by decide)),
        ((h.rests Source.programInvalid (by decide) (by decide)).raised (by decide) _).1]
      decide
    exact ⟨by simpa using h.boot, fun _ => hstands, fun _ => hstands⟩
  · next hi =>
    refine ⟨?_, fun hs => ?_, fun hc => absurd hc hi⟩
    · rcases c.enterRollCall_station with h | h <;> simp [h]
    · rcases c.enterRollCall_station with h | h <;> simp [h] at hs

theorem entered_renewed {c : State} {n : Nat} (hn : c.Renewed (fun e => e.mayGo = true) n) :
    c.restartEntered.Renewed (fun e => e.onLine = none ∧ ∀ h p, e.body ≠ .record h p) n := by
  have hlight : c.Renewed (fun e => e.onLine = none ∧ ∀ h p, e.body ≠ .record h p) n :=
    ⟨⟨hn.line.roster, hn.line.waiting, hn.line.unheard, fun e he => TxEntry.light_of_mayGo (hn.line.queue e he)⟩, hn.screen⟩
  unfold State.restartEntered
  split
  · exact hlight.raiseAlarm newsAllowed_light _ _
  · exact ((State.rollCalling_renewed hn).1.judgeRoster newsAllowed_light).tryReady newsAllowed_light

end RestartReady

/-! ## The stage (R56) -/

theorem State.restartStage_stage (s : State) :
    s.restartStage.stage.permit = false ∧ s.restartStage.stage.offerNumber = s.stage.offerNumber ∧
    s.restartStage.stage.column = s.stage.column ∧ s.restartStage.stage.indexMotion = s.stage.indexMotion ∧
    (s.stage.state ≠ .offering → s.stage.state ≠ .handing → s.stage.state ≠ .receiving →
      s.restartStage.stage = { s.stage with permit := false }) ∧
    (s.stage.state = .offering → s.restartStage.stage = { s.stage with permit := false, offerTimer := .stopped, state := .finished }) ∧
    (s.stage.state = .handing →
      (s.stage.push = .notBegun → s.restartStage.stage = { s.stage with
        permit := false, transferTimer := .stopped, push := .notBegun, lastPartLeft := false, closeWhenLeft := false, state := .finished }) ∧
      (s.stage.push = .moving → s.restartStage.stage = { s.stage with permit := false, closeWhenLeft := true }) ∧
      (s.stage.push = .gone → s.restartStage.stage.state = .empty ∧ s.restartStage.stage.record = none)) ∧
    (s.stage.state = .receiving → s.restartStage.stage.state = .empty ∧ s.restartStage.stage.assembly = none ∧
      s.restartStage.stage.transferTimer = .stopped ∧
      s.restartStage.stage.note = s.stage.kept.map fun k => ⟨k.sender, k.offer.offerNumber, k.offer.serial, k.offer.lineSeq⟩) := by
  unfold State.restartStage State.offerClosed State.takeBack State.giveUpTransfer State.setStageUnit
  dsimp only
  cases hst : s.stage.state <;> dsimp only
  case handing => cases s.stage.push <;> simp
  all_goals simp

theorem State.renew_control (old : AlarmUnit) (l : List Source) (s : State) :
    (s.renew old l).control.lineStarted = s.control.lineStarted ∧ (s.renew old l).control.restartWaiting = s.control.restartWaiting ∧
    (s.renew old l).control.head = s.control.head ∧ (s.renew old l).control.station = s.control.station ∧
    (s.renew old l).alarms.mask = s.alarms.mask ∧ (s.renew old l).alarms.entries.length = s.alarms.entries.length := by
  induction l generalizing s with
  | nil => exact ⟨rfl, rfl, rfl, rfl, rfl, rfl⟩
  | cons i is ih =>
    unfold State.renew
    obtain ⟨h1, h2, h3, h4, h5, h6⟩ := ih (if (old.entry i).condition then s.raiseAlarm i (old.entry i).detail else s)
    have hmask : (s.raiseAlarm i (old.entry i).detail).alarms.mask = s.alarms.mask := by
      rw [State.raiseAlarm_alarms]
      split <;> rfl
    rw [h1, h2, h3, h4, h5, h6]
    split <;> simp [hmask]

theorem State.restartRaised_frame (s : State) :
    s.restartRaised.straps = s.straps ∧ s.restartRaised.loader = s.loader ∧ s.restartRaised.stage = s.restartBase.restartStage.stage ∧
    s.restartRaised.heat = s.heat ∧ s.restartRaised.wire = s.wire ∧ s.restartRaised.energy = s.energy ∧ s.restartRaised.pull = s.pull ∧
    s.restartRaised.elevator = s.elevator ∧ s.restartRaised.report = s.report ∧ s.restartRaised.control.lineStarted = false ∧
    s.restartRaised.control.restartWaiting = false ∧ s.restartRaised.control.head = s.control.head ∧
    s.restartRaised.control.station = s.control.station := by
  obtain ⟨b1, b2, -, b4, b5, b6, b7, b8, b9, b10⟩ := s.restartBase_frame
  obtain ⟨h1, h2, h3, h4, -, -⟩ := State.renew_control s.alarms renewedSources s.restartBase.restartStage
  unfold State.restartRaised
  rw [h1, h2, h3, h4, State.restartStage_control, b10]
  refine ⟨?_, ?_, ?_, ?_, ?_, ?_, ?_, ?_, ?_, rfl, rfl, rfl, rfl⟩ <;> simp [b1, b2, b4, b5, b6, b7, b8, b9]

theorem State.restartRaised_ready {s : State} (hlen : s.alarms.entries.length = 40) (hb : s.control.station ≠ .boot) :
    RestartReady s.restartRaised ∧ s.restartRaised.Renewed (fun e => e.mayGo = true) s.screen.page ∧
    s.restartRaised.alarms.mask = s.alarms.mask := by
  have hrenewed : s.restartRaised.Renewed (fun e => e.mayGo = true) s.screen.page :=
    ((State.restartBase_renewed newsAllowed_mayGo s).restartStage newsAllowed_mayGo).renew newsAllowed_mayGo _ _
  have hdwell : s.restartBase.conditionOf Source.dwellLimit = false := by
    rw [State.conditionOf, State.restartBase_entry hlen (by decide)]
    rfl
  obtain ⟨-, -, -, -, hmask, hlength⟩ := State.renew_control s.alarms renewedSources s.restartBase.restartStage
  rw [State.restartStage_alarms hdwell] at hmask hlength
  refine ⟨⟨⟨_, hrenewed⟩, ?_, fun j hj h => (s.restartRaised_entry hlen h).rests (.inl hj), State.restartRaised_stands hlen, ?_⟩,
    hrenewed, hmask⟩
  · refine hlength.trans ?_
    show (s.alarms.entries.map _).length = 40
    simpa using hlen
  · rwa [s.restartRaised_frame.2.2.2.2.2.2.2.2.2.2.2.2]

theorem State.restartActs_iff (s : State) :
    s.restartActs = true ↔ s.control.restartWaiting = true ∧ s.control.station ≠ .boot ∧ s.wire.cycle = .idle ∧ s.pull.cycle = .idle ∧
      s.line.sending = false ∧ s.line.restartLeft = true := by
  simp [State.restartActs, State.cycleInFlight, and_assoc]

/-- Settles O17: the table and the stage up to the conditions raised anew, then the station's own step, and its settling with no cycle in
flight. -/
theorem warmRestartKeepsWhatOutlastsIt : Obligations.WarmRestartKeepsWhatOutlastsIt := by
  intro s hshape hbond hacts renewed
  obtain ⟨-, hb, hwireIdle, -, -, -⟩ := s.restartActs_iff.1 hacts
  have hflight : s.wire.inFlight = none := by
    have := mt hbond.flight.1 (not_not.2 hwireIdle)
    simpa using this
  have hnobond : s.energy.bond = none := by
    have := mt hbond.bond.1 (by rw [hwireIdle]; decide)
    simpa using this
  obtain ⟨c, hc⟩ : ∃ c, c = s.restartRaised := ⟨_, rfl⟩
  obtain ⟨d, hd⟩ : ∃ d, d = c.restartEntered := ⟨_, rfl⟩
  obtain ⟨t, ht⟩ : ∃ t, t = d.settle := ⟨_, rfl⟩
  have hexec : exec .warmRestart s = .next t := by
    rw [exec_warmRestart_eq hacts, State.restartState_eq, ← hc, ← hd, ← ht]
  obtain ⟨c1, c2, c3, c4, c5, c6, c7, c8, c9, c10, c11, c12, c13⟩ := s.restartRaised_frame
  obtain ⟨hready, hcline, hcmask⟩ := State.restartRaised_ready hshape.alarms hb
  have hcentry {i : Nat} (hi : i < 40) := s.restartRaised_entry hshape.alarms hi
  rw [← hc] at c1 c2 c3 c4 c5 c6 c7 c8 c9 c10 c11 c12 c13 hready hcline hcmask
  simp only [← hc] at hcentry
  obtain ⟨d1, d2, d3, d4, d5, d6, d7, d8, d9, d10, d11, d12, d13⟩ := c.restartEntered_frame
  obtain ⟨hdboot, hdstop, hdinvalid⟩ := hready.entered_station
  obtain ⟨hdother, hdtwo⟩ := hready.entered_entry
  have hdline := RestartReady.entered_renewed hcline
  rw [← hd] at d1 d2 d3 d4 d5 d6 d7 d8 d9 d10 d11 d12 d13 hdboot hdstop hdinvalid hdline
  simp only [← hd] at hdother hdtwo
  obtain ⟨hrest, hsame, hnews⟩ := State.settle_of_rest (d := d) (by rw [d5, c5, hflight]) (by rw [d6, c6, hnobond]) hdboot hdstop
  have hsettles := Settles.settle d
  have haside := State.settle_aside d
  have htline := hnews _ _ newsAllowed_light hdline
  have hstopped : d.alarms.stopStands = true → d.settle.control.station = .stopped := State.settle_of_stands hdboot
  have helevator := d.settle_elevator
  have htboot := State.settle_ne_boot hdboot
  rw [← ht] at hrest hsame hsettles haside htline hstopped helevator htboot
  obtain ⟨g1, g2, g3, g4, g5, g6, g7, g8⟩ := s.restartBase.restartStage_stage
  have hbstage := s.restartBase_frame.2.2.1
  rw [hbstage] at g2 g3 g4 g5 g6 g7 g8
  rw [← c3, ← d3] at g1 g2 g3 g4 g5 g6 g7 g8
  have hstarted : t.control.lineStarted = false ∧ t.control.restartWaiting = false := by
    rw [hsettles.started.1, hsettles.started.2, d11, d12]
    exact ⟨c10, c11⟩
  have hentry {i : Nat} : t.alarms.entry i = d.alarms.entry i := by rw [hrest.alarms]
  have hfields : t.elevator.inputSlots = s.elevator.inputSlots ∧ t.elevator.outputSlots = s.elevator.outputSlots ∧
      t.elevator.magSeq = s.elevator.magSeq ∧ t.elevator.lineSeqCounter = s.elevator.lineSeqCounter := by
    rcases helevator with he | he <;> rw [he, d8, c8] <;> exact ⟨rfl, rfl, rfl, rfl⟩
  refine ⟨t, hexec, hstarted.1, hstarted.2, by rw [hrest.head, d10, c12], htboot, fun hi => hstopped (hdinvalid (by rw [c2, hi])),
    fun id p hp => ?_, fun i hi => ?_, by rw [hsettles.mask, d13, hcmask], htline.line.unheard, htline.line.waiting, htline.line.queue,
    htline.line.roster, by rw [hsettles.loader, d2, c2], by rw [hsettles.heat, d4, c4], by rw [hsettles.report, d9, c9],
    by rw [hsettles.trims, d6, c6], by rw [hrest.energy, d6, c6], by rw [hrest.wire.1, d5, c5], by rw [hrest.wire.2, d5, c5],
    by rw [hrest.pull.1, d7, c7], by rw [hrest.pull.2.1, d7, c7], by rw [hrest.pull.2.2.1, d7, c7], by rw [hrest.pull.2.2.2, d7, c7],
    hfields.1, hfields.2.1, hfields.2.2.1, hfields.2.2.2, htline.screen.1, htline.screen.2, by rw [hsettles.stage.2.2.1, g1],
    by rw [haside.stage]; exact g2, fun hns => ?_, fun h1 h2 h3 => ?_, fun h => ?_, fun h => ⟨fun hp => ?_, fun hp => ?_, fun hp => ?_⟩,
    fun h => ?_⟩
  · have hentered : d = c.enterRollCall := by
      rw [hd]
      exact if_neg (by rw [c2, hp]; simp)
    have hsamec : SameLine c t := by
      have h1 : SameLine c d := by rw [hentered]; exact (Settles.enterRollCall c).sameLine
      exact h1.trans hsettles.sameLine
    have hstands : t.alarms.stopStands = true ↔ ∃ j ∈ stationNumbers, t.LayoutBreach j := by
      rw [hrest.alarms, hentered, hready.rollCall_stands]
      simp only [← State.mem_layoutBreaches, hsamec.layoutBreaches]
    have hcomplete : (∃ n ∈ stationNumbers, t.CompleteTo n) ↔ d.rollCallComplete = true := by
      rw [← hsettles.sameLine.rollCallComplete, State.rollCallComplete_iff]
      exact ⟨fun ⟨n, _, h⟩ => ⟨n, h⟩, fun ⟨n, h⟩ => ⟨n, h.1.1, h⟩⟩
    refine ⟨hstands, fun h => hstopped (by rwa [hrest.alarms] at h), fun hn hcomp => ?_, fun hn hcomp => ?_, ?_⟩
    · rw [hrest.alarms] at hn
      rw [hsame hn]
      rw [hcomplete] at hcomp
      rw [hentered] at hn hcomp ⊢
      exact (RestartReady.rollCall_station hn).1 hcomp
    · rw [hrest.alarms] at hn
      rw [hsame hn]
      rw [hcomplete, Bool.not_eq_true] at hcomp
      rw [hentered] at hn hcomp ⊢
      exact (RestartReady.rollCall_station hn).2 hcomp
    · obtain ⟨e, he, q, hbody, hstation⟩ := (State.rollCalling_renewed hcline).2 (by simp [State.programId?, c2, hp])
      have hafter : c.rollCalling.line.Asked d.line := by
        rw [hentered]
        exact ((Settles.judgeRoster _).trans (Settles.tryReady _)).line
      exact ⟨e, hsettles.line.firm e (hafter.firm e he (by rw [hbody]; rfl)) (by rw [hbody]; rfl), q, hbody, hstation.trans (by rw [c1])⟩
  · rw [hentry]
    have hanew := hcentry hi
    by_cases hspecial : i = Source.lineLayout ∨ i = Source.programInvalid
    · obtain ⟨hcount, hlevel⟩ := hdtwo i hspecial
      have hnot : i ∉ renewedSources := by
        rcases hspecial with rfl | rfl <;> decide
      refine ⟨hcount, hlevel.trans hanew.level, fun h1 h2 => absurd hspecial (not_or.2 ⟨h1, h2⟩), fun hin => absurd hin hnot⟩
    · obtain ⟨h1, h2⟩ := not_or.1 hspecial
      rw [hdother i h1 h2]
      exact ⟨hanew.count, hanew.level, fun _ _ h => ⟨(hanew.rests h).state, (hanew.rests h).condition, (hanew.rests h).count⟩, hanew.raised⟩
  · have hnone : d.alarms.stopStands = false := by
      rw [Bool.eq_false_iff]
      exact fun h => hns (hstopped h)
    rw [hsame hnone, g3, g4]
    exact ⟨rfl, rfl⟩
  · rw [hrest.record, haside.stage, g5 h1 h2 h3]
    exact ⟨rfl, rfl, rfl, rfl⟩
  · rw [hrest.record, haside.stage, g6 h]
    exact ⟨rfl, rfl, rfl, rfl⟩
  · rw [hrest.record, haside.stage, (g7 h).1 hp]
    exact ⟨rfl, rfl, rfl⟩
  · rw [hrest.record, haside.stage, (g7 h).2.1 hp]
    exact ⟨h, rfl, rfl, rfl, rfl⟩
  · rw [hrest.record, haside.stage]
    exact (g7 h).2.2 hp
  · rw [haside.stage]
    exact g8 h

end Sys2Proof.Machine
end


section
/-! PROOFS. The bytes and the bits of a line frame, read back (R182 to R185): each field's bytes, each payload, and the frame's own check. -/

namespace Sys2Proof.Machine

/-! ## Numbers and codes -/

theorem byteOf_toNat (n : Nat) : (byteOf n).toNat = n % 256 := BitVec.toNat_ofNat n 8

theorem byteOf_toNat_of_le {n : Nat} (h : n ≤ 255) : (byteOf n).toNat = n := by
  rw [byteOf_toNat, Nat.mod_eq_of_lt (by omega)]

theorem num2_bytes {n : Nat} (h : n ≤ 65535) : num2 (byteOf (n / 256)) (byteOf n) = n := by
  unfold num2
  rw [byteOf_toNat, byteOf_toNat]
  omega

theorem num4_bytes {n : Nat} (h : n < 4294967296) :
    num4 (byteOf (n / 16777216)) (byteOf (n / 65536)) (byteOf (n / 256)) (byteOf n) = n := by
  unfold num4
  simp only [byteOf_toNat]
  omega

/-- R185: a value's code, read in its list of codes. -/
theorem code_reads {α : Type} [DecidableEq α] {l : List α} {x : α} (hx : x ∈ l) : l[codeIn l x]? = some x := by
  unfold codeIn
  rw [List.getElem?_eq_getElem (List.idxOf_lt_length_iff.2 hx), List.getElem_idxOf]

theorem code_lt {α : Type} [DecidableEq α] {l : List α} {x : α} (hx : x ∈ l) : codeIn l x < l.length :=
  List.idxOf_lt_length_iff.2 hx

theorem codeByte_reads {α : Type} [DecidableEq α] {l : List α} {x : α} (hx : x ∈ l) (hl : l.length ≤ 256) :
    l[(byteOf (codeIn l x)).toNat]? = some x := by
  rw [byteOf_toNat_of_le (by have := code_lt hx; omega), code_reads hx]

theorem mem_roleCodes (x : Role) : x ∈ roleCodes := by cases x <;> decide
theorem mem_stationCodes (x : StationState) : x ∈ stationCodes := by cases x <;> decide
theorem mem_headCodes (x : HeadState) : x ∈ headCodes := by cases x <;> decide
theorem mem_stageCodes (x : StageState) : x ∈ stageCodes := by cases x <;> decide
theorem mem_flagCodes (x : Bool) : x ∈ flagCodes := by cases x <;> decide
theorem mem_alarmStateCodes (x : AlarmState) : x ∈ alarmStateCodes := by cases x <;> decide
theorem mem_breakCodes (x : BreakCode) : x ∈ breakCodes := by cases x <;> decide
theorem mem_kindCodes (x : PullKind) : x ∈ kindCodes := by cases x <;> decide
theorem mem_modeCodes (x : PullMode) : x ∈ modeCodes := by cases x <;> decide
theorem mem_reasonCodes (x : RefuseReason) : x ∈ reasonCodes := by cases x <;> decide
theorem mem_suspectCodes (x : SuspectCause) : x ∈ suspectCodes := by cases x <;> decide

theorem mem_classCodes (x : Option AlarmClass) : x ∈ classCodes := by
  cases x with
  | none => decide
  | some x => cases x <;> decide

theorem mem_outcomeCodes (x : Option PullOutcome) : x ∈ outcomeCodes := by
  cases x with
  | none => decide
  | some x => cases x <;> decide

theorem statusOf_byte (x : UnitStatus) : statusOf (byteOf (statusByte x)) = some x := by
  cases x with
  | reject c => cases c <;> rfl
  | _ => rfl

/-! ## Flags, known sets, details and summaries -/

theorem flagAt_byte (a b : Bool) : flagAt (byteOf (flagByte a b)) 0 = a ∧ flagAt (byteOf (flagByte a b)) 1 = b := by
  revert a b
  decide

theorem flagAt_three (a b c : Bool) :
    flagAt (byteOf (flagByte a b + if c then 4 else 0)) 0 = a ∧ flagAt (byteOf (flagByte a b + if c then 4 else 0)) 1 = b ∧
    flagAt (byteOf (flagByte a b + if c then 4 else 0)) 2 = c := by
  revert a b c
  decide

/-- The number whose bits, lowest first, are those listed. -/
def numOfBits : List Bool → Nat
  | [] => 0
  | b :: bs => (if b then 1 else 0) + 2 * numOfBits bs

theorem testBit_numOfBits (l : List Bool) (i : Nat) : (numOfBits l).testBit i = l.getD i false := by
  induction l generalizing i with
  | nil => simp [numOfBits]
  | cons b bs ih =>
    cases i with
    | zero => cases b <;> simp [numOfBits, Nat.testBit_zero]
    | succ i =>
      rw [Nat.testBit_succ]
      have : numOfBits (b :: bs) / 2 = numOfBits bs := by
        rw [numOfBits]
        split <;> omega
      rw [this, ih]
      rfl

/-- The known set's byte, a bit for each station. -/
theorem knownByte_eq (l : List Nat) : knownByte l = numOfBits (stationNumbers.map l.contains) := by
  have hweight (n : Nat) (c : Bool) : (if c then 2 ^ n else 0) = 2 ^ n * (if c then 1 else 0) := by cases c <;> simp
  unfold knownByte
  simp only [hweight]
  simp only [stationNumbers, List.map_cons, List.map_nil, List.sum_cons, List.sum_nil, numOfBits]
  omega

theorem getD_map_stations {f : Nat → Bool} {k : Nat} (h : k ∈ stationNumbers) :
    k - 1 < 8 ∧ (stationNumbers.map f).getD (k - 1) false = f k := by
  simp only [stationNumbers, List.mem_cons, List.not_mem_nil, or_false] at h
  rcases h with rfl | rfl | rfl | rfl | rfl | rfl | rfl | rfl <;> exact ⟨by decide, rfl⟩

theorem knownOf_byte {l : List Nat} (h : l = stationNumbers.filter l.contains) : knownOf (byteOf (knownByte l)) = l := by
  have hbit : ∀ k ∈ stationNumbers, (byteOf (knownByte l)).getLsbD (k - 1) = l.contains k := by
    intro k hk
    obtain ⟨hlt, hget⟩ := getD_map_stations (f := l.contains) hk
    rw [byteOf, BitVec.getLsbD_ofNat, knownByte_eq, testBit_numOfBits, hget, decide_eq_true hlt, Bool.true_and]
  unfold knownOf
  rw [List.filter_congr hbit]
  exact h.symm

theorem detailOf_bytes {d : Detail} (h : detailGood d = true) : ∃ a b c e, detailBytes d = [a, b, c, e] ∧ detailOf a b c e = some d := by
  cases d with
  | none => exact ⟨_, _, _, _, rfl, rfl⟩
  | unitWire u w =>
    simp only [detailGood, within, Bool.and_eq_true, decide_eq_true_eq] at h
    refine ⟨_, _, _, _, rfl, ?_⟩
    show some (Detail.unitWire (byteOf u).toNat (num2 (byteOf (w / 256)) (byteOf w))) = _
    rw [byteOf_toNat_of_le h.1.2, num2_bytes h.2.2]
  | station k =>
    simp only [detailGood, within, decide_eq_true_eq] at h
    exact ⟨_, _, _, _, rfl, congrArg (fun n => some (Detail.station n)) (byteOf_toNat_of_le h.2)⟩
  | lineSeq q =>
    simp only [detailGood, lineSeqGood, within, decide_eq_true_eq] at h
    exact ⟨_, _, _, _, rfl, congrArg (fun n => some (Detail.lineSeq n)) (num2_bytes h.2)⟩
  | slot n =>
    simp only [detailGood, within, decide_eq_true_eq] at h
    exact ⟨_, _, _, _, rfl, congrArg (fun n => some (Detail.slot n)) (byteOf_toNat_of_le h.2)⟩
  | zone n =>
    simp only [detailGood, within, decide_eq_true_eq] at h
    exact ⟨_, _, _, _, rfl, congrArg (fun n => some (Detail.zone n)) (byteOf_toNat_of_le h.2)⟩
  | bondClass n =>
    simp only [detailGood, within, decide_eq_true_eq] at h
    exact ⟨_, _, _, _, rfl, congrArg (fun n => some (Detail.bondClass n)) (byteOf_toNat_of_le h.2)⟩
  | peer k i =>
    simp only [detailGood, within, Bool.and_eq_true, decide_eq_true_eq] at h
    refine ⟨_, _, _, _, rfl, ?_⟩
    show some (Detail.peer (byteOf k).toNat (byteOf i).toNat) = _
    rw [byteOf_toNat_of_le h.1.2, byteOf_toNat_of_le h.2.2]

theorem classFrom_byte (c : AlarmClass) : classFrom (classByte c) = some c := by cases c <;> rfl

theorem summaryOf_bytes {m : Option Summary} (h : summaryGood m = true) :
    ∃ a b c, summaryBytes m = [a, b, c] ∧ summaryOf a b c = some m := by
  cases m with
  | none => exact ⟨_, _, _, rfl, rfl⟩
  | some m =>
    simp only [summaryGood, within, Bool.and_eq_true, decide_eq_true_eq] at h
    refine ⟨_, _, _, rfl, ?_⟩
    unfold summaryOf
    rw [classByte, codeByte_reads (mem_classCodes _) (by decide), byteOf_toNat_of_le (by omega), byteOf_toNat_of_le (by omega)]
    dsimp only
    rw [if_neg (by omega)]
    rfl

/-! ## The parts of a record -/

theorem getLsbD_pair {x y : Nat} (hx : x < 2) (hy : y < 2) :
    (byteOf (x + y * 2)).getLsbD 0 = decide (x = 1) ∧ (byteOf (x + y * 2)).getLsbD 1 = decide (y = 1) := by
  interval_cases x <;> interval_cases y <;> decide

theorem progressOf_bytes {l : List Progress} (h : l.all progressGood = true) : progressOf (l.flatMap progressBytes) = some l := by
  induction l with
  | nil => rfl
  | cons g gs ih =>
    rw [List.all_cons, Bool.and_eq_true] at h
    obtain ⟨hg, hgs⟩ := h
    simp only [progressGood, within, Bool.and_eq_true, decide_eq_true_eq] at hg
    obtain ⟨⟨⟨⟨-, hnext⟩, -, hsplit⟩, -, hstarted⟩, -, hfinished⟩ := hg
    obtain ⟨hbit0, hbit1⟩ := getLsbD_pair (x := g.next / 256 % 2) (y := g.split / 256 % 2) (by omega) (by omega)
    have hhigh (n : Nat) (hn : n ≤ 511) : (byteOf n).toNat + (if n / 256 % 2 = 1 then 256 else 0) = n := by
      rw [byteOf_toNat]
      split <;> omega
    show (progressOf (gs.flatMap progressBytes)).map _ = _
    rw [ih hgs]
    simp only [Option.map_some, hbit0, hbit1, decide_eq_true_eq, hhigh _ hnext, hhigh _ hsplit,
      byteOf_toNat_of_le (show g.startedBy % 16 + g.finishedBy * 16 ≤ 255 by omega)]
    rw [show (g.startedBy % 16 + g.finishedBy * 16) % 16 = g.startedBy by omega,
      show (g.startedBy % 16 + g.finishedBy * 16) / 16 = g.finishedBy by omega]

theorem length_progressBytes (l : List Progress) : (l.flatMap progressBytes).length = 4 * l.length := by
  induction l with
  | nil => rfl
  | cons g gs ih =>
    rw [List.flatMap_cons, List.length_append, ih, List.length_cons]
    show 4 + _ = _
    omega

theorem suspectsOf_bytes {l : List Suspect} (h : l.all suspectGood = true) : suspectsOf (l.flatMap suspectBytes) = some l := by
  have hbit (n : Nat) (hn : n < 64) : (byteOf n).getLsbD 7 = false ∧ (byteOf (n + 128)).getLsbD 7 = true := by
    unfold byteOf
    rw [BitVec.getLsbD_ofNat, BitVec.getLsbD_ofNat, Nat.testBit_eq_decide_div_mod_eq, Nat.testBit_eq_decide_div_mod_eq]
    constructor
    · simp
      omega
    · simp
      omega
  induction l with
  | nil => rfl
  | cons x xs ih =>
    rw [List.all_cons, Bool.and_eq_true] at h
    obtain ⟨hx, hxs⟩ := h
    simp only [suspectGood, within, Bool.and_eq_true, decide_eq_true_eq] at hx
    obtain ⟨⟨hu1, hu2⟩, hw1, hw2⟩ := hx
    obtain ⟨hbit1, hbit2⟩ := hbit (x.unit - 1) (by omega)
    show (suspectsOf (xs.flatMap suspectBytes)).map _ = _
    rw [ih hxs]
    obtain ⟨u, w, cause⟩ := x
    dsimp only at *
    cases cause with
    | shortSink =>
      have hcode : codeIn suspectCodes .shortSink = 0 := rfl
      simp only [Option.map_some, hcode, Nat.zero_mul, Nat.add_zero, hbit1, byteOf_toNat_of_le (show u - 1 ≤ 255 by omega),
        byteOf_toNat_of_le (show w - 1 ≤ 255 by omega), Bool.false_eq_true, if_false]
      rw [show (u - 1) % 64 + 1 = u by omega, show w - 1 + 1 = w by omega]
    | saturated =>
      have hcode : codeIn suspectCodes .saturated = 1 := rfl
      simp only [Option.map_some, hcode, Nat.one_mul, hbit2, byteOf_toNat_of_le (show u - 1 + 128 ≤ 255 by omega),
        byteOf_toNat_of_le (show w - 1 ≤ 255 by omega), if_true]
      rw [show (u - 1 + 128) % 64 + 1 = u by omega, show w - 1 + 1 = w by omega]

theorem length_suspectBytes (l : List Suspect) : (l.flatMap suspectBytes).length = 2 * l.length := by
  induction l with
  | nil => rfl
  | cons g gs ih =>
    rw [List.flatMap_cons, List.length_append, ih, List.length_cons]
    show 2 + _ = _
    omega

/-- R14, R184: what a good RECORD part's bytes are long, and the part they give back. -/
theorem partOf_bytes {p : RecordPayload} (h : recordGood p = true) :
    p.number ≤ 255 ∧ partOf p.number (partBytes p.content) = some p.content ∧
    (if p.number = 0 then (partBytes p.content).length = 9
      else ((partBytes p.content).length % 4 = 2 ∧ 6 ≤ (partBytes p.content).length ∧ (partBytes p.content).length ≤ 34) ∨
        ((partBytes p.content).length % 2 = 1 ∧ (partBytes p.content).length ≤ 33)) := by
  obtain ⟨n, content⟩ := p
  cases content with
  | header x =>
    simp only [recordGood, serialGood, lineSeqGood, within, Bool.and_eq_true, decide_eq_true_eq] at h
    obtain ⟨⟨⟨⟨⟨rfl, ⟨-, hmag⟩, -, hslot⟩, -, hseq⟩, -, hunits⟩, -, hsegments⟩, -, hdropped⟩ := h
    obtain ⟨hf0, hf1, hf2⟩ := flagAt_three x.tracked x.dwell x.sample
    refine ⟨Nat.zero_le _, ?_, rfl⟩
    show some (PartContent.header ⟨⟨num2 (byteOf (x.serial.magSeq / 256)) (byteOf x.serial.magSeq), (byteOf x.serial.slot).toNat⟩,
      num2 (byteOf (x.lineSeq / 256)) (byteOf x.lineSeq), flagAt _ 0, flagAt _ 1, flagAt _ 2, (byteOf x.units).toNat,
      (byteOf x.segments).toNat, (byteOf x.dropped).toNat⟩) = _
    rw [hf0, hf1, hf2, num2_bytes (by omega), num2_bytes hseq, byteOf_toNat_of_le (by omega), byteOf_toNat_of_le (by omega),
      byteOf_toNat_of_le (by omega), byteOf_toNat_of_le hdropped]
  | unit e =>
    simp only [recordGood, unitGood, within, Bool.and_eq_true, decide_eq_true_eq] at h
    obtain ⟨⟨hn1, hn65⟩, ⟨⟨-, hpulls⟩, hlen1, hlen8⟩, hprogress⟩ := h
    have hlength : (partBytes (.unit e)).length = 2 + 4 * e.progress.length := by
      show (_ :: _ :: e.progress.flatMap progressBytes).length = _
      rw [List.length_cons, List.length_cons, length_progressBytes]
      omega
    have hcode := code_lt (mem_outcomeCodes e.worst)
    have hlt : codeIn outcomeCodes e.worst < 8 := hcode
    dsimp only at hn1 ⊢
    refine ⟨by omega, ?_, ?_⟩
    · unfold partOf
      rw [if_neg (by omega), if_pos (by rw [hlength]; omega)]
      simp only [partBytes, statusOf_byte, progressOf_bytes hprogress,
        byteOf_toNat_of_le (show e.pulls * 16 + codeIn outcomeCodes e.worst ≤ 255 by omega)]
      rw [show (e.pulls * 16 + codeIn outcomeCodes e.worst) % 16 = codeIn outcomeCodes e.worst by omega,
        show (e.pulls * 16 + codeIn outcomeCodes e.worst) / 16 = e.pulls by omega, code_reads (mem_outcomeCodes e.worst)]
    · rw [if_neg (by omega), hlength]
      omega
  | suspects l =>
    simp only [recordGood, within, Bool.and_eq_true, decide_eq_true_eq] at h
    obtain ⟨⟨⟨hn1, hn65⟩, -, hlen⟩, hall⟩ := h
    have hlength : (partBytes (.suspects l)).length = 1 + 2 * l.length := by
      show (_ :: l.flatMap suspectBytes).length = _
      rw [List.length_cons, length_suspectBytes]
      omega
    dsimp only at hn1 ⊢
    refine ⟨by omega, ?_, ?_⟩
    · unfold partOf
      rw [if_neg (by omega), if_neg (by rw [hlength]; omega)]
      simp only [partBytes, suspectsOf_bytes hall, byteOf_toNat_of_le (show l.length ≤ 255 by omega), if_true]
    · rw [if_neg (by omega), hlength]
      omega

/-! ## Payloads -/

/-- R184: a good payload's bytes agree with its kind in length, and give the payload back. -/
structure PayloadReads (p : Payload) : Prop where
  length : (payloadBytes p).length ≤ 255
  agrees : lengthAgrees (payloadCodes p).2 (payloadBytes p) = true
  reads : payloadFrom (payloadCodes p).2 (payloadBytes p) = some p

theorem present_reads {p : PresentPayload} (h : presentGood p = true) : PayloadReads (.present p) := by
  simp only [presentGood, stationGood, within, Bool.and_eq_true, decide_eq_true_eq] at h
  obtain ⟨⟨-, hstation⟩, hknown⟩ := h
  obtain ⟨hf0, hf1⟩ := flagAt_byte p.infeed p.outfeed
  refine ⟨(by decide : 8 ≤ 255), rfl, ?_⟩
  show (roleCodes[(byteOf (codeIn roleCodes p.role)).toNat]?).map _ = _
  rw [codeByte_reads (mem_roleCodes _) (by decide), Option.map_some, byteOf_toNat_of_le (by omega), hf0, hf1,
    num4_bytes p.programId.isLt, BitVec.ofNat_toNat, BitVec.setWidth_eq, knownOf_byte hknown]

/-- R184: an ALARM payload is read where its class, state, detail and summary are. -/
theorem payloadFrom_alarm {i c lv ns dk d1 d2 d3 si sc sl : Byte} {cls : AlarmClass} {st : AlarmState} {d : Detail}
    {m : Option Summary} (hc : classFrom c = some cls) (hs : alarmStateCodes[ns.toNat]? = some st)
    (hd : detailOf dk d1 d2 d3 = some d) (hm : summaryOf si sc sl = some m) :
    payloadFrom 3 [i, c, lv, ns, dk, d1, d2, d3, si, sc, sl] = some (.alarm ⟨i.toNat, cls, lv.toNat, st, d, m⟩) := by
  show (match classFrom c, alarmStateCodes[ns.toNat]?, detailOf dk d1 d2 d3, summaryOf si sc sl with
    | some cls, some st, some d, some m => some (Payload.alarm ⟨i.toNat, cls, lv.toNat, st, d, m⟩)
    | _, _, _, _ => none) = _
  rw [hc, hs, hd, hm]

theorem alarm_reads {p : AlarmPayload} (h : alarmGood p = true) : PayloadReads (.alarm p) := by
  simp only [alarmGood, within, Bool.and_eq_true, decide_eq_true_eq] at h
  obtain ⟨⟨⟨⟨-, hsource⟩, -, hlevel⟩, hdetail⟩, hsummary⟩ := h
  obtain ⟨d0, d1, d2, d3, hdbytes, hd⟩ := detailOf_bytes hdetail
  obtain ⟨m0, m1, m2, hmbytes, hm⟩ := summaryOf_bytes hsummary
  have hbytes : payloadBytes (.alarm p) = [byteOf p.source, classByte p.alarmClass, byteOf p.level,
      byteOf (codeIn alarmStateCodes p.newState), d0, d1, d2, d3, m0, m1, m2] := by
    simp only [payloadBytes, hdbytes, hmbytes, List.cons_append, List.nil_append]
  refine ⟨by rw [hbytes]; exact (by decide : 11 ≤ 255), by rw [hbytes]; rfl, ?_⟩
  rw [hbytes]
  refine (payloadFrom_alarm (classFrom_byte _) (codeByte_reads (mem_alarmStateCodes p.newState) (by decide)) hd hm).trans ?_
  rw [byteOf_toNat_of_le (show p.source ≤ 255 by omega), byteOf_toNat_of_le (show p.level ≤ 255 by omega)]

/-- R184: a STATE payload is read where its five codes are. -/
theorem payloadFrom_state {a b c d e : Byte} {st : StationState} {h : HeadState} {g : StageState} {r : Bool}
    {cls : Option AlarmClass} (ha : stationCodes[a.toNat]? = some st) (hb : headCodes[b.toNat]? = some h)
    (hc : stageCodes[c.toNat]? = some g) (hd : flagCodes[d.toNat]? = some r) (he : classCodes[e.toNat]? = some cls) :
    payloadFrom 4 [a, b, c, d, e] = some (.state ⟨st, h, g, r, cls⟩) := by
  show (match stationCodes[a.toNat]?, headCodes[b.toNat]?, stageCodes[c.toNat]?, flagCodes[d.toNat]?, classCodes[e.toNat]? with
    | some st, some h, some g, some r, some cls => some (Payload.state ⟨st, h, g, r, cls⟩)
    | _, _, _, _, _ => none) = _
  rw [ha, hb, hc, hd, he]

theorem state_reads (p : StatePayload) : PayloadReads (.state p) := by
  refine ⟨(by decide : 5 ≤ 255), rfl, ?_⟩
  exact payloadFrom_state (codeByte_reads (mem_stationCodes p.station) (by decide))
    (codeByte_reads (mem_headCodes p.head) (by decide)) (codeByte_reads (mem_stageCodes p.stage) (by decide))
    (codeByte_reads (mem_flagCodes p.ready) (by decide)) (codeByte_reads (mem_classCodes p.highest) (by decide))

theorem offer_reads {p : OfferPayload} (h : offerGood p = true) : PayloadReads (.offer p) := by
  simp only [offerGood, serialGood, lineSeqGood, within, Bool.and_eq_true, decide_eq_true_eq] at h
  obtain ⟨⟨⟨⟨-, hnumber⟩, ⟨-, hmag⟩, -, hslot⟩, -, hseq⟩, -, hunits⟩ := h
  refine ⟨(by decide : 8 ≤ 255), rfl, ?_⟩
  show (flagCodes[(byteOf (codeIn flagCodes p.tracked)).toNat]?).map _ = _
  rw [codeByte_reads (mem_flagCodes _) (by decide), Option.map_some, byteOf_toNat_of_le hnumber, num2_bytes (by omega),
    byteOf_toNat_of_le (by omega), num2_bytes hseq, byteOf_toNat_of_le (by omega)]

theorem take_reads {p : TakePayload} (h : takeGood p = true) : PayloadReads (.take p) := by
  simp only [takeGood, serialGood, lineSeqGood, within, Bool.and_eq_true, decide_eq_true_eq] at h
  obtain ⟨⟨⟨-, hnumber⟩, ⟨-, hmag⟩, -, hslot⟩, -, hseq⟩ := h
  refine ⟨(by decide : 6 ≤ 255), rfl, ?_⟩
  show some (Payload.take ⟨(byteOf p.offerNumber).toNat, ⟨num2 (byteOf (p.serial.magSeq / 256)) (byteOf p.serial.magSeq),
    (byteOf p.serial.slot).toNat⟩, num2 (byteOf (p.lineSeq / 256)) (byteOf p.lineSeq)⟩) = _
  rw [byteOf_toNat_of_le hnumber, num2_bytes (by omega), byteOf_toNat_of_le (by omega), num2_bytes hseq]

theorem refuse_reads {p : RefusePayload} (h : refuseGood p = true) : PayloadReads (.refuse p) := by
  simp only [refuseGood, within, decide_eq_true_eq] at h
  obtain ⟨n, reason⟩ := p
  refine ⟨(by decide : 2 ≤ 255), rfl, ?_⟩
  have hn := byteOf_toNat_of_le h.2
  dsimp only at hn
  cases reason <;> exact congrArg (fun m => some (Payload.refuse ⟨m, _⟩)) hn

theorem arrived_reads {p : ArrivedPayload} (h : arrivedGood p = true) : PayloadReads (.arrived p) := by
  simp only [arrivedGood, lineSeqGood, within, Bool.and_eq_true, decide_eq_true_eq] at h
  refine ⟨(by decide : 3 ≤ 255), rfl, ?_⟩
  show some (Payload.arrived ⟨(byteOf p.offerNumber).toNat, num2 (byteOf (p.lineSeq / 256)) (byteOf p.lineSeq)⟩) = _
  rw [byteOf_toNat_of_le h.1.2, num2_bytes h.2.2]

theorem record_reads {p : RecordPayload} (h : recordGood p = true) : PayloadReads (.record p) := by
  obtain ⟨hn, hpart, hlength⟩ := partOf_bytes h
  have hbytes : payloadBytes (.record p) = byteOf p.number :: partBytes p.content := rfl
  have hzero : byteOf p.number = 0 ↔ p.number = 0 := by
    rw [← BitVec.toNat_inj, byteOf_toNat_of_le hn]
    rfl
  refine ⟨?_, ?_, ?_⟩
  · rw [hbytes, List.length_cons]
    split at hlength <;> omega
  · rw [hbytes]
    simp only [payloadCodes, lengthAgrees, hzero, List.length_cons]
    split at hlength
    · next h0 => rw [if_pos h0, decide_eq_true_eq, hlength]
    · next h0 =>
      rw [if_neg h0, decide_eq_true_eq]
      omega
  · rw [hbytes]
    show (partOf (byteOf p.number).toNat (partBytes p.content)).map (fun c => Payload.record ⟨(byteOf p.number).toNat, c⟩) = _
    rw [byteOf_toNat_of_le hn, hpart]
    rfl

/-- R184: a PULL_RESULT payload is read where its kind, mode, outcome and break code are. -/
theorem payloadFrom_pullResult {a b c d e u w1 w2 cl bb km o br f1 f2 fl : Byte} {k : PullKind} {m : PullMode} {out : PullOutcome}
    {brk : BreakCode} (hk : kindCodes[km.toNat / 16]? = some k) (hm : modeCodes[km.toNat % 16]? = some m)
    (ho : (outcomeCodes[o.toNat]?).join = some out) (hb : breakCodes[br.toNat]? = some brk) :
    payloadFrom 11 [a, b, c, d, e, u, w1, w2, cl, bb, km, o, br, f1, f2, fl] =
      some (.pullResult ⟨⟨num2 a b, c.toNat⟩, num2 d e, u.toNat, num2 w1 w2, cl.toNat, bb.toNat, k, m, out, brk, num2 f1 f2,
        flagAt fl 0, flagAt fl 1⟩) := by
  show (match kindCodes[km.toNat / 16]?, modeCodes[km.toNat % 16]?, (outcomeCodes[o.toNat]?).join, breakCodes[br.toNat]? with
    | some k, some m, some out, some brk =>
      some (Payload.pullResult ⟨⟨num2 a b, c.toNat⟩, num2 d e, u.toNat, num2 w1 w2, cl.toNat, bb.toNat, k, m, out, brk,
        num2 f1 f2, flagAt fl 0, flagAt fl 1⟩)
    | _, _, _, _ => none) = _
  rw [hk, hm, ho, hb]

theorem pullResult_reads {p : PullResult} (h : resultGood p = true) : PayloadReads (.pullResult p) := by
  simp only [resultGood, serialGood, lineSeqGood, within, Bool.and_eq_true, decide_eq_true_eq] at h
  obtain ⟨⟨⟨⟨⟨⟨⟨⟨-, hmag⟩, -, hslot⟩, -, hseq⟩, -, hunit⟩, -, hwire⟩, -, hclass⟩, -, hby⟩, -, hforce⟩ := h
  obtain ⟨hf0, hf1⟩ := flagAt_byte p.overrange p.confirmFail
  have hkind : codeIn kindCodes p.kind < 4 := code_lt (mem_kindCodes p.kind)
  have hmode : codeIn modeCodes p.mode < 2 := code_lt (mem_modeCodes p.mode)
  refine ⟨(by decide : 16 ≤ 255), rfl, ?_⟩
  have hbyte := byteOf_toNat_of_le (show codeIn kindCodes p.kind * 16 + codeIn modeCodes p.mode ≤ 255 by omega)
  have hkindRead : kindCodes[(byteOf (codeIn kindCodes p.kind * 16 + codeIn modeCodes p.mode)).toNat / 16]? = some p.kind := by
    rw [hbyte, show (codeIn kindCodes p.kind * 16 + codeIn modeCodes p.mode) / 16 = codeIn kindCodes p.kind by omega,
      code_reads (mem_kindCodes p.kind)]
  have hmodeRead : modeCodes[(byteOf (codeIn kindCodes p.kind * 16 + codeIn modeCodes p.mode)).toNat % 16]? = some p.mode := by
    rw [hbyte, show (codeIn kindCodes p.kind * 16 + codeIn modeCodes p.mode) % 16 = codeIn modeCodes p.mode by omega,
      code_reads (mem_modeCodes p.mode)]
  have houtcome : (outcomeCodes[(byteOf (codeIn outcomeCodes (some p.outcome))).toNat]?).join = some p.outcome := by
    rw [codeByte_reads (mem_outcomeCodes _) (by decide), Option.join_some]
  refine (payloadFrom_pullResult hkindRead hmodeRead houtcome
    (codeByte_reads (mem_breakCodes p.breakCode) (by decide))).trans ?_
  rw [hf0, hf1, num2_bytes (by omega), byteOf_toNat_of_le (by omega), num2_bytes hseq, byteOf_toNat_of_le hunit,
    num2_bytes hwire, byteOf_toNat_of_le hclass, byteOf_toNat_of_le hby, num2_bytes hforce]

theorem payload_reads {p : Payload} (h : payloadGood p = true) : PayloadReads p := by
  cases p with
  | stop => exact ⟨by decide, rfl, rfl⟩
  | restart => exact ⟨by decide, rfl, rfl⟩
  | lineStart => exact ⟨by decide, rfl, rfl⟩
  | present p => exact present_reads h
  | alarm p => exact alarm_reads h
  | state p => exact state_reads p
  | offer p => exact offer_reads h
  | take p => exact take_reads h
  | refuse p => exact refuse_reads h
  | arrived p => exact arrived_reads h
  | record p => exact record_reads h
  | pullResult p => exact pullResult_reads h

/-! ## Frames -/

/-- R171, R183: a payload's class is that of its kind. -/
theorem classOfKind_codes (p : Payload) :
    classOfKind (payloadCodes p).2 = some (payloadCodes p).1 ∧ (payloadCodes p).1 ≤ 255 ∧ (payloadCodes p).2 ≤ 255 := by
  cases p <;> exact ⟨rfl, by simp [payloadCodes], by simp [payloadCodes]⟩

theorem goodFrame_bytes {f : Frame} (h : frameGood f = true) :
    goodFrame (frameBytes f) = some ((payloadCodes f.payload).2, f.sender, f.target, payloadBytes f.payload) := by
  simp only [frameGood, stationGood, within, Bool.and_eq_true, decide_eq_true_eq] at h
  obtain ⟨⟨⟨hsender1, hsender8⟩, -, htarget⟩, hgood⟩ := h
  have hreads := payload_reads hgood
  obtain ⟨hclass, hc, hk⟩ := classOfKind_codes f.payload
  have hlen := byteOf_toNat_of_le hreads.length
  have hbody : (frameBody f).length = (payloadBytes f.payload).length + 5 := rfl
  have htake : (frameBytes f).take ((payloadBytes f.payload).length + 5) = frameBody f := by
    rw [frameBytes, ← hbody, List.take_left]
  have hdrop : (frameBytes f).drop ((payloadBytes f.payload).length + 5) = crcBytes (frameBody f) := by
    rw [frameBytes, ← hbody, List.drop_left]
  have hsplit : frameBytes f = byteOf (payloadCodes f.payload).1 :: byteOf (payloadCodes f.payload).2 :: byteOf f.sender :: byteOf f.target ::
      byteOf (payloadBytes f.payload).length :: (payloadBytes f.payload ++ crcBytes (frameBody f)) := rfl
  rw [hsplit] at htake hdrop ⊢
  unfold goodFrame
  dsimp only
  rw [hlen, htake, hdrop, List.take_left, byteOf_toNat_of_le hk, byteOf_toNat_of_le hc, byteOf_toNat_of_le (by omega : f.sender ≤ 255),
    byteOf_toNat_of_le htarget]
  exact if_pos ⟨by rw [List.length_append]; rfl, rfl, hclass, hreads.agrees, hsender1, hsender8⟩

/-- Settles O53: the check and the agreement of a frame's own bytes, then its payload; the bits by the bytes they make. -/
theorem frameBytesGiveFrameBack : Obligations.FrameBytesGiveFrameBack := by
  have hdecode (f : Frame) (h : frameGood f = true) : decodeFrame (frameBytes f) = some f := by
    have hgood : payloadGood f.payload = true := by
      simp only [frameGood, Bool.and_eq_true] at h
      exact h.2
    unfold decodeFrame
    rw [goodFrame_bytes h]
    dsimp only
    rw [(payload_reads hgood).reads]
    rfl
  refine ⟨fun f h => ⟨hdecode f h, ?_⟩, fun f i j b hb hj => bitsOf_getElem? hb hj, fun s e p he hp => ?_⟩
  · rw [frameBits, bytesOfBits_bitsOf]
    exact hdecode f h
  · unfold State.bitsOnLine State.bytesOnLine
    rw [he, Option.bind_some, hp]
    rfl

end Sys2Proof.Machine
end

section
/-! PROOFS. The screen: the page key and the tick, the walk of a descriptor chain, the formats, and the source items
(spec/10_operator_screens.md R158 to R166). -/

namespace Sys2Proof.Machine

/-! ## A walk (R162, R163, R166) -/

theorem modifyAt_append {α : Type} (f : α → α) (pre : List α) (x : α) (post : List α) :
    modifyAt f pre.length (pre ++ x :: post) = pre ++ f x :: post := by
  induction pre with
  | nil => rfl
  | cons y ys ih => exact congrArg (y :: ·) ih

/-- R165: of the screen, the items show the page alone. -/
theorem State.item_screen (s : State) {c : ScreenUnit} (h : c.page = s.screen.page) :
    State.item { s with screen := c } = s.item := by
  funext item i
  cases item with
  | currentPage => exact congrArg ItemValue.ofNat h
  | _ => rfl

/-- R163: the buffer after a descriptor's transfer. -/
def Descriptor.written (s : State) (b : List Text) (d : Descriptor) : List Text :=
  if d.spent then b
  else modifyAt (overlay d.row.column (formatValue d.row.format d.row.width (s.item d.row.item d.index))) d.currentRow b

/-- R163: a descriptor after its transfer. -/
def Descriptor.moved (d : Descriptor) : Descriptor := if d.spent then d else d.stepped

/-- R163: a descriptor that this transfer stops. -/
def Descriptor.stops (d : Descriptor) : Bool := !d.row.isRepeat && decide (d.count = 1)

theorem Descriptor.stepped_spent {d : Descriptor} (h : d.spent = false) : d.stepped.spent = d.stops := by
  obtain ⟨row, index, currentRow, count⟩ := d
  unfold Descriptor.spent at h
  unfold Descriptor.stepped Descriptor.spent Descriptor.stops
  dsimp only at h ⊢
  split
  · split
    · next hrepeat => rw [hrepeat]; rfl
    · next hrepeat =>
      have hcount : count ≠ 0 := by simpa [hrepeat] using h
      have hone : count = 1 := by omega
      simp [hrepeat, hone]
  · next hcount =>
    have hone : count ≠ 1 := by omega
    have hzero : count - 1 ≠ 0 := by omega
    simp [hone, hzero]

theorem Descriptor.stops_of_spent {d : Descriptor} (h : d.spent = true) : d.stops = false := by
  simp only [Descriptor.spent, Bool.and_eq_true, decide_eq_true_eq] at h
  simp [Descriptor.stops, h.2]

/-- R163: what one transfer makes of the screen. -/
theorem State.transfer_spec (t first : Nat) {s : State} {pre post : List Descriptor} {d : Descriptor}
    (h : s.screen.descriptors = pre ++ d :: post) :
    s.transfer t first pre.length d = { s with screen := { s.screen with
      buffer := d.written s s.screen.buffer
      descriptors := pre ++ d.moved :: post
      triggers := if d.stops = true ∧ pre.length = first then modifyAt Trigger.disabled t s.screen.triggers
        else s.screen.triggers } } := by
  unfold State.transfer Descriptor.written Descriptor.moved
  cases hspent : d.spent with
  | true => simp only [if_true, Descriptor.stops_of_spent hspent, Bool.false_eq_true, false_and, if_false, ← h]
  | false => simp [Descriptor.stepped_spent hspent, h]

/-- R162, R163: a walk serves the descriptors of a chain in turn, up to the first without the chain flag or to descriptor 63. -/
theorem State.walk_chain (t : Nat) {first : Nat} (ds : List Descriptor) (d : Descriptor) (pre post : List Descriptor) (s : State)
    (fuel : Nat) (hfuel : ds.length < fuel) (hdesc : s.screen.descriptors = pre ++ d :: ds ++ post) (hfirst : first ≤ pre.length)
    (hmost : pre.length + ds.length ≤ 63) (hchain : ∀ x ∈ (d :: ds).dropLast, x.row.chain = true)
    (hend : pre.length + ds.length = 63 ∨ ∀ x, (d :: ds).getLast? = some x → x.row.chain = false) :
    s.walk t first fuel pre.length = { s with screen := { s.screen with
      buffer := (d :: ds).foldl (Descriptor.written s) s.screen.buffer
      descriptors := pre ++ (d :: ds).map Descriptor.moved ++ post
      triggers := if d.stops = true ∧ pre.length = first then modifyAt Trigger.disabled t s.screen.triggers
        else s.screen.triggers } } := by
  induction ds generalizing d pre s fuel with
  | nil =>
    obtain ⟨fuel, rfl⟩ : ∃ n, fuel = n + 1 := ⟨fuel - 1, by simp only [List.length_nil] at hfuel; omega⟩
    rw [List.append_assoc, List.singleton_append] at hdesc
    have hstop : ¬(d.row.chain = true ∧ pre.length < 63) := by
      rintro ⟨hc, hlt⟩
      rcases hend with h | h
      · simp only [List.length_nil] at h
        omega
      · rw [h d rfl] at hc
        exact Bool.false_ne_true hc
    unfold State.walk
    rw [hdesc, List.getElem?_append_right (Nat.le_refl _), Nat.sub_self]
    dsimp only [List.getElem?_cons_zero]
    rw [if_neg hstop, State.transfer_spec t first hdesc]
    simp
  | cons e es ih =>
    obtain ⟨fuel, rfl⟩ : ∃ n, fuel = n + 1 := ⟨fuel - 1, by omega⟩
    rw [List.length_cons] at hfuel hmost hend
    rw [List.append_assoc, List.cons_append] at hdesc
    have hgo : d.row.chain = true ∧ pre.length < 63 := ⟨hchain d (by simp), by omega⟩
    unfold State.walk
    rw [hdesc, List.getElem?_append_right (Nat.le_refl _), Nat.sub_self]
    dsimp only [List.getElem?_cons_zero]
    rw [if_pos hgo, State.transfer_spec t first hdesc]
    have hlen : (pre ++ [d.moved]).length = pre.length + 1 := by simp
    have hrest := ih e (pre ++ [d.moved]) (s := { s with screen := { s.screen with
      buffer := d.written s s.screen.buffer
      descriptors := pre ++ d.moved :: (e :: es ++ post)
      triggers := if d.stops = true ∧ pre.length = first then modifyAt Trigger.disabled t s.screen.triggers
        else s.screen.triggers } }) fuel (by omega) (by simp) (by omega) (by omega)
      (fun x hx => hchain x (by rw [List.dropLast_cons_of_ne_nil (List.cons_ne_nil _ _)]; exact List.mem_cons_of_mem _ hx))
      (hend.imp (fun h => by omega) fun h x hx => h x (by rw [List.getLast?_cons_cons]; exact hx))
    rw [hlen] at hrest
    rw [hrest, if_neg (fun h => by omega : ¬(e.stops = true ∧ pre.length + 1 = first))]
    have hitem : Descriptor.written { s with screen := { s.screen with
        buffer := d.written s s.screen.buffer
        descriptors := pre ++ d.moved :: (e :: es ++ post)
        triggers := if d.stops = true ∧ pre.length = first then modifyAt Trigger.disabled t s.screen.triggers
          else s.screen.triggers } } = Descriptor.written s := by
      unfold Descriptor.written
      rw [State.item_screen]
      rfl
    rw [hitem]
    simp

/-! ## What every walk keeps of the screen -/

/-- R162, R166: the page, the notice and the rows of the triggers are kept, and no trigger becomes pending. -/
structure WalkKeeps (c d : ScreenUnit) : Prop where
  page : d.page = c.page
  notice : d.notice = c.notice
  rows : d.triggers.map (·.row) = c.triggers.map (·.row)
  pending : ∀ (i : Nat) (x : Trigger), c.triggers[i]? = some x → x.pending = false → ∃ y : Trigger, d.triggers[i]? = some y ∧ y.pending = false

theorem WalkKeeps.refl (c : ScreenUnit) : WalkKeeps c c := ⟨rfl, rfl, rfl, fun _ x hx hp => ⟨x, hx, hp⟩⟩

theorem WalkKeeps.trans {c d e : ScreenUnit} (h : WalkKeeps c d) (k : WalkKeeps d e) : WalkKeeps c e where
  page := k.page.trans h.page
  notice := k.notice.trans h.notice
  rows := k.rows.trans h.rows
  pending i x hx hp :=
    have ⟨y, hy, hq⟩ := h.pending i x hx hp
    k.pending i y hy hq

theorem map_modifyAt {α β : Type} (g : α → β) {f : α → α} (h : ∀ x, g (f x) = g x) (i : Nat) (l : List α) :
    (modifyAt f i l).map g = l.map g := by
  induction l generalizing i with
  | nil => rw [modifyAt]
  | cons x xs ih =>
    cases i with
    | zero => exact congrArg (· :: xs.map g) (h x)
    | succ i => exact congrArg (g x :: ·) (ih i)

theorem WalkKeeps.transfer (t first n : Nat) (d : Descriptor) (s : State) : WalkKeeps s.screen (s.transfer t first n d).screen := by
  unfold State.transfer
  split
  · exact .refl _
  · dsimp only
    split
    · refine ⟨rfl, rfl, map_modifyAt (f := Trigger.disabled) (·.row) (fun _ => rfl) _ _, fun i x hx hp => ?_⟩
      refine ⟨if t = i then Trigger.disabled x else x, ?_, ?_⟩
      · rw [getElem?_modifyAt, hx]
        split <;> rfl
      · split
        · rfl
        · exact hp
    · exact ⟨rfl, rfl, rfl, fun _ x hx hp => ⟨x, hx, hp⟩⟩

theorem WalkKeeps.walk (t first fuel n : Nat) (s : State) : WalkKeeps s.screen (s.walk t first fuel n).screen := by
  induction fuel generalizing n s with
  | zero => exact .refl _
  | succ fuel ih =>
    unfold State.walk
    split
    · next d _ =>
      dsimp only
      split
      · exact (WalkKeeps.transfer t first n d s).trans (ih _ _)
      · exact .transfer ..
    · exact .refl _

/-- R162: the walk that serves the lowest pending trigger. -/
theorem exec_fieldEngineWalk_of_pending {s : State} {pre post : List Trigger} {g : Trigger} (hbanner : s.bannerShown = false)
    (htriggers : s.screen.triggers = pre ++ g :: post) (hg : g.pending = true) (hpre : ∀ x ∈ pre, x.pending = false) :
    exec .fieldEngineWalk s = .next (State.walk pre.length g.row.first 64 g.row.first { s with screen := { s.screen with
      triggers := pre ++ { g with pending := false } :: post } }) := by
  have hnone : pre.findIdx? (·.pending) = none := by
    rw [List.findIdx?_eq_none_iff]
    exact hpre
  have hfind : s.screen.pendingTrigger = some pre.length := by
    unfold ScreenUnit.pendingTrigger
    rw [htriggers, List.findIdx?_append, hnone, List.findIdx?_cons, hg]
    simp
  have hget : s.screen.triggers[pre.length]? = some g := by
    rw [htriggers, List.getElem?_append_right (Nat.le_refl _), Nat.sub_self, List.getElem?_cons_zero]
  show Host.Outcome.next _ = _
  rw [hbanner, hfind]
  dsimp only
  rw [hget, htriggers, modifyAt_append]
  rfl

/-! ## Formats (R164) -/

theorem length_fit (w : Nat) (t : Text) : (fit w t).length = w := by
  simp only [fit, List.length_append, List.length_take, List.length_replicate]
  omega

theorem fit_eq_take (w : Nat) (t : Text) : fit w t = (t ++ List.replicate w ' ').take w := by
  rw [List.take_append, List.take_replicate, fit]
  congr 2
  omega

theorem length_rightOrStars (w : Nat) (pad : Char) (t : Text) : (rightOrStars w pad t).length = w := by
  unfold rightOrStars
  split
  · exact List.length_replicate
  · simp only [padLeft, List.length_append, List.length_replicate]
    omega

/-- R164: a value fills its field exactly. -/
theorem length_formatValue (f : Format) (w : Nat) (v : ItemValue) : (formatValue f w v).length = w := by
  have hfilled (c : Char) : (filled w c).length = w := List.length_replicate
  cases f with
  | dec | hex =>
    cases v with
    | number n =>
      simp only [formatValue]
      split
      · exact hfilled _
      · exact length_rightOrStars ..
    | _ => exact hfilled _
  | sdec =>
    cases v with
    | number n => exact length_rightOrStars ..
    | _ => exact hfilled _
  | text =>
    cases v with
    | absent => exact hfilled _
    | _ => exact length_fit ..
  | map =>
    cases v with
    | glyphs t => exact length_fit ..
    | _ => exact hfilled _

/-- R164: what a format leaves blank. -/
theorem formatValue_blank {f : Format} {v : ItemValue} (w : Nat)
    (h : v = .absent ∨ (f = .map ∧ ∀ x, v ≠ .glyphs x) ∨ (f ≠ .text ∧ ∃ x, v = .name x)) :
    formatValue f w v = List.replicate w ' ' := by
  rcases h with rfl | ⟨rfl, hv⟩ | ⟨hf, x, rfl⟩
  · cases f <;> rfl
  · cases v with
    | glyphs x => exact absurd rfl (hv x)
    | _ => rfl
  · cases f with
    | text => exact absurd rfl hf
    | _ => rfl

theorem signOf_natCast (n : Nat) : signOf n = if n = 0 then ' ' else '+' := by
  unfold signOf
  rw [if_neg (by omega)]
  cases n with
  | zero => rfl
  | succ n => rw [if_pos (by omega), if_neg (Nat.succ_ne_zero n)]

/-- R164: a number in SDEC, by its sign and its digits. -/
theorem rightOrStars_signed (w : Nat) (c : Char) (digits : Text) :
    rightOrStars w ' ' (c :: digits) = if w < digits.length + 1 then List.replicate w '*'
      else List.replicate (w - 1 - digits.length) ' ' ++ c :: digits := by
  unfold rightOrStars padLeft filled
  rw [List.length_cons, show w - (digits.length + 1) = w - 1 - digits.length by omega]

/-! ## Items (R165) -/

theorem nth_succ {α : Type} (l : List α) (i : Nat) : nth l (i + 1) = l[i]? := rfl

/-- R165: a progress entry's index is unit × 8 + segment − 8. -/
theorem State.progressAt_unit {s : State} {i k : Nat} {e : UnitEntry} (h : s.unit? i = some e) (h1 : 1 ≤ k) (h8 : k ≤ 8) :
    s.progressAt (i * 8 + k - 8) = e.progress[k - 1]? := by
  have hi : i ≠ 0 := by
    rintro rfl
    unfold State.unit? at h
    obtain ⟨t, -, ht⟩ := Option.bind_eq_some_iff.mp h
    exact absurd ht (by simp [TrackedPart.unit?])
  unfold State.progressAt
  rw [if_neg (by omega), show (i * 8 + k - 8 - 1) / 8 + 1 = i by omega, show (i * 8 + k - 8 - 1) % 8 = k - 1 by omega, h, Option.bind_some]

/-- R165: a station that is not present has no roster items. -/
theorem State.peerAt_absent {s : State} {i : Nat} (h : s.present i = false ∨ i < 1 ∨ 8 < i) : s.peerAt i = none := by
  unfold State.peerAt
  rw [if_neg]
  rintro ⟨h1, h8, hp⟩
  rcases h with h | h | h
  · exact Bool.false_ne_true (h.symm.trans hp)
  · omega
  · omega

/-- R165: a slot that is not FILLED has no strip to show. -/
theorem State.filledAt_absent {s : State} {i : Nat} (h : ∀ x g r, s.elevator.outputSlots[i - 1]? ≠ some (.filled x g r))
    (f : Serial → Nat → Nat → ItemValue) : s.filledAt i f = .absent := by
  unfold State.filledAt State.outputSlotAt nth
  split
  · next x g r hx =>
    split at hx
    · split at hx
      · exact absurd hx (Option.some_ne_none _).symm
      · exact absurd hx (h x g r)
    · exact absurd hx (Option.some_ne_none _).symm
  · rfl

/-- R165: a slot the magazine does not have. -/
theorem State.filledAt_beyond {s : State} {i : Nat} (h : s.setting (·.magazine.outputSlots) 0 < i)
    (f : Serial → Nat → Nat → ItemValue) : s.filledAt i f = .absent := by
  unfold State.filledAt State.outputSlotAt
  rw [if_neg (by omega)]

/-- R165: the items of a unit. -/
theorem State.items_of_unit {s : State} {i : Nat} {e : UnitEntry} (h : s.unit? i = some e) :
    s.item .unitStatus i = .name (statusName e.status) ∧ s.item .pullCount i = .number e.pulls ∧
      ((∀ c, e.status ≠ .reject c) → s.item .rejectCause i = .absent) ∧
      (∀ c, e.status = .reject c → s.item .rejectCause i = .name (causeName c)) ∧
      (e.worst = none → s.item .worstPull i = .absent) ∧
      (∀ o, e.worst = some o → s.item .worstPull i = .name (outcomeName o)) := by
  have hcause : s.item .rejectCause i = itemOf (statusCause e.status) fun c => .name (causeName c) := by
    show itemOf ((s.unit? i).bind fun e => statusCause e.status) _ = _
    rw [h, Option.bind_some]
  have hworst : s.item .worstPull i = itemOf e.worst fun o => .name (outcomeName o) := by
    show itemOf ((s.unit? i).bind (·.worst)) _ = _
    rw [h, Option.bind_some]
  refine ⟨congrArg (itemOf · _) h, congrArg (itemOf · _) h, fun hc => ?_, fun c hc => ?_, fun ho => ?_, fun o ho => ?_⟩
  · rw [hcause]
    cases hs : e.status with
    | reject c => exact absurd hs (hc c)
    | _ => rfl
  · rw [hcause, hc]
    rfl
  · rw [hworst, ho]
    rfl
  · rw [hworst, ho]
    rfl

/-- R165: the items of a unit's progress. -/
theorem State.items_of_progress {s : State} {i k : Nat} {e : UnitEntry} (h : s.unit? i = some e) (h1 : 1 ≤ k) (h8 : k ≤ 8) :
    (e.progress[k - 1]? = none → s.item .nextWire (i * 8 + k - 8) = .absent) ∧
      ∀ g, e.progress[k - 1]? = some g → s.item .nextWire (i * 8 + k - 8) = .number g.next ∧
        s.item .startedBy (i * 8 + k - 8) = .number g.startedBy ∧
        s.item .finishedBy (i * 8 + k - 8) = .number g.finishedBy ∧ s.item .split (i * 8 + k - 8) = .number g.split := by
  have hat := State.progressAt_unit h h1 h8
  refine ⟨fun hn => congrArg (itemOf · _) (hat.trans hn), fun g hg => ?_⟩
  have hsome := hat.trans hg
  exact ⟨congrArg (itemOf · _) hsome, congrArg (itemOf · _) hsome, congrArg (itemOf · _) hsome, congrArg (itemOf · _) hsome⟩

/-- R165: a position without a unit has no items. -/
theorem State.items_of_no_unit {s : State} {i : Nat} (h : s.unit? i = none) :
    s.item .unitStatus i = .absent ∧ s.item .rejectCause i = .absent ∧ s.item .pullCount i = .absent ∧
      s.item .worstPull i = .absent :=
  ⟨congrArg (itemOf · _) h, congrArg (fun o : Option UnitEntry => itemOf (o.bind fun e => statusCause e.status) _) h,
    congrArg (itemOf · _) h, congrArg (fun o : Option UnitEntry => itemOf (o.bind (·.worst)) _) h⟩

/-- R165: the items of an alarm entry. -/
theorem State.items_of_alarm {s : State} {i : Nat} (hshape : s.Shaped) (hi : i < 40) :
    s.item .alarmState i = .name (alarmStateName (s.alarms.entry i).state) ∧
      s.item .alarmLevel i = .number (s.alarms.entry i).level ∧ s.item .alarmCount i = .number (s.alarms.entry i).count ∧
      s.item .alarmName i = .name (sourceName i) := by
  have hat : s.alarmAt i = some (s.alarms.entry i) := by
    unfold State.alarmAt AlarmUnit.entry
    rw [List.getD_eq_getElem?_getD, List.getElem?_eq_getElem (hshape.alarms ▸ hi), Option.getD_some]
  exact ⟨congrArg (itemOf · _) hat, congrArg (itemOf · _) hat, congrArg (itemOf · _) hat, congrArg (itemOf · _) hat⟩

/-- R165: the item of a zone's reading. -/
theorem State.zoneReading_item (s : State) (i : Nat) :
    (i < 1 ∨ 6 < i ∨ (s.heat.zone i).reading = none → s.item .zoneReading i = .absent) ∧
      ∀ x, 1 ≤ i → i ≤ 6 → (s.heat.zone i).reading = some x → s.item .zoneReading i = .number x := by
  have hitem : s.item .zoneReading i = itemOf ((s.zoneAt i).bind (·.reading)) .number := rfl
  refine ⟨fun h => ?_, fun x h1 h6 hx => ?_⟩
  · rw [hitem]
    unfold State.zoneAt
    split
    · next hrange =>
      rcases h with h | h | h
      · omega
      · omega
      · rw [Option.bind_some, h]
        rfl
    · rfl
  · rw [hitem, State.zoneAt, if_pos ⟨h1, h6⟩, Option.bind_some, hx]
    rfl

/-! ## The screen's commands -/

/-- R158, R160: PAGE and the tick. -/
theorem pageKey_tick_spec (s : State) :
    (s.control.station ≠ .boot → s.bannerShown = false →
      exec .pageKey s = .next { s with screen := { s.screen with
        page := s.screen.nextPage
        buffer := s.screen.buffer.take 1 ++ List.replicate 7 blankRow
        triggers := s.screen.triggers.map (Trigger.raised .pageEnter s.screen.nextPage) } }) ∧
    (s.control.station = .boot ∨ s.bannerShown = true → exec .pageKey s = .next s) ∧
    exec .tick s = .next { s with screen := { s.screen with triggers := s.screen.triggers.map fun g =>
      if g.row.kind = .tick ∧ g.enabled = true ∧ (g.row.page = 0 ∨ g.row.page = s.screen.page) then
        { g with pending := true } else g } } := by
  refine ⟨fun hb hbanner => ?_, fun h => ?_, ?_⟩
  · have hgo : ¬(s.control.station = .boot ∨ s.bannerShown = true) := by simp [hb, hbanner]
    show Host.Outcome.next _ = _
    rw [if_neg hgo]
    rfl
  · show Host.Outcome.next _ = _
    rw [if_pos h]
  · have hraised (g : Trigger) : g.raised .tick s.screen.page =
        if g.row.kind = .tick ∧ g.enabled = true ∧ (g.row.page = 0 ∨ g.row.page = s.screen.page) then
          { g with pending := true } else g := by
      unfold Trigger.raised
      split
      · next h => simp [h.1, h.2.1, h.2.2]
      · next h =>
        have hoff : (decide (g.row.kind = .tick) && g.enabled && decide (g.row.page = 0 ∨ g.row.page = s.screen.page)) = false := by
          simpa [and_assoc] using h
        rw [hoff, Bool.or_false]
    show Host.Outcome.next { s with screen := { s.screen with triggers := s.screen.triggers.map (Trigger.raised .tick s.screen.page) } } = _
    rw [List.map_congr_left fun g _ => hraised g]

/-- R166: with a banner, or nothing pending, no walk. -/
theorem exec_fieldEngineWalk_idle {s : State} (h : s.bannerShown = true ∨ ∀ g ∈ s.screen.triggers, g.pending = false) :
    exec .fieldEngineWalk s = .next s := by
  show Host.Outcome.next _ = _
  rcases h with h | h
  · rw [if_pos h]
  · have hnone : s.screen.pendingTrigger = none := by
      unfold ScreenUnit.pendingTrigger
      rw [List.findIdx?_eq_none_iff]
      exact h
    rw [hnone]
    split <;> rfl

/-- R163: the writing of one transfer, as the obligation says it. -/
theorem Descriptor.written_eq (s : State) : Descriptor.written s = fun b x =>
    if x.row.isRepeat = false ∧ x.count = 0 then b
    else modifyAt (overlay x.row.column (formatValue x.row.format x.row.width (s.item x.row.item x.index))) x.currentRow b := by
  funext b x
  have hspent : x.spent = true ↔ x.row.isRepeat = false ∧ x.count = 0 := by simp [Descriptor.spent]
  unfold Descriptor.written
  rw [if_congr hspent rfl rfl]

/-- R163: the working values after one transfer, as the obligation says them. -/
theorem Descriptor.moved_eq : Descriptor.moved = fun x =>
    if x.row.isRepeat = false ∧ x.count = 0 then x
    else if x.row.isRepeat = true ∧ x.count ≤ 1 then
      { x with index := x.row.initIndex, currentRow := x.row.initRow, count := x.row.reload }
    else { x with
      index := x.index + x.row.indexStep, currentRow := x.currentRow + x.row.rowStep, count := x.count - 1 } := by
  funext x
  have hspent : x.spent = true ↔ x.row.isRepeat = false ∧ x.count = 0 := by simp [Descriptor.spent]
  unfold Descriptor.moved Descriptor.stepped
  rw [if_congr hspent rfl rfl]
  refine if_congr Iff.rfl rfl ?_
  split
  · next hcount =>
    split
    · next hrepeat => rw [if_pos ⟨hrepeat, hcount⟩]
    · next hrepeat => rw [if_neg fun h => hrepeat h.1, show x.count - 1 = 0 by omega]
  · next hcount => rw [if_neg fun h => hcount h.2]

/-- R162, R163, R166: the walk of the lowest pending trigger. -/
theorem fieldEngineWalk_spec {s : State} {pre post : List Trigger} {g : Trigger} (hbanner : s.bannerShown = false)
    (htriggers : s.screen.triggers = pre ++ g :: post) (hg : g.pending = true) (hpre : ∀ x ∈ pre, x.pending = false) :
    ∃ t : State, exec .fieldEngineWalk s = .next t ∧ t = { s with screen := t.screen } ∧ t.screen.page = s.screen.page ∧
      t.screen.notice = s.screen.notice ∧ t.screen.triggers.map (·.row) = s.screen.triggers.map (·.row) ∧
      (∃ x, t.screen.triggers[pre.length]? = some x ∧ x.pending = false) ∧
      ∀ pre2 d ds post2, s.screen.descriptors = pre2 ++ d :: ds ++ post2 → pre2.length = g.row.first →
        pre2.length + ds.length ≤ 63 → (∀ x ∈ (d :: ds).dropLast, x.row.chain = true) →
        (pre2.length + ds.length = 63 ∨ ∀ x, (d :: ds).getLast? = some x → x.row.chain = false) →
        t.screen.buffer = (d :: ds).foldl (Descriptor.written s) s.screen.buffer ∧
          t.screen.descriptors = pre2 ++ (d :: ds).map Descriptor.moved ++ post2 ∧
          t.screen.triggers = pre ++ { g with pending := false, enabled := g.enabled && !d.stops } :: post := by
  have hexec := exec_fieldEngineWalk_of_pending hbanner htriggers hg hpre
  have hkeeps := WalkKeeps.walk pre.length g.row.first 64 g.row.first { s with screen := { s.screen with
    triggers := pre ++ { g with pending := false } :: post } }
  have hget : (pre ++ ({ g with pending := false } : Trigger) :: post)[pre.length]? = some { g with pending := false } := by
    rw [List.getElem?_append_right (Nat.le_refl _), Nat.sub_self, List.getElem?_cons_zero]
  refine ⟨_, hexec, exec_fieldEngineWalk_eq hexec, hkeeps.page, hkeeps.notice, ?_, hkeeps.pending _ _ hget rfl,
    fun pre2 d ds post2 hdesc hfirst hmost hchain hend => ?_⟩
  · rw [hkeeps.rows, htriggers]
    simp
  · have hwalk := State.walk_chain pre.length (first := g.row.first) ds d pre2 post2 { s with screen := { s.screen with
      triggers := pre ++ { g with pending := false } :: post } } 64 (by omega) hdesc (by omega) hmost hchain hend
    have hitem : Descriptor.written { s with screen := { s.screen with triggers := pre ++ { g with pending := false } :: post } } =
        Descriptor.written s := by
      unfold Descriptor.written
      rw [State.item_screen]
      rfl
    rw [hfirst, hitem] at hwalk
    rw [hwalk]
    refine ⟨rfl, rfl, ?_⟩
    dsimp only
    cases hstops : d.stops with
    | true =>
      rw [if_pos ⟨rfl, rfl⟩, modifyAt_append]
      simp [Trigger.disabled]
    | false => simp

/-- Settles O52: the keys, the walk's chain by induction, the formats case by case, and the items one kind after the other. -/
theorem screenServesTriggers : Obligations.ScreenServesTriggers := by
  refine ⟨pageKey_tick_spec, fun s h => exec_fieldEngineWalk_idle h, ?_, ?_, ?_⟩
  · intro s pre post g hbanner htriggers hg hpre
    obtain ⟨t, hexec, hother, hpage, hnotice, hrows, hpending, hchain⟩ := fieldEngineWalk_spec hbanner htriggers hg hpre
    refine ⟨t, hexec, hother, hpage, hnotice, hrows, hpending, ?_⟩
    rw [← Descriptor.written_eq, ← Descriptor.moved_eq]
    exact hchain
  · intro w n
    have hnatAbs : (n : Int).natAbs = n := Int.natAbs_natCast n
    have hnonneg : ¬(n : Int) < 0 := by omega
    refine ⟨?_, ?_, ?_, ?_, fun hn => ?_, fun x => ⟨fit_eq_take w x, fit_eq_take w x, fit_eq_take w x⟩,
      fun f v => ⟨length_formatValue f w v, formatValue_blank w⟩⟩
    · show (if (n : Int) < 0 then filled w '*' else rightOrStars w ' ' (decimal (n : Int).toNat)) = _
      rw [if_neg hnonneg]
      rfl
    · show (if (n : Int) < 0 then filled w '*' else rightOrStars w '0' (hexText (n : Int).toNat)) = _
      rw [if_neg hnonneg]
      rfl
    · show rightOrStars w ' ' (signOf n :: decimal (n : Int).natAbs) = _
      rw [hnatAbs, signOf_natCast, rightOrStars_signed]
      rfl
    · show fit w (numberText n) = _
      rw [numberText, if_neg hnonneg, hnatAbs, fit_eq_take]
      rfl
    · have hneg : (-(n : Int)) < 0 := by omega
      have hdigits : (-(n : Int)).natAbs = n := by omega
      refine ⟨if_pos hneg, if_pos hneg, ?_, ?_⟩
      · show rightOrStars w ' ' (signOf (-n) :: decimal (-(n : Int)).natAbs) = _
        rw [hdigits, signOf, if_pos hneg, rightOrStars_signed]
        rfl
      · show fit w (numberText (-n)) = _
        rw [numberText, if_pos hneg, hdigits, fit_eq_take]
        rfl
  · intro s i
    refine ⟨fun e he => ?_, State.items_of_no_unit, State.items_of_alarm, (State.zoneReading_item s i).1,
      (State.zoneReading_item s i).2, fun h1 h8 => if_pos ⟨h1, h8⟩, fun h => ?_, fun h => ?_,
      fun h => ⟨?_, State.filledAt_beyond h _⟩, fun h => ⟨State.filledAt_absent h _, State.filledAt_absent h _, State.filledAt_absent h _⟩,
      fun x hx => ?_, fun x hx => ?_⟩
    · obtain ⟨hstatus, hpulls, hnocause, hcause, hnoworst, hworst⟩ := State.items_of_unit he
      exact ⟨hstatus, hpulls, hnocause, hcause, hnoworst, hworst, fun k h1 h8 => State.items_of_progress he h1 h8⟩
    · have hpeer := State.peerAt_absent h
      have hreport : s.reportAt i = none := by rw [State.reportAt, hpeer, Option.bind_none]
      exact ⟨congrArg (fun o : Option RosterEntry => itemOf (o.bind (·.identity)) _) hpeer, congrArg (itemOf · _) hreport,
        congrArg (itemOf · _) hreport, congrArg (itemOf · _) hreport, congrArg (itemOf · _) hreport⟩
    · have hslot : s.inputSlotAt i = none := if_neg (by omega)
      exact congrArg (itemOf · _) hslot
    · have hslot : s.outputSlotAt i = none := if_neg (by omega)
      exact congrArg (itemOf · _) hslot
    · exact ⟨congrArg (itemOf · _) hx, congrArg (itemOf · _) hx, congrArg (itemOf · _) hx⟩
    · exact ⟨congrArg (itemOf · _) hx, congrArg (itemOf · _) hx⟩

end Sys2Proof.Machine
end

section
/-! PROOFS. The loader's settling of bond sets, classes, heater zones and the cool-off margin (spec/03_stage_handoff_and_heat.md R58,
spec/05_bond_energy_and_trims.md R85, spec/07_pull_verification.md R114, spec/11_line_bus_program_load_and_roll_call.md R177). -/

namespace Sys2Proof.Machine

/-! ## A value and its range -/

theorem settleNat_eq {lo hi : Nat} (h : lo ≤ hi) (n : Nat) :
    settleNat lo hi n = (max lo (min hi n), if n < lo ∨ hi < n then 1 else 0) := by
  unfold settleNat
  split
  · next hlo => rw [if_pos (.inl hlo), show max lo (min hi n) = lo by omega]
  · next hlo =>
    split
    · next hhi => rw [if_pos (.inr hhi), show max lo (min hi n) = hi by omega]
    · next hhi => rw [if_neg (by omega), show max lo (min hi n) = n by omega]

theorem settleNat_of_within {lo hi n : Nat} (hlo : lo ≤ n) (hhi : n ≤ hi) : settleNat lo hi n = (n, 0) := by
  rw [settleNat, if_neg (by omega), if_neg (by omega)]

theorem settleInt_eq {lo hi : Int} (h : lo ≤ hi) (n : Int) :
    settleInt lo hi n = (max lo (min hi n), if n < lo ∨ hi < n then 1 else 0) := by
  unfold settleInt
  split
  · next hlo => rw [if_pos (.inl hlo), show max lo (min hi n) = lo by omega]
  · next hlo =>
    split
    · next hhi => rw [if_pos (.inr hhi), show max lo (min hi n) = hi by omega]
    · next hhi => rw [if_neg (by omega), show max lo (min hi n) = n by omega]

/-- R85: a value that may not stand above another. -/
theorem takeIf_above (limit n : Nat) :
    takeIf (decide (limit < n)) limit n = (min n limit, if limit < n then 1 else 0) := by
  unfold takeIf
  by_cases h : limit < n
  · rw [decide_eq_true h, if_pos rfl, if_pos h, Nat.min_eq_right h.le]
  · rw [decide_eq_false h, if_neg Bool.false_ne_true, if_neg h, Nat.min_eq_left (Nat.le_of_not_lt h)]

/-- R85: a value that may not stand below another. -/
theorem takeIf_below (limit n : Nat) :
    takeIf (decide (n < limit)) limit n = (max n limit, if n < limit then 1 else 0) := by
  unfold takeIf
  by_cases h : n < limit
  · rw [decide_eq_true h, if_pos rfl, if_pos h, Nat.max_eq_right h.le]
  · rw [decide_eq_false h, if_neg Bool.false_ne_true, if_neg h, Nat.max_eq_left (Nat.le_of_not_lt h)]

theorem settleList_eq {α β : Type} (f : α → β × Nat) (l : List α) :
    settleList f l = (l.map fun x => (f x).1, (l.map fun x => (f x).2).sum) := by
  induction l with
  | nil => rfl
  | cons x xs ih => rw [settleList, ih, List.map_cons, List.map_cons, List.sum_cons]

/-! ## Bond sets (R85) -/

/-- R85: a bond set in range and in order. -/
structure SettledSet (g : BondSet) : Prop where
  impact_ge : 5 ≤ g.impactForce
  impact_le : g.impactForce ≤ 250
  force_ge : 5 ≤ g.bondForce
  force_le : g.bondForce ≤ 250
  power_le : g.nominalPower ≤ 1000
  ramp_le : g.rampSteps ≤ 20
  time_le : g.minTime ≤ g.maxTime
  time_ge : 5 ≤ g.maxTime
  time_most : g.maxTime ≤ 500
  target_ge : 1 ≤ g.targetSink
  target_le : g.targetSink ≤ 200
  minSink_le : g.minSink ≤ g.targetSink
  maxSink_ge : g.targetSink ≤ g.maxSink
  maxSink_le : g.maxSink ≤ 500

/-- R85: a set in range and in order is left as it is. -/
theorem SettledSet.settleBondSet_eq {g : BondSet} (h : SettledSet g) : settleBondSet g = (g, 0) := by
  obtain ⟨hi5, hi250, hf5, hf250, hp, hr, ht, ht5, ht500, hs1, hs200, hmin, hmax, hmax500⟩ := h
  simp only [settleBondSet, settleNat_of_within hi5 hi250, settleNat_of_within hf5 hf250, settleNat_of_within (Nat.zero_le _) hp,
    settleNat_of_within (Nat.zero_le _) hr, settleNat_of_within (Nat.zero_le _) (Nat.le_trans ht ht500),
    settleNat_of_within ht5 ht500, settleNat_of_within hs1 hs200,
    settleNat_of_within (Nat.zero_le _) (Nat.le_trans hmin (Nat.le_trans hs200 (by decide : 200 ≤ 500))),
    settleNat_of_within (Nat.zero_le _) hmax500, takeIf, decide_eq_false (Nat.not_lt.mpr ht), decide_eq_false (Nat.not_lt.mpr hmin),
    decide_eq_false (Nat.not_lt.mpr hmax), Bool.false_eq_true, if_false]

/-- R85: a bond set as its four steps settle it. -/
theorem settleBondSet_eq (g : BondSet) :
    settleBondSet g = (⟨max 5 (min 250 g.impactForce), max 5 (min 250 g.bondForce), max 0 (min 1000 g.nominalPower),
        max 0 (min 20 g.rampSteps), min (max 0 (min 500 g.minTime)) (max 5 (min 500 g.maxTime)), max 5 (min 500 g.maxTime),
        max 1 (min 200 g.targetSink), min (max 0 (min 500 g.minSink)) (max 1 (min 200 g.targetSink)),
        max (max 0 (min 500 g.maxSink)) (max 1 (min 200 g.targetSink))⟩,
      (if g.impactForce < 5 ∨ 250 < g.impactForce then 1 else 0) + (if g.bondForce < 5 ∨ 250 < g.bondForce then 1 else 0) +
        (if g.nominalPower < 0 ∨ 1000 < g.nominalPower then 1 else 0) + (if g.rampSteps < 0 ∨ 20 < g.rampSteps then 1 else 0) +
        (if g.minTime < 0 ∨ 500 < g.minTime then 1 else 0) + (if g.maxTime < 5 ∨ 500 < g.maxTime then 1 else 0) +
        (if g.targetSink < 1 ∨ 200 < g.targetSink then 1 else 0) + (if g.minSink < 0 ∨ 500 < g.minSink then 1 else 0) +
        (if g.maxSink < 0 ∨ 500 < g.maxSink then 1 else 0) +
        (if max 5 (min 500 g.maxTime) < max 0 (min 500 g.minTime) then 1 else 0) +
        (if max 1 (min 200 g.targetSink) < max 0 (min 500 g.minSink) then 1 else 0) +
        (if max 0 (min 500 g.maxSink) < max 1 (min 200 g.targetSink) then 1 else 0)) := by
  simp only [settleBondSet, settleNat_eq (show 5 ≤ 250 by decide), settleNat_eq (Nat.zero_le _), settleNat_eq (show 5 ≤ 500 by decide),
    settleNat_eq (show 1 ≤ 200 by decide), takeIf_above, takeIf_below]

/-- R85: the settled set is in range and in order. -/
theorem settleBondSet_settled (g : BondSet) : SettledSet (settleBondSet g).1 := by
  rw [settleBondSet_eq]
  constructor <;> dsimp only <;> omega

/-! ## Heater zones and the cool-off (R58) -/

theorem ifAbove_eq (limit n : Int) :
    (if limit < n then (limit, 1) else (n, 0) : Int × Nat) = (min n limit, if limit < n then 1 else 0) := by
  split
  · next h => rw [Int.min_eq_right h.le]
  · next h => rw [Int.min_eq_left (Int.not_lt.mp h)]

theorem ifBelow_eq (limit n : Int) :
    (if n < limit then (limit, 1) else (n, 0) : Int × Nat) = (max n limit, if n < limit then 1 else 0) := by
  split
  · next h => rw [Int.max_eq_right h.le]
  · next h => rw [Int.max_eq_left (Int.not_lt.mp h)]

/-- R58: a zone as its steps settle it. -/
theorem settleZone_eq (z : ZoneSetting) :
    settleZone z = (⟨z.enabled, max (-40) (min 500 z.tSet), min (max (-40) (min 500 z.tLow)) (max (-40) (min 500 z.tSet)),
        max (max (-40) (min 500 z.tHigh)) (max (-40) (min 500 z.tSet))⟩,
      (if z.tSet < -40 ∨ 500 < z.tSet then 1 else 0) + (if z.tLow < -40 ∨ 500 < z.tLow then 1 else 0) +
        (if z.tHigh < -40 ∨ 500 < z.tHigh then 1 else 0) +
        (if max (-40) (min 500 z.tSet) < max (-40) (min 500 z.tLow) then 1 else 0) +
        (if max (-40) (min 500 z.tHigh) < max (-40) (min 500 z.tSet) then 1 else 0)) := by
  have hrange : (-40 : Int) ≤ 500 := by decide
  simp only [settleZone, settleInt_eq hrange, ifAbove_eq, ifBelow_eq]

/-- R58: a settled zone is in range and in order. -/
theorem settleZone_order (z : ZoneSetting) :
    -40 ≤ (settleZone z).1.tLow ∧ (settleZone z).1.tLow ≤ (settleZone z).1.tSet ∧ (settleZone z).1.tSet ≤ (settleZone z).1.tHigh ∧
      (settleZone z).1.tHigh ≤ 500 := by
  rw [settleZone_eq]
  dsimp only
  omega

theorem smallestInt_spec {l : List Int} (h : l ≠ []) : ∃ y ∈ l, smallestInt l = some y ∧ ∀ x ∈ l, y ≤ x := by
  induction l with
  | nil => exact absurd rfl h
  | cons x xs ih =>
    cases xs with
    | nil => exact ⟨x, by simp [smallestInt]⟩
    | cons z zs =>
      obtain ⟨y, hy, hsome, hle⟩ := ih (List.cons_ne_nil _ _)
      refine ⟨min x y, ?_, by rw [smallestInt, hsome], ?_⟩
      · rcases Int.le_total x y with hxy | hxy
        · rw [Int.min_eq_left hxy]
          exact List.mem_cons_self
        · rw [Int.min_eq_right hxy]
          exact List.mem_cons_of_mem _ hy
      · intro w hw
        rcases List.mem_cons.mp hw with rfl | hw
        · exact Int.min_le_left _ _
        · exact Int.le_trans (Int.min_le_right _ _) (hle w hw)

/-- R58 step 4: an enabled zone with no recovery band at this margin. -/
def NoRecovery (zones : List ZoneSetting) (cool : Int) : Prop :=
  ∃ z ∈ zones, z.enabled = true ∧ z.tHigh - cool < z.tLow + cool

theorem settleBand_of_recovery {zones : List ZoneSetting} {cool : Int} (h : ¬NoRecovery zones cool) :
    settleBand zones cool = (cool, 0) := by
  refine if_neg fun hany => h ?_
  obtain ⟨z, hz, hlt⟩ := List.any_eq_true.mp hany
  obtain ⟨hmem, hon⟩ := List.mem_filter.mp hz
  exact ⟨z, hmem, hon, of_decide_eq_true hlt⟩

/-- R58 step 4: where a recovery band would be empty, the floor of half the smallest band. -/
theorem settleBand_of_noRecovery {zones : List ZoneSetting} {cool : Int} (h : NoRecovery zones cool) :
    ∃ y ∈ zones, y.enabled = true ∧ settleBand zones cool = ((y.tHigh - y.tLow) / 2, 1) ∧
      ∀ x ∈ zones, x.enabled = true → y.tHigh - y.tLow ≤ x.tHigh - x.tLow := by
  obtain ⟨z, hz, hon, hlt⟩ := h
  have hmem : z ∈ zones.filter (·.enabled) := List.mem_filter.mpr ⟨hz, hon⟩
  obtain ⟨d, hd, hsome, hle⟩ := smallestInt_spec (l := (zones.filter (·.enabled)).map fun z => z.tHigh - z.tLow)
    (List.ne_nil_of_mem (List.mem_map_of_mem hmem))
  obtain ⟨y, hy, rfl⟩ := List.mem_map.mp hd
  obtain ⟨hymem, hyon⟩ := List.mem_filter.mp hy
  refine ⟨y, hymem, hyon, ?_, fun x hx hxon => hle _ (List.mem_map_of_mem (f := fun z : ZoneSetting => z.tHigh - z.tLow)
    (List.mem_filter.mpr ⟨hx, hxon⟩))⟩
  have hany : ((zones.filter (·.enabled)).any fun z => decide (z.tHigh - cool < z.tLow + cool)) = true :=
    List.any_eq_true.mpr ⟨z, hmem, decide_eq_true hlt⟩
  rw [settleBand, if_pos hany, hsome, Option.getD_some]

/-! ## The settled program -/

/-- R85, R114: a bond class as it is settled. -/
theorem settleClass_eq (c : BondClassRow) :
    settleClass c = (⟨(settleBondSet c.first).1, (settleBondSet c.second).1, max 50 (min 60000 c.pullTest), min 60000 c.pullMin⟩,
      (settleBondSet c.first).2 + (settleBondSet c.second).2 + (if c.pullTest < 50 ∨ 60000 < c.pullTest then 1 else 0) +
        (if 60000 < c.pullMin then 1 else 0)) := by
  simp only [settleClass, settleNat_eq (show 50 ≤ 60000 by decide), settleNat_eq (Nat.zero_le 60000), Nat.zero_max, Nat.not_lt_zero,
    false_or]

theorem settleProgram_classes (p : RawProgram) : (settleProgram p).1.classes = p.classes.map fun c => (settleClass c).1 :=
  congrArg Prod.fst (settleList_eq settleClass p.classes)

theorem settleProgram_zones (p : RawProgram) : (settleProgram p).1.zones = p.zones.map fun z => (settleZone z).1 :=
  congrArg Prod.fst (settleList_eq settleZone p.zones)

theorem settleProgram_coolOff (p : RawProgram) :
    (settleProgram p).1.coolOff = (settleBand (settleProgram p).1.zones (max 1 (min 30 p.coolOff))).1 := by
  have h : (settleProgram p).1.coolOff = (settleBand (settleProgram p).1.zones (settleInt 1 30 p.coolOff).1).1 := rfl
  rw [h, settleInt_eq (by decide)]

/-- R177: classes, zones and cool-off are part of the count. -/
theorem settleProgram_count (p : RawProgram) :
    (p.classes.map fun c => (settleClass c).2).sum + (p.zones.map fun z => (settleZone z).2).sum +
      (settleInt 1 30 p.coolOff).2 + (settleBand (settleProgram p).1.zones (max 1 (min 30 p.coolOff))).2 ≤ (settleProgram p).2 := by
  have hclasses : (settleList settleClass p.classes).2 = _ := congrArg Prod.snd (settleList_eq settleClass p.classes)
  have hzones : (settleList settleZone p.zones).2 = _ := congrArg Prod.snd (settleList_eq settleZone p.zones)
  dsimp only at hclasses hzones
  have hcool : max 1 (min 30 p.coolOff) = (settleInt 1 30 p.coolOff).1 := by rw [settleInt_eq (by decide)]
  have hband : (settleProgram p).1.zones = (settleList settleZone p.zones).1 := rfl
  rw [hcool, hband, ← hclasses, ← hzones]
  unfold settleProgram
  dsimp only
  omega

/-- R58: the settled margin, where every enabled zone recovers at it. -/
theorem settleProgram_coolOff_of_recovery {p : RawProgram}
    (h : ∀ z ∈ (settleProgram p).1.zones, z.enabled = true →
      z.tLow + max 1 (min 30 p.coolOff) ≤ z.tHigh - max 1 (min 30 p.coolOff)) :
    (settleProgram p).1.coolOff = max 1 (min 30 p.coolOff) := by
  rw [settleProgram_coolOff, settleBand_of_recovery]
  rintro ⟨z, hz, hon, hlt⟩
  have hle := h z hz hon
  omega

theorem settleProgram_zone_order {p : RawProgram} {z : ZoneSetting} (hz : z ∈ (settleProgram p).1.zones) :
    -40 ≤ z.tLow ∧ z.tLow ≤ z.tSet ∧ z.tSet ≤ z.tHigh ∧ z.tHigh ≤ 500 := by
  rw [settleProgram_zones] at hz
  obtain ⟨y, -, rfl⟩ := List.mem_map.mp hz
  exact settleZone_order y

/-- R58: no settled recovery band is empty, and the margin is within 30. -/
theorem settleProgram_recovers (p : RawProgram) :
    0 ≤ (settleProgram p).1.coolOff ∧ (settleProgram p).1.coolOff ≤ 30 ∧
      ∀ z ∈ (settleProgram p).1.zones, z.enabled = true →
        z.tLow + (settleProgram p).1.coolOff ≤ z.tHigh - (settleProgram p).1.coolOff := by
  rw [settleProgram_coolOff]
  by_cases h : NoRecovery (settleProgram p).1.zones (max 1 (min 30 p.coolOff))
  · obtain ⟨y, hy, hyon, hband, hleast⟩ := settleBand_of_noRecovery h
    obtain ⟨z, hz, hon, hlt⟩ := h
    have hyz := hleast z hz hon
    have horder := settleProgram_zone_order hy
    rw [hband]
    dsimp only
    refine ⟨by omega, by omega, fun x hx hxon => ?_⟩
    have hyx := hleast x hx hxon
    omega
  · rw [settleBand_of_recovery h]
    refine ⟨by omega, by omega, fun z hz hon => ?_⟩
    by_contra hlt
    exact h ⟨z, hz, hon, by omega⟩

/-- R58, R177: a changed margin is counted. -/
theorem settleBand_counted (zones : List ZoneSetting) (cool : Int) :
    (if (settleBand zones cool).1 ≠ cool then 1 else 0) ≤ (settleBand zones cool).2 := by
  by_cases h : NoRecovery zones cool
  · obtain ⟨y, -, -, hband, -⟩ := settleBand_of_noRecovery h
    rw [hband]
    dsimp only
    split <;> omega
  · rw [settleBand_of_recovery h]
    simp

/-- Settles O8: each value by its range, each list value by value, and the margin by whether a recovery band is empty. -/
theorem loaderSettlesRanges : Obligations.LoaderSettlesRanges := by
  refine ⟨settleBondSet_eq, fun g h1 h2 h3 h4 h5 h6 h7 h8 h9 h10 h11 h12 h13 h14 =>
    SettledSet.settleBondSet_eq ⟨h1, h2, h3, h4, h5, h6, h7, h8, h9, h10, h11, h12, h13, h14⟩, fun p => ?_, fun g => ?_, fun p => ?_⟩
  · refine ⟨?_, ?_, ?_, settleProgram_coolOff_of_recovery, fun z hz hon hlt => ?_⟩
    · rw [settleProgram_classes]
      simp only [settleClass_eq]
    · rw [settleProgram_zones]
      simp only [settleZone_eq]
    · have hcount := settleProgram_count p
      have hband := settleBand_counted (settleProgram p).1.zones (max 1 (min 30 p.coolOff))
      rw [← settleProgram_coolOff] at hband
      simp only [settleClass_eq, settleZone_eq, settleInt_eq (show (1 : Int) ≤ 30 by decide)] at hcount
      exact Nat.le_trans (Nat.add_le_add_left hband _) hcount
    · obtain ⟨y, hy, hyon, hband, hleast⟩ := settleBand_of_noRecovery ⟨z, hz, hon, hlt⟩
      exact ⟨y, hy, hyon, by rw [settleProgram_coolOff, hband], hleast⟩
  · have h := settleBondSet_settled g
    exact ⟨h.impact_ge, h.impact_le, h.force_ge, h.force_le, h.power_le, h.ramp_le, h.time_le, h.time_ge, h.time_most, h.target_ge,
      h.target_le, h.minSink_le, h.maxSink_ge, h.maxSink_le, h.settleBondSet_eq⟩
  · obtain ⟨hge, hle, hrecovers⟩ := settleProgram_recovers p
    refine ⟨hge, hle, fun z hz => ?_⟩
    obtain ⟨hlow, hset, hhigh, hmost⟩ := settleProgram_zone_order hz
    exact ⟨hlow, hset, hhigh, hmost, hrecovers z hz⟩

end Sys2Proof.Machine
end

section
/-! PROOFS. The checks of an image, its segment and spare maps, its alarm levels and its pull plan
(spec/06_segments_and_takeover.md R101 to R103, spec/07_pull_verification.md R115,
spec/11_line_bus_program_load_and_roll_call.md R176). -/

namespace Sys2Proof.Machine

/-! ## The image (R176, R186) -/

/-- R176, R186: the id of an image that passes its checks. -/
theorem imageId_iff (straps : Straps) (image : Image) (id : ProgramId) :
    imageId straps image = some id ↔
      image.readOk = true ∧ structureGood straps image.fields = true ∧
        ∃ h, imageHeader image.header = some h ∧ h.format = 1 ∧ h.length = 12 ∧ 1 ≤ h.bodyLength ∧
          h.length + h.bodyLength ≤ 65536 ∧ h.bodyLength ≤ image.body.length ∧
          crc32 (image.body.take h.bodyLength) = h.check ∧ id = h.check := by
  unfold imageId
  cases hread : image.readOk with
  | false => simp
  | true =>
    cases hheader : imageHeader image.header with
    | none => simp
    | some h =>
      simp only [Bool.true_eq_false, if_false, true_and, Option.some.injEq, exists_eq_left']
      split
      · next hbad =>
        refine ⟨fun hc => absurd hc (Option.some_ne_none _).symm, fun ⟨_, hformat, hlength, hbody, hspace, _⟩ => ?_⟩
        rcases hbad with hb | hb | hb | hb
        · exact absurd hformat hb
        · exact absurd hlength hb
        · omega
        · exact absurd (Nat.lt_of_lt_of_le hb hspace) (Nat.lt_irrefl _)
      · next hgood =>
        simp only [not_or, not_not, Nat.not_lt] at hgood
        obtain ⟨hformat, hlength, hbody, hspace⟩ := hgood
        split
        · next hshort => exact ⟨fun hc => absurd hc (Option.some_ne_none _).symm, fun ⟨_, _, _, _, _, hlong, _⟩ => by omega⟩
        · next hlong =>
          split
          · next hcrc => exact ⟨fun hc => absurd hc (Option.some_ne_none _).symm, fun ⟨_, _, _, _, _, _, hok, _⟩ => absurd hok hcrc⟩
          · next hcrc =>
            split
            · next hstructure =>
              exact ⟨fun hid => ⟨hstructure, hformat, hlength, hbody, hspace, Nat.le_of_not_lt hlong, not_not.mp hcrc,
                (Option.some.inj hid).symm⟩, fun ⟨_, _, _, _, _, _, _, hid⟩ => congrArg some hid.symm⟩
            · next hstructure => exact ⟨fun hc => absurd hc (Option.some_ne_none _).symm, fun ⟨hok, _⟩ => absurd hok hstructure⟩

/-! ## The structure (R101 to R103, R176) -/

theorem mem_countFrom {i n x : Nat} : x ∈ countFrom i n ↔ i ≤ x ∧ x < i + n := by
  rw [countFrom_eq, List.mem_range'_1]

theorem mem_stationNumbers {k : Nat} : k ∈ stationNumbers ↔ 1 ≤ k ∧ k ≤ 8 := by
  simp only [stationNumbers, List.mem_cons, List.not_mem_nil, or_false]
  omega

theorem codesGood_iff (p : RawProgram) :
    codesGood p = true ↔ p.pull.auditMode ≠ none ∧ p.magazine.inputDirection ≠ none ∧ p.magazine.outputDirection ≠ none ∧
      (∀ k ∈ p.pageKinds, k ≠ none) ∧ (∀ g ∈ p.triggers, g.kind ≠ none) ∧
        ∀ d ∈ p.descriptors, d.item ≠ none ∧ d.format ≠ none := by
  simp only [codesGood, Bool.and_eq_true, List.all_eq_true, Option.isSome_iff_ne_none, and_assoc]

theorem segmentEmpty_iff (g : Segment) : segmentEmpty g = true ↔ g.last < g.first := by
  simp [segmentEmpty]

/-- R101: the segment map. -/
theorem segmentsGood_iff (p : RawProgram) :
    segmentsGood p = true ↔ p.segments.length = 8 ∧
      (∀ g ∈ p.segments, 1 ≤ g.first ∧ g.first ≤ 257 ∧ g.last ≤ 256 ∧ (g.last < g.first ∨ g.last ≤ p.wires.length)) ∧
        ∀ x, 1 ≤ x → x ≤ p.wires.length → (p.segments.filter fun g => decide (g.first ≤ x ∧ x ≤ g.last)).length = 1 := by
  have hsegment (g : Segment) : segmentGood p.wires.length g = true ↔
      1 ≤ g.first ∧ g.first ≤ 257 ∧ g.last ≤ 256 ∧ (g.last < g.first ∨ g.last ≤ p.wires.length) := by
    simp only [segmentGood, Bool.and_eq_true, Bool.or_eq_true, decide_eq_true_eq, segmentEmpty_iff, and_assoc]
  have hwires : (∀ w ∈ countFrom 1 p.wires.length, decide (holders p.segments w = 1) = true) ↔
      ∀ x, 1 ≤ x → x ≤ p.wires.length → (p.segments.filter fun g => decide (g.first ≤ x ∧ x ≤ g.last)).length = 1 := by
    constructor
    · intro h x h1 hle
      exact of_decide_eq_true (h x (mem_countFrom.mpr ⟨h1, by omega⟩))
    · intro h x hx
      obtain ⟨h1, hlt⟩ := mem_countFrom.mp hx
      exact decide_eq_true (h x h1 (by omega))
  simp only [segmentsGood, Bool.and_eq_true, decide_eq_true_eq, List.all_eq_true, hsegment]
  rw [← hwires]
  simp only [decide_eq_true_eq, and_assoc]

theorem sparesGood_iff (p : RawProgram) :
    sparesGood p = true ↔ p.spares.length = 8 ∧ ∀ k, 1 ≤ k → k ≤ 8 → p.spares.getD (k - 1) 0 = 0 ∨
      (k < p.spares.getD (k - 1) 0 ∧ p.spares.getD (k - 1) 0 ≤ 8) := by
  simp only [sparesGood, Bool.and_eq_true, decide_eq_true_eq, List.all_eq_true, mem_stationNumbers, and_imp]

theorem ownSegmentGood_iff (straps : Straps) (p : RawProgram) :
    ownSegmentGood straps p = true ↔
      (straps.role = .pull → (p.segments.getD (straps.station - 1) ⟨1, 0⟩).last < (p.segments.getD (straps.station - 1) ⟨1, 0⟩).first) := by
  rw [ownSegmentGood, Bool.or_eq_true, decide_eq_true_eq, segmentEmpty_iff]
  cases straps.role with
  | head => simp [noSegment]
  | pull => simp [noSegment]

theorem structureGood_iff (straps : Straps) (p : RawProgram) :
    structureGood straps p = true ↔ countsGood p = true ∧ wiresGood p = true ∧ codesGood p = true ∧ segmentsGood p = true ∧
      ownSegmentGood straps p = true ∧ sparesGood p = true := by
  simp only [structureGood, Bool.and_eq_true, and_assoc]

/-! ## Levels and mask (R28) -/

theorem settleProgram_mask (p : RawProgram) : (settleProgram p).1.mask = min 15 p.mask := by
  have h : (settleProgram p).1.mask = (settleNat 0 15 p.mask).1 := rfl
  rw [h, settleNat_eq (Nat.zero_le _)]
  exact Nat.zero_max _

theorem settleLevels_getElem? (k : Nat) (ls : List Nat) (i : Nat) :
    (settleLevels k ls).1[i]? = (ls[i]?).map fun l => (settleLevel (k + i) l).1 := by
  induction ls generalizing k i with
  | nil => rfl
  | cons l ls ih =>
    cases i with
    | zero => rfl
    | succ i =>
      rw [settleLevels, List.getElem?_cons_succ, List.getElem?_cons_succ, ih, Nat.add_assoc, Nat.add_comm 1]

theorem settleLevel_eq (i l : Nat) : (settleLevel i l).1 =
    match localClass i with
    | .stop => 16
    | .hold => max 1 (min 15 l)
    | .note => min 15 l := by
  unfold settleLevel
  cases localClass i with
  | stop => rfl
  | hold => exact congrArg Prod.fst (settleNat_eq (by decide) l)
  | note => exact (congrArg Prod.fst (settleNat_eq (Nat.zero_le 15) l)).trans (Nat.zero_max _)

/-! ## The plan (R115) -/

theorem planEntryBad_iff (p : Program) (x : PlanEntry) :
    planEntryBad p x = false ↔ 1 ≤ x.unit ∧ x.unit ≤ p.columns * p.rows ∧ 1 ≤ x.wire ∧ x.wire ≤ p.wires.length ∧ x.mode ≠ none := by
  have hmode : x.mode.isNone = false ↔ x.mode ≠ none := by cases x.mode <;> simp
  rw [planEntryBad, Bool.or_eq_false_iff, decide_eq_false_iff_not, hmode]
  show ¬(x.unit < 1 ∨ p.columns * p.rows < x.unit ∨ x.wire < 1 ∨ p.wires.length < x.wire) ∧ _ ↔ _
  simp only [not_or, Nat.not_lt, and_assoc]

theorem planHas_iff (plan : List PlanEntry) (u w : Nat) : planHas plan u w = true ↔ ∃ y ∈ plan, y.unit = u ∧ y.wire = w := by
  simp only [planHas, List.any_eq_true, decide_eq_true_eq]

/-- R115: no neighbours with the spacing setting on, and no three in a row. -/
theorem planCrowded_iff (p : Program) (plan : List PlanEntry) :
    planCrowded p plan = false ↔
      (p.pull.planSpacing = true → ∀ x ∈ plan, ∀ y ∈ plan, ¬(y.unit = x.unit ∧ y.wire = x.wire + 1)) ∧
      ∀ x ∈ plan, ∀ y ∈ plan, ∀ z ∈ plan, ¬(y.unit = x.unit ∧ y.wire = x.wire + 1 ∧ z.unit = x.unit ∧ z.wire = x.wire + 2) := by
  rw [planCrowded, List.any_eq_false]
  simp only [Bool.and_eq_true, Bool.or_eq_true, planHas_iff]
  constructor
  · intro h
    refine ⟨fun hs x hx y hy hxy => h x hx ⟨⟨y, hy, hxy⟩, .inl hs⟩, fun x hx y hy z hz hxyz => ?_⟩
    obtain ⟨hu, hw, hu', hw'⟩ := hxyz
    exact h x hx ⟨⟨y, hy, hu, hw⟩, .inr ⟨z, hz, hu', hw'⟩⟩
  · rintro ⟨hpair, htriple⟩ x hx ⟨⟨y, hy, hxy⟩, hs | ⟨z, hz, hxz⟩⟩
    · exact hpair hs x hx y hy hxy
    · exact htriple x hx y hy z hz ⟨hxy.1, hxy.2, hxz⟩

theorem planValid_iff (p : Program) :
    planValid p = true ↔ p.planCount ≤ 8 ∧ (∀ x ∈ p.plan.take p.planCount, planEntryBad p x = false) ∧
      planCrowded p (p.plan.take p.planCount) = false := by
  simp only [planValid, Bool.and_eq_true, decide_eq_true_eq, Bool.not_eq_true', List.any_eq_false, Bool.not_eq_true, and_assoc]

end Sys2Proof.Machine
end

section
/-! PROOFS. The end of the load (R19, R28, R40, R115, R177): what is latched stays as the alarms are told and the station leaves BOOT. -/

namespace Sys2Proof.Machine

/-! ## What stands once it is latched -/

/-- What the end of the load latches, the levels among it, is the same, and so are the entries of STOP_KEY and PROGRAM_INVALID. -/
structure Latches (s t : State) : Prop where
  loader : t.loader = s.loader
  limit : t.stage.dwell.limit = s.stage.dwell.limit
  pages : t.screen.pageCount = s.screen.pageCount
  plan : t.pull.planOn = s.pull.planOn
  mask : t.alarms.mask = s.alarms.mask
  level : ∀ j, (t.alarms.entry j).level = (s.alarms.entry j).level
  fixed : ∀ j, j = Source.stopKey ∨ j = Source.programInvalid → t.alarms.entry j = s.alarms.entry j

theorem ScreenUnit.afterAlarm_pageCount (c : ScreenUnit) (old new : AlarmUnit) (shown : Bool) :
    (c.afterAlarm old new shown).pageCount = c.pageCount := by
  unfold ScreenUnit.afterAlarm
  dsimp only
  split <;> split <;> split <;> rfl

namespace Latches

theorem refl (s : State) : Latches s s := ⟨rfl, rfl, rfl, rfl, rfl, fun _ => rfl, fun _ _ => rfl⟩

theorem trans {s t u : State} (h : Latches s t) (k : Latches t u) : Latches s u where
  loader := k.loader.trans h.loader
  limit := k.limit.trans h.limit
  pages := k.pages.trans h.pages
  plan := k.plan.trans h.plan
  mask := k.mask.trans h.mask
  level j := (k.level j).trans (h.level j)
  fixed j hj := (k.fixed j hj).trans (h.fixed j hj)

/-- A step that leaves the alarms alone. -/
theorem of_alarms {s t : State} (ha : t.alarms = s.alarms) (hl : t.loader = s.loader) (hd : t.stage.dwell.limit = s.stage.dwell.limit)
    (hc : t.screen.pageCount = s.screen.pageCount) (hp : t.pull.planOn = s.pull.planOn) : Latches s t :=
  ⟨hl, hd, hc, hp, by rw [ha], fun _ => by rw [ha], fun _ _ => by rw [ha]⟩

theorem putEntry {i : Nat} (h0 : i ≠ Source.stopKey) (h3 : i ≠ Source.programInvalid) {e : AlarmEntry} (b : Bool) {s : State}
    (he : e.level = (s.alarms.entry i).level) : Latches s (s.putEntry i e b) := by
  have hentry (j : Nat) : (s.putEntry i e b).alarms.entry j = if i = j ∧ i < s.alarms.entries.length then e else s.alarms.entry j :=
    AlarmUnit.entry_put ..
  refine ⟨rfl, rfl, ScreenUnit.afterAlarm_pageCount .., rfl, rfl, fun j => ?_, fun j hj => ?_⟩
  · rw [hentry]
    split
    · next h => rw [he, h.1]
    · rfl
  · rw [hentry, if_neg]
    rintro ⟨rfl, -⟩
    exact hj.elim h0 h3

theorem raiseAlarm {i : Nat} (h0 : i ≠ Source.stopKey) (h3 : i ≠ Source.programInvalid) (d : Detail) (s : State) :
    Latches s (s.raiseAlarm i d) := by
  unfold State.raiseAlarm
  split
  · exact refl s
  · have hlevel : ((s.alarms.entry i).raised i d).level = (s.alarms.entry i).level := by
      unfold AlarmEntry.raised
      split
      · rfl
      · split <;> rfl
    have hput := putEntry h0 h3 (decide ((s.alarms.entry i).state ≠ ((s.alarms.entry i).raised i d).state ∨
      (s.alarms.entry i).count ≠ ((s.alarms.entry i).raised i d).count)) hlevel
    exact hput.trans (of_alarms rfl rfl rfl rfl rfl)

theorem conditionGone {i : Nat} (h0 : i ≠ Source.stopKey) (h3 : i ≠ Source.programInvalid) (s : State) :
    Latches s (s.conditionGone i) := by
  unfold State.conditionGone
  dsimp only
  split <;> exact putEntry h0 h3 _ rfl

theorem setStation (st : StationState) (s : State) : Latches s (s.setStation st) := by
  unfold State.setStation
  split
  · exact refl s
  · exact of_alarms rfl rfl rfl rfl rfl

theorem requestReject (u : Nat) (c : RejectCause) (s : State) : Latches s (s.requestReject u c) := by
  unfold State.requestReject
  dsimp only [State.setUnit]
  (repeat' split) <;> exact of_alarms rfl rfl rfl rfl rfl

theorem debit (s : State) : Latches s s.debit := by
  unfold State.debit State.judgeStock
  split
  · split
    · split
      · refine trans ?_ (raiseAlarm (i := Source.wireLow) (by decide) (by decide) _ _)
        exact of_alarms rfl rfl rfl rfl rfl
      · exact of_alarms rfl rfl rfl rfl rfl
    · exact refl s
  · exact refl s

theorem abortWire (s : State) : Latches s s.abortWire := by
  unfold State.abortWire
  dsimp only
  split
  · split
    · exact ((requestReject _ _ s).trans (debit _)).trans (of_alarms rfl rfl rfl rfl rfl)
    · exact of_alarms rfl rfl rfl rfl rfl
  · exact of_alarms rfl rfl rfl rfl rfl

theorem enterStopped (s : State) : Latches s s.enterStopped := by
  have hroll : Latches s s.stopRollCall := by
    unfold State.stopRollCall
    split
    · exact of_alarms rfl rfl rfl rfl rfl
    · exact refl s
  have hpull (r : State) : Latches r r.abandonPull := of_alarms rfl rfl rfl rfl rfl
  have hindex (r : State) : Latches r r.haltIndex := by
    unfold State.haltIndex
    split
    · exact of_alarms rfl rfl rfl rfl rfl
    · exact refl r
  have helevators (r : State) : Latches r r.haltElevators := of_alarms rfl rfl rfl rfl rfl
  exact ((((hroll.trans (abortWire _)).trans (hpull _)).trans (hindex _)).trans (helevators _)).trans (setStation _ _)

theorem judgeFinding {i : Nat} (h0 : i ≠ Source.stopKey) (h3 : i ≠ Source.programInvalid) (x : Option Nat) (s : State) :
    Latches s (s.judgeFinding i x) := by
  unfold State.judgeFinding
  split
  · exact raiseAlarm h0 h3 _ s
  · exact conditionGone h0 h3 s

theorem judgeRoster (s : State) : Latches s s.judgeRoster := by
  have hgap (r : State) : Latches r r.judgeGap := by
    unfold State.judgeGap
    split
    · exact conditionGone (by decide) (by decide) r
    · exact refl r
  unfold State.judgeRoster
  split
  · exact refl s
  · exact ((judgeFinding (by decide) (by decide) _ s).trans (judgeFinding (by decide) (by decide) _ _)).trans (hgap _)

theorem enterRollCall (s : State) : Latches s s.enterRollCall := by
  have hpresent (r : State) : Latches r r.sendPresent := by
    unfold State.sendPresent
    split
    · exact of_alarms rfl rfl rfl rfl rfl
    · exact refl r
  have hready (r : State) : Latches r r.tryReady := by
    unfold State.tryReady
    split
    · have hstop : Latches r { r with line := { r.line with rollCallTimer := .stopped } } := of_alarms rfl rfl rfl rfl rfl
      exact hstop.trans (setStation _ _)
    · exact refl r
  have htimer (r : State) : Latches r { r with line := { r.line with rollCallTimer := .running Config.rollCallTime } } :=
    of_alarms rfl rfl rfl rfl rfl
  exact ((((setStation _ s).trans (hpresent _)).trans (htimer _)).trans (judgeRoster _)).trans (hready _)

theorem settle (s : State) : Latches s s.settle := by
  have hstop (r : State) : Latches r r.settleStop := by
    unfold State.settleStop
    split
    · exact enterStopped r
    · exact refl r
  unfold State.settle State.leaveStopped
  split
  · split
    · exact (setStation _ s).trans (hstop _)
    · split
      · exact (setStation _ s).trans (hstop _)
      · exact (enterRollCall s).trans (hstop _)
  · exact hstop s

theorem leaveBoot (s : State) : Latches s s.leaveBoot := by
  unfold State.leaveBoot
  split
  · exact ((enterStopped s).trans (judgeRoster _)).trans (settle _)
  · exact (enterRollCall s).trans (settle _)

theorem judgeAllZones (s : State) : Latches s s.judgeAllZones := by
  have hpause (fresh : Option Nat) (r : State) : Latches r (r.judgePause fresh) := by
    have hset : Latches r { r with heat := { r.heat with pauseRequest := r.pauseJudged } } := of_alarms rfl rfl rfl rfl rfl
    unfold State.judgePause
    dsimp only
    split
    · exact hset.trans (raiseAlarm (by decide) (by decide) _ _)
    · exact hset
    · split
      · exact hset.trans (conditionGone (by decide) (by decide) _)
      · exact hset
  have hzones : Latches s { s with heat := { s.heat with zones := s.judgedZones } } := of_alarms rfl rfl rfl rfl rfl
  unfold State.judgeAllZones
  dsimp only
  split
  · exact (hzones.trans (hpause _ _)).trans (raiseAlarm (by decide) (by decide) _ _)
  · exact hzones.trans (hpause _ _)

theorem tellMagazines (s : State) : Latches s s.tellMagazines := by
  have hinput : Latches s (if s.straps.infeed = true ∧ s.elevator.input.magazine = false then s.raiseAlarm Source.magazineEmpty .none
      else s) := by
    split
    · exact raiseAlarm (by decide) (by decide) _ s
    · exact refl s
  have houtput (r : State) : Latches r (if r.straps.outfeed = true ∧ r.elevator.output.magazine = false then
      r.raiseAlarm Source.magazineFull .none else r) := by
    split
    · exact raiseAlarm (by decide) (by decide) _ r
    · exact refl r
  exact hinput.trans (houtput _)

theorem tellClamped (s : State) : Latches s s.tellClamped := by
  unfold State.tellClamped
  split
  · exact raiseAlarm (by decide) (by decide) _ s
  · exact refl s

theorem event (k : EventKind) (s : State) : Latches s (s.event k) := of_alarms rfl rfl rfl rfl rfl

end Latches

/-! ## How the station leaves BOOT -/

theorem State.leaveBoot_station (s : State) : s.leaveBoot.control.station ≠ .boot := by
  unfold State.leaveBoot
  split
  · refine State.settle_ne_boot ?_
    simp
  · refine State.settle_ne_boot ?_
    rcases s.enterRollCall_station with h | h <;> simp [h]

/-- R19, R24: with STOP_KEY or PROGRAM_INVALID standing, BOOT ends in STOPPED. -/
theorem State.leaveBoot_stopped {s : State} {j : Nat} (hj : j = Source.stopKey ∨ j = Source.programInvalid)
    (h : (s.alarms.entry j).state ≠ .clear) : s.leaveBoot.control.station = .stopped := by
  have hstands {r : State} (hr : r.alarms.entry j = s.alarms.entry j) : r.alarms.stopStands = true := by
    rw [AlarmUnit.stopStands_iff]
    rcases hj with rfl | rfl
    · exact ⟨Source.stopKey, by decide, rfl, hr ▸ h⟩
    · exact ⟨Source.programInvalid, by decide, rfl, hr ▸ h⟩
  have hbefore := ((Latches.enterStopped s).trans (.judgeRoster _)).fixed j hj
  unfold State.leaveBoot
  rw [if_pos (hstands rfl), State.settle_of_stopped (by simp) (hstands hbefore)]
  simp

/-! ## What is latched (R28, R40, R115, R158) -/

theorem levelEntries_entry (levels : List Nat) (k : Nat) (es : List AlarmEntry) (i : Nat) :
    (levelEntries levels k es)[i]? = (es[i]?).map fun e =>
      if k + i < 32 then { e with level := levels.getD (k + i) e.level } else e := by
  induction es generalizing k i with
  | nil => rfl
  | cons e es ih =>
    cases i with
    | zero => rfl
    | succ i =>
      rw [levelEntries, List.getElem?_cons_succ, List.getElem?_cons_succ, ih, Nat.add_assoc, Nat.add_comm 1]

theorem State.latchLevels_entry {s : State} (p : Program) {i : Nat} (hlen : s.alarms.entries.length = 40) (hi : i < 32) :
    (s.latchLevels p).alarms.entry i =
      { s.alarms.entry i with level := p.levels.getD i (s.alarms.entry i).level } := by
  show (levelEntries p.levels 0 s.alarms.entries).getD i _ = _
  have hsome : s.alarms.entries[i]? = some (s.alarms.entry i) := by
    unfold AlarmUnit.entry
    rw [List.getD_eq_getElem?_getD, List.getElem?_eq_getElem (by omega), Option.getD_some]
  rw [List.getD_eq_getElem?_getD, levelEntries_entry, hsome, Option.map_some, Option.getD_some, Nat.zero_add, if_pos hi]

/-- R177: the state once all is latched and before an alarm is told. -/
def State.latched (id : ProgramId) (p : Program) (n : Nat) (s : State) : State :=
  let s1 := ((State.latchLevels p { s with loader := ⟨.valid id p, min Config.byteCap n⟩ }).latchScreen p).latchDwell
  { s1 with pull := { s1.pull with planOn := planValid p } }

theorem State.latched_dwell (id : ProgramId) (p : Program) (n : Nat) (s : State) :
    (s.latched id p n).stage.dwell.limit = p.dwellLimit := rfl

/-- R177: what follows the latching leaves what is latched. -/
theorem Latches.loadValid (id : ProgramId) (p : Program) (n : Nat) (s : State) :
    ∃ r, Latches (s.latched id p n) r ∧ s.loadValid id p n = r.leaveBoot := by
  have hplan : Latches (s.latched id p n)
      ((((State.latchLevels p { s with loader := ⟨.valid id p, min Config.byteCap n⟩ }).latchScreen p).latchDwell).latchPlan p) := by
    unfold State.latchPlan
    dsimp only
    split
    · exact raiseAlarm (by decide) (by decide) _ _
    · exact refl _
  exact ⟨_, (((((hplan.trans (judgeAllZones _)).trans (tellMagazines _)).trans (tellClamped _)).trans (event .rosterChange _)).trans
    (event .pageEnter _)), rfl⟩

/-- R19, R28, R40, R115, R177: the end of the load of an image that passes. -/
theorem loadValid_spec {s : State} (id : ProgramId) (p : Program) (n : Nat) (hlen : s.alarms.entries.length = 40) :
    let t := s.loadValid id p n
    t.loader = ⟨.valid id p, min 255 n⟩ ∧ t.stage.dwell.limit = p.dwellLimit ∧ t.control.station ≠ .boot ∧
      ((s.alarms.entry Source.stopKey).state ≠ .clear → t.control.station = .stopped) ∧
      (∀ i, i < 32 → (t.alarms.entry i).level = p.levels.getD i (s.alarms.entry i).level) ∧
      t.alarms.mask = p.mask ∧ t.screen.pageCount = p.pageCount ∧ t.pull.planOn = planValid p := by
  obtain ⟨r, hr, heq⟩ := Latches.loadValid id p n s
  have ht := hr.trans (.leaveBoot r)
  have hentry {i : Nat} (hi : i < 32) : (s.latched id p n).alarms.entry i =
      { s.alarms.entry i with level := p.levels.getD i (s.alarms.entry i).level } :=
    State.latchLevels_entry (s := { s with loader := ⟨.valid id p, min Config.byteCap n⟩ }) p hlen hi
  dsimp only
  rw [heq]
  refine ⟨ht.loader, ht.limit.trans (State.latched_dwell id p n s), r.leaveBoot_station, fun hstop => ?_, fun i hi => ?_, ht.mask, ?_, ht.plan⟩
  · refine State.leaveBoot_stopped (.inl rfl) ?_
    rw [hr.fixed _ (.inl rfl), hentry (by decide)]
    exact hstop
  · rw [ht.level, hentry hi]
  · exact ht.pages

/-- R19, R28, R170: the end of the load of an image that fails. -/
theorem loadInvalid_spec {s : State} (hlen : s.alarms.entries.length = 40) :
    let t := s.loadInvalid
    t.loader.loaded = .invalid ∧ t.control.station = .stopped ∧ t.stage.dwell.limit = s.stage.dwell.limit ∧
      (t.alarms.entry Source.programInvalid).state ≠ .clear ∧ (t.alarms.entry Source.programInvalid).condition = true := by
  obtain ⟨u, hu⟩ : ∃ u, u = State.raiseAlarm Source.programInvalid .none { s with loader := ⟨.invalid, s.loader.clamped⟩ } := ⟨_, rfl⟩
  have hentry : u.alarms.entry Source.programInvalid =
      (s.alarms.entry Source.programInvalid).raised Source.programInvalid .none := by
    rw [hu]
    exact State.raiseAlarm_entry_self (s := { s with loader := ⟨.invalid, s.loader.clamped⟩ }) _ (hlen ▸ by decide)
      (AlarmUnit.disabled_of_stop _ rfl)
  have hraised : (u.alarms.entry Source.programInvalid).state ≠ .clear ∧ (u.alarms.entry Source.programInvalid).condition = true := by
    rw [hentry, AlarmEntry.raised_of_condition (by decide)]
    split
    · simp
    · next h => exact ⟨h, rfl⟩
  have htell := Latches.tellMagazines u
  have ht := htell.trans (.leaveBoot _)
  have heq : s.loadInvalid = u.tellMagazines.leaveBoot := by rw [hu]; rfl
  dsimp only
  rw [heq, ht.fixed _ (.inr rfl)]
  refine ⟨?_, State.leaveBoot_stopped (.inr rfl) (by rw [htell.fixed _ (.inr rfl)]; exact hraised.1), ?_, hraised⟩
  · rw [ht.loader, hu]
    simp
  · rw [ht.limit, hu]
    simp

/-- Settles O7: both ends by what is latched and stays, each check by the clause that says it. -/
theorem loadEndsBoot : Obligations.LoadEndsBoot := by
  refine ⟨fun image s hshape hboot hloading => ⟨fun hid => ?_, fun id hid => ?_⟩, imageId_iff, fun straps p => ?_, fun p i => ⟨settleProgram_mask p, ?_⟩,
    fun p => ?_⟩
  · refine ⟨s.loadInvalid, ?_, loadInvalid_spec hshape.alarms⟩
    show Host.Outcome.next _ = _
    rw [if_pos ⟨hboot, hloading⟩, hid]
  · refine ⟨s.loadValid id (settleProgram image.fields).1 (settleProgram image.fields).2, ?_, loadValid_spec id _ _ hshape.alarms⟩
    show Host.Outcome.next _ = _
    rw [if_pos ⟨hboot, hloading⟩, hid]
  · dsimp only
    rw [structureGood_iff, codesGood_iff, segmentsGood_iff, ownSegmentGood_iff, sparesGood_iff]
    simp only [countsGood, wiresGood, List.all_eq_true, decide_eq_true_eq]
  · have h : (settleProgram p).1.levels = (settleLevels 0 p.levels).1 := rfl
    rw [h, settleLevels_getElem?, Nat.zero_add]
    exact congrArg (fun f => (p.levels[i]?).map f) (funext fun l => settleLevel_eq i l)
  · dsimp only
    rw [planValid_iff, planCrowded_iff]
    simp only [planEntryBad_iff]

end Sys2Proof.Machine
end
